-- ==== Sys2Proof/Word.lean ====
section
/-! DEFINITION. The words of the MW-212: the byte of the serial line, the byte strings that name series and
episodes, and the two tuners. Schedule times, durations, counts and identifiers are natural numbers, signed
offsets and local days are integers: the manual gives them as counts with a range, never as bit patterns.
Only the message link (Machine/Wire.lean, Machine/Operands.lean) turns them into bytes. -/

namespace Sys2Proof

/-- One byte of the serial line (R195). -/
abbrev Byte := BitVec 8

/-- A series ref or an episode ref: a byte string compared byte by byte (Introduction, Identifiers). -/
abbrev Ref := List Byte

/-- The two tuners, A and B (Introduction). -/
inductive Tuner where
  | a
  | b
  deriving DecidableEq, Repr

/-- The other tuner (R144). -/
def otherTuner : Tuner → Tuner
  | .a => .b
  | .b => .a

end Sys2Proof
end

