-- ==== Sys2Proof/Syntax.lean ====
section
/-! DEFINITION. The commands of the MW-212: one constructor per row of spec/opcode_table.json.

A MESSAGE of the host carries the tag of its frame and the payload of its frame, as bytes; the kind is that of the
row's message (R195, R199 and the message catalogue of chapter 11). Where the table splits one message kind into
several rows (GUIDE_DROP, GUIDE_GET, HISTORY_DROP, REC_REPORT, VIEW_CLAIM), WellFormed.lean says which payloads
belong to which row.
An EVENT of the part's own clock carries the recording, the claim or the tuner whose request falls due.
The LINE events carry the bytes the line brought. -/

namespace Sys2Proof

inductive Instr where
  -- resets of the part
  | powerOn
  | warmReset
  | coldReset
  -- the Clock Unit
  | crystalSecond
  | dayRollover
  | offsetChange
  | timeSet (tag : Byte) (payload : List Byte)
  | timeGet (tag : Byte) (payload : List Byte)
  -- the Guide Store
  | guidePut (tag : Byte) (payload : List Byte)
  | guideDropKeys (tag : Byte) (payload : List Byte)
  | guideDropService (tag : Byte) (payload : List Byte)
  | eventStatus (tag : Byte) (payload : List Byte)
  | guideGetEvent (tag : Byte) (payload : List Byte)
  | guideGetSummary (tag : Byte) (payload : List Byte)
  -- the Booking Table
  | bookEvent (tag : Byte) (payload : List Byte)
  | bookSeries (tag : Byte) (payload : List Byte)
  | bookManual (tag : Byte) (payload : List Byte)
  | bookChange (tag : Byte) (payload : List Byte)
  | bookSuspend (tag : Byte) (payload : List Byte)
  | bookResume (tag : Byte) (payload : List Byte)
  | bookDelete (tag : Byte) (payload : List Byte)
  | bookGet (tag : Byte) (payload : List Byte)
  | bookList (tag : Byte) (payload : List Byte)
  | historyAdd (tag : Byte) (payload : List Byte)
  | historyDropPair (tag : Byte) (payload : List Byte)
  | historyDropSeries (tag : Byte) (payload : List Byte)
  | historyGet (tag : Byte) (payload : List Byte)
  -- the Instance List
  | instanceGet (tag : Byte) (payload : List Byte)
  | planGet (tag : Byte) (payload : List Byte)
  | outcomeTake (tag : Byte) (payload : List Byte)
  | clashGet (tag : Byte) (payload : List Byte)
  -- the Planner
  | install
  -- Run Control: due times and delays of one recording
  | windowStart (iid : Nat)
  | coreEnd (iid : Nat)
  | heldStartLimit (iid : Nat)
  | stopMoment (iid : Nat)
  | overrunCap (iid : Nat)
  | startConfirmTimeout (iid : Nat)
  | stopConfirmTimeout (iid : Nat)
  -- Run Control: reports and claims of the host
  | recReportStarted (tag : Byte) (payload : List Byte)
  | recReportStartFailed (tag : Byte) (payload : List Byte)
  | recReportStopped (tag : Byte) (payload : List Byte)
  | viewClaimNew (tag : Byte) (payload : List Byte)
  | viewClaimChange (tag : Byte) (payload : List Byte)
  | viewRelease (tag : Byte) (payload : List Byte)
  | yieldWarning (claim : Nat)
  -- Run Control: the lock monitors
  | lockGraceEnd (tuner : Tuner)
  | lockMonitorTick (tuner : Tuner) (locked : Bool)
  | lockAbandon (tuner : Tuner)
  | windowClose (iid : Nat)
  -- the Wake Supervisor
  | keepaliveExpiry
  | wakeDue
  | wakeTimeout
  | resetPulseEnd
  | hello (tag : Byte) (payload : List Byte)
  | standby (tag : Byte) (payload : List Byte)
  | causeClear (tag : Byte) (payload : List Byte)
  | resetPart (tag : Byte) (payload : List Byte)
  -- the Condition Log
  | condRead (tag : Byte) (payload : List Byte)
  | condClear (tag : Byte) (payload : List Byte)
  | condConfig (tag : Byte) (payload : List Byte)
  -- the Link Port
  | noticeFetch (tag : Byte) (payload : List Byte)
  | actionsGet (tag : Byte) (payload : List Byte)
  | configSet (tag : Byte) (payload : List Byte)
  | configGet (tag : Byte) (payload : List Byte)
  | badCheck (kind tag : Byte) (payload : List Byte) (check : BitVec 16)
  | badKind (kind tag : Byte) (payload : List Byte)
  | frameDiscardedInHand (kind tag : Byte) (payload : List Byte)
  | lineFramingError (received : List Byte)
  | interByteTimeout (received : List Byte)
  | replySent
  | frameLengthExceeds512 (high low : Byte)
  deriving DecidableEq, Repr

end Sys2Proof
end

