-- ==== Sys2Proof/Decode.lean ====
section
/-! DEFINITION. The command that a word of the opcode table spells. The part takes messages and events, not instruction
words: no row of the table gives bits, so no word spells a command. What the bytes of a frame mean is in
Machine/Wire.lean and Machine/Operands.lean. -/

namespace Sys2Proof

/-- The command that the bits of a word spell: none, for no row of the table gives bits. -/
def decodeTableWord (_nbits _w : Nat) : Option Instr := none

end Sys2Proof
end

