-- ==== Sys2Proof/Config.lean ====
section
/-! DEFINITION. What is fixed for every MW-212: the limits of the manual's table of principal limits, and the
free values: what the manual leaves open. A free value is an opaque constant, so that nothing in Lean can
evaluate it or prove a value of it. Each one is named in the assumption log. -/

namespace Sys2Proof.Config

/-- The greatest schedule time, 4,294,967,295, and the greatest plan generation (Introduction, Time; R110). -/
abbrev maxTime : Nat := 4294967295
/-- Seconds in a day (R12). -/
abbrev dayLen : Nat := 86400
/-- The guide horizon, 8 days (R22). -/
abbrev horizon : Nat := 691200
/-- Guide events held at most (R17). -/
abbrev guideCap : Nat := 3072
/-- Bookings held at most (R35). -/
abbrev bookingCap : Nat := 128
/-- Recordings of the Instance List at most (R78). -/
abbrev instCap : Nat := 160
/-- Non-terminal recordings of one booking at most (R70). -/
abbrev perBooking : Nat := 12
/-- Alternates of one recording at most (R61). -/
abbrev altCap : Nat := 4
/-- Segments of one recording at most (R146). -/
abbrev segCap : Nat := 4
/-- Windows on one tuner at one moment at most (R104), and active recordings of a tuner (R138). -/
abbrev tunerCap : Nat := 4
/-- Episode history entries at most (R52). -/
abbrev histCap : Nat := 512
/-- Clash records at most (R136). -/
abbrev clashCap : Nat := 32
/-- Blocking-list entries and displaced members at most (R126, R134). -/
abbrev blockCap : Nat := 8
/-- Viewing claims at most (R154). -/
abbrev claimCap : Nat := 2
/-- Held queries at most (R113). -/
abbrev heldCap : Nat := 4
/-- Notices waiting at most (R202). -/
abbrev noticeCap : Nat := 48
/-- Notices of one fetch at most (R203). -/
abbrev fetchCap : Nat := 8
/-- Frames in hand at most (R198, R199). -/
abbrev handCap : Nat := 8
/-- Payload bytes of a frame at most (R195). -/
abbrev payloadCap : Nat := 512
/-- The retune gap G (R104). -/
abbrev retuneGap : Nat := 4
/-- The least time from now to a window start (R98). -/
abbrev startFloor : Nat := 5
/-- The shortest window and the shortest event (R22, R98). -/
abbrev minWindow : Nat := 60
/-- The longest event (R22). -/
abbrev maxDur : Nat := 86400
/-- Start and stop confirm timeouts in seconds (R145, R149). -/
abbrev confirmSecs : Nat := 30
/-- The wake timeout in seconds (R185). -/
abbrev wakeSecs : Nat := 180
/-- The lock monitor's grace in seconds (R146). -/
abbrev graceSecs : Nat := 5
/-- Recorded fraction from which an episode counts as recorded (R54). -/
abbrev historyFraction : Nat := 900

/-- Crystal time is counted in fifths of a crystal period, so that 100 ms is a whole number of them:
one second is 5 × 32,768 (R1, R4; log entry 4). -/
abbrev unitsPerSecond : Nat := 163840
/-- 100 ms, the lock monitor's tick (R157), in fifths of a crystal period. -/
abbrev tickUnits : Nat := 16384
/-- 200 ms, the reset pulse (R180). -/
abbrev pulseUnits : Nat := 32768
/-- 50 ms, the inter-byte timeout (R197). -/
abbrev interByteUnits : Nat := 8192

/-- The revision number of the HELLO reply less 1: the manual gives only its range, 1 to 255 (R189; log entry 10). -/
opaque freeRevision : Fin 255

/-- The free value that orders conditions submitted by one event when the manual gives them no order
(R10, R167; log entry 7). -/
opaque freeOrder : Nat → Nat

/-- Whether a day rollover reaches the Guide Store before the Planner (R14, R32; log entry 8). -/
opaque freePurgeFirst : Nat → Bool

/-- Which of several charged recordings a SIGNAL_GAP condition names (R159; log entry 9). -/
opaque freePick : Nat → Nat

end Sys2Proof.Config
end

