-- ==== Sys2Proof/Machine/State.lean ====
section
/-! DEFINITION. The state of the MW-212 as plain data, block by block as the manual divides the part, and the state
right after power-on. Every field names the rule that gives it. Times are schedule times in seconds unless a
docstring says otherwise. -/

namespace Sys2Proof.Machine

/-! ## Shared names -/

/-- An event key: service id and event id (Introduction, Identifiers). -/
structure EventKey where
  service : Nat
  event : Nat
  deriving DecidableEq, Repr

/-- Running status of an event, in the order of its numbers (R208). -/
inductive RunStatus where
  | undefined | notRunning | startsSoon | pausing | running
  deriving DecidableEq, Repr

/-- The statuses of replies (R200). -/
inductive Status where
  | ok | badCheck | badKind | badLength | badField | full | notFound | alreadyExists | busy
  | clockUnset | notAllowed | tooLate | standbyDeferred
  deriving DecidableEq, Repr

/-! ## The Clock Unit (chapter 1) -/

inductive ClockState where
  | unset | running | slewing
  deriving DecidableEq, Repr

/-- A pending offset change: change time C and new offset L1 (1.1). -/
structure OffsetChange where
  time : Nat
  offset : Int
  deriving DecidableEq, Repr

/-- What a due-time request of another block is for (R4). -/
inductive DueKind where
  | windowStart (iid : Nat)
  | coreEnd (iid : Nat)
  | heldLimit (iid : Nat)
  | stopMoment (iid : Nat)
  | overrunCap (iid : Nat)
  | windowClose (iid : Nat)
  | yieldWarning (claim : Nat)
  | graceEnd (tuner : Tuner)
  | abandon (tuner : Tuner)
  | wakeDue
  deriving DecidableEq, Repr

/-- A due-time request (R3). `delivered` is set once the count has reached it: it stays set through a backward
step, until the block takes the event or withdraws the request. -/
structure DueReq where
  kind : DueKind
  time : Nat
  delivered : Bool
  deriving DecidableEq, Repr

/-- What a delay request is for (R4). -/
inductive DelayKind where
  | startConfirm (iid : Nat)
  | stopConfirm (iid : Nat)
  | lockTick (tuner : Tuner)
  | wakeTimeout
  | resetPulse
  | keepalive
  | interByte
  deriving DecidableEq, Repr

/-- A delay request with the crystal time left to run, in fifths of a crystal period (R4); 0: elapsed, not yet taken. -/
structure DelayReq where
  kind : DelayKind
  left : Nat
  deriving DecidableEq, Repr

structure Clock where
  /-- schedule time, what every block means by now (R1) -/
  count : Nat
  cstate : ClockState
  /-- slew remainder, −2 to +2 (R9) -/
  slewRem : Int
  /-- slew phase, 0 to 9 (R9) -/
  slewPhase : Nat
  /-- sub-second phase in fifths of a crystal period, 0 to 163,839 (R1) -/
  sub : Nat
  /-- local offset in force, L0 (R10) -/
  offset : Int
  change : Option OffsetChange
  /-- the count has reached the change time and the offset-change event has not yet been taken (R15) -/
  changeDue : Bool
  /-- the Clock Unit's request for the next midnight; none while UNSET (R14, R16) -/
  nextMidnight : Option Nat
  /-- day rollovers raised and not yet taken (R14) -/
  rollovers : Nat
  dues : List DueReq
  delays : List DelayReq
  deriving DecidableEq, Repr

/-! ## The Guide Store (chapter 2) -/

/-- A guide event record (2.1). -/
structure GuideRec where
  key : EventKey
  mux : Nat
  start : Nat
  dur : Nat
  series : Option Ref
  episode : Option Ref
  status : RunStatus
  pins : Nat
  deriving DecidableEq, Repr

/-- The Guide Store: the records in store order (R17). -/
structure Guide where
  recs : List GuideRec
  deriving DecidableEq, Repr

/-! ## The Booking Table (chapter 3) -/

inductive BookingState where
  | active | suspended | spent
  deriving DecidableEq, Repr

/-- The last known event of an EVENT booking (3.1). -/
structure LastKnown where
  mux : Nat
  start : Nat
  dur : Nat
  series : Option Ref
  episode : Option Ref
  deriving DecidableEq, Repr

/-- The kind part of a MANUAL booking (3.1); the mask has Monday as its least significant bit (R208). -/
structure ManualPart where
  service : Nat
  mux : Nat
  t0 : Nat
  dur : Nat
  mask : Byte
  firstDay : Int
  lastDay : Option Int
  deriving DecidableEq, Repr

/-- The kind part of a booking (3.1); a scope of none is ANY. -/
inductive BookingPart where
  | event (key : EventKey) (last : LastKnown) (held : Bool)
  | series (ref : Ref) (scope : Option Nat) (newOnly : Bool)
  | manual (part : ManualPart)
  deriving DecidableEq, Repr

/-- A booking record (3.1). -/
structure Booking where
  id : Nat
  part : BookingPart
  bstate : BookingState
  priority : Nat
  prePad : Nat
  postPad : Nat
  follow : Bool
  minFraction : Nat
  deriving DecidableEq, Repr

/-- An entry of the episode history (R52). -/
structure HistEntry where
  series : Ref
  episode : Ref
  deriving DecidableEq, Repr

structure BookingTable where
  /-- the bookings held, in ascending booking id (R35) -/
  bookings : List Booking
  /-- the episode history, oldest first (R52) -/
  history : List HistEntry
  /-- default priority, pre-pad and post-pad (R38) -/
  defPriority : Nat
  defPrePad : Nat
  defPostPad : Nat
  deriving DecidableEq, Repr

/-! ## The Instance List (chapter 5) -/

/-- Where a recording takes its core from (5.1). -/
inductive Origin where
  | event (key : EventKey)
  | day (d : Int)
  deriving DecidableEq, Repr

/-- The states of a recording, in the order of their numbers (R208). -/
inductive InstState where
  | pending | planned | clashed | starting | recording | stopping | interrupted
  | done | missed | failed | cancelled
  deriving DecidableEq, Repr

inductive Verdict where
  | whole | trimmed | alternate | partly | lost
  deriving DecidableEq, Repr

inductive StopReason where
  | stopMoment | overrunCut | abandoned | cancelled
  deriving DecidableEq, Repr

/-- The causes of an outcome (R84). -/
inductive Cause where
  | reportedStop | hostStop | stopUnconfirmed | hostLost | windowClosed | deleted
  | startFailed | startUnconfirmed | abandoned | resumeLimit | notStarted | heldTooLong
  deriving DecidableEq, Repr

/-- A planned tuner occupancy [ws, we) (5.1). -/
structure Window where
  ws : Nat
  we : Nat
  deriving DecidableEq, Repr

/-- One recorded span; the end is absent while the span is open (5.1). -/
structure Segment where
  start : Nat
  stop : Option Nat
  deriving DecidableEq, Repr

/-- The outcome of a terminal recording (R84). -/
structure OutcomeRec where
  final : InstState
  cause : Cause
  failReason : Option Nat
  stopReason : Option StopReason
  fraction : Nat
  seconds : Nat
  time : Nat
  deriving DecidableEq, Repr

/-- Run Control's stop moment: a time, or open while the recording overruns (8.1). -/
inductive StopAt where
  | at (time : Nat)
  | opened
  deriving DecidableEq, Repr

/-- One record of the Instance List (5.1). The last three fields are the part's own and are not reported (8.1, R108). -/
structure Inst where
  id : Nat
  booking : Nat
  origin : Origin
  episode : Option Ref
  service : Nat
  mux : Nat
  start : Nat
  dur : Nat
  prePad : Nat
  postPad : Nat
  window : Option Window
  tuner : Option Tuner
  verdict : Option Verdict
  planPriority : Option Nat
  state : InstState
  alts : List EventKey
  segments : List Segment
  gapTenths : Nat
  stopReason : Option StopReason
  /-- the overrun's cap (R152) -/
  overrun : Option Nat
  /-- cut scheduled: the recording whose window start cuts this overrun (R129) -/
  cutBy : Option Nat
  startHeld : Bool
  runEnd : Option Nat
  outcome : Option OutcomeRec
  /-- the stop moment of a recording in STARTING or RECORDING (R151) -/
  stopAt : Option StopAt
  /-- the stop moment, or the run end, no longer follows the window end: an overrun has fixed it (R151, R162) -/
  stopFixed : Bool
  /-- an install wrote a greater post-pad without raising the window end; the next pass raises it (R102, R108) -/
  raiseDue : Bool
  /-- the model's own: how often the recording has entered STARTING, RECORDING, STOPPING or INTERRUPTED, by which an
  install tells that it has entered its state since the snapshot (R107; log entry 52) -/
  entries : Nat
  deriving DecidableEq, Repr

structure InstanceList where
  /-- the recordings, by core start and then id (R78) -/
  insts : List Inst
  nextId : Nat
  /-- the terminal recordings, earliest terminal first (R83) -/
  terminalOrder : List Nat
  /-- the earliest planned window start last handed on (R82) -/
  earliest : Option Nat
  deriving DecidableEq, Repr

/-! ## Run Control (chapter 8) -/

inductive MonState where
  | off | watching | dropping | gap
  deriving DecidableEq, Repr

/-- A tuner run record (8.1). -/
structure TunerRun where
  mux : Option Nat
  active : List Nat
  mon : MonState
  tol : Nat
  /-- drop time, in tenths of a second (8.1) -/
  drop : Option Nat
  grace : Option Nat
  /-- the recordings already charged for the gap that is open (R159) -/
  charged : List Nat
  /-- the lock input LOCKA or LOCKB, at its last sample: high when locked (11.9) -/
  lockPin : Bool
  deriving DecidableEq, Repr

/-- A viewing claim (8.5). -/
structure Claim where
  id : Nat
  tuner : Tuner
  mux : Nat
  priority : Nat
  yieldTo : Option Nat
  deriving DecidableEq, Repr

structure RunControl where
  tunerA : TunerRun
  tunerB : TunerRun
  claims : List Claim
  /-- gap tolerance in ticks, abandon limit and overrun limit in seconds (R139) -/
  gapTol : Nat
  abandonLimit : Nat
  overrunLimit : Nat
  deriving DecidableEq, Repr

/-! ## The Planner (chapters 6 and 7) -/

/-- The snapshot of the pass in flight (R96). -/
structure Snapshot where
  bookings : List Booking
  guide : List GuideRec
  history : List HistEntry
  insts : List Inst
  claims : List Claim
  tunerA : TunerRun
  tunerB : TunerRun
  now : Nat
  offset : Int
  change : Option OffsetChange
  deriving DecidableEq, Repr

/-- An entry of a blocking or losers list: a claim id or a recording's id (R134). -/
structure ClashEntry where
  isClaim : Bool
  id : Nat
  deriving DecidableEq, Repr

inductive Resolution where
  | alternate | displacedOthers | partly | lost
  deriving DecidableEq, Repr

/-- A clash record (R134); `from_` and `to_` are the interval [a, b). -/
structure ClashRec where
  clashId : Nat
  from_ : Nat
  to_ : Nat
  contender : Nat
  blocking : List ClashEntry
  resolution : Resolution
  losers : List ClashEntry
  deriving DecidableEq, Repr

inductive PassState where
  | idle | pass
  deriving DecidableEq, Repr

structure Planner where
  passState : PassState
  dirty : Bool
  again : Bool
  generation : Nat
  snapshot : Option Snapshot
  clashes : List ClashRec
  /-- the clash list's more flag (R136) -/
  clashMore : Bool
  deriving DecidableEq, Repr

/-! ## The Condition Log (chapter 9) -/

inductive CondClass where
  | soft | deferred | hard
  deriving DecidableEq, Repr

inductive CondCode where
  | signalGap | lockAbandoned | startFailed | startLate | stoppedEarly | overrunCut | coreClipped
  | tunerSwapped | missed | stopUnconfirmed | resumeLimit | clashLost | partialPlanned | alternateTaken
  | padTrimmed | expansionLimit | instanceTableFull | outcomeDiscarded | eventLost | hostHung | wakeFailed
  | hostRestarted | timeStepped | offsetChanged
  deriving DecidableEq, Repr

/-- The five banks (R166). -/
inductive BankId where
  | tunerA | tunerB | plan | wake | clock
  deriving DecidableEq, Repr

/-- A set of condition classes: a log mask or a report enable (9.3). -/
structure ClassSet where
  soft : Bool
  deferred : Bool
  hard : Bool
  deriving DecidableEq, Repr

/-- What a valid status record holds (R166). -/
structure CondRec where
  cls : CondClass
  code : CondCode
  iid : Option Nat
  booking : Option Nat
  time : Nat
  deriving DecidableEq, Repr

/-- A condition as submitted (R167). -/
structure Condition where
  bank : BankId
  cls : CondClass
  code : CondCode
  iid : Option Nat
  booking : Option Nat
  deriving DecidableEq, Repr

/-- A bank (R166); the record is valid exactly when it is present. -/
structure Bank where
  held : Option CondRec
  overflow : Bool
  further : Nat
  mask : ClassSet
  enable : ClassSet
  deriving DecidableEq, Repr

/-- The gap counter of a tuner bank, with its threshold and armed flag (9.6). -/
structure GapCounter where
  count : Nat
  threshold : Nat
  armed : Bool
  deriving DecidableEq, Repr

structure CondLog where
  tunerA : Bank
  tunerB : Bank
  plan : Bank
  wake : Bank
  clock : Bank
  gapA : GapCounter
  gapB : GapCounter
  deriving DecidableEq, Repr

/-! ## The Wake Supervisor (chapter 10) -/

inductive HostState where
  | awake | standby | waking | silent
  deriving DecidableEq, Repr

inductive WakeReason where
  | none
  | recording (iid : Nat)
  | powerOn
  deriving DecidableEq, Repr

/-- The reset-cause flags (R192). -/
structure Causes where
  powerOn : Bool
  warm : Bool
  cold : Bool
  deriving DecidableEq, Repr

structure WakeSup where
  host : HostState
  attempts : Nat
  reason : WakeReason
  silentFloor : Option Nat
  standbyWanted : Bool
  /-- the keepalive code; none is OFF (R181) -/
  keepCode : Option Nat
  wakeLead : Nat
  causes : Causes
  /-- the wake output, pin WAKE: high when true -/
  wakeOut : Bool
  /-- the host reset output, pin HRST: pulsing (driven low) when true -/
  resetOut : Bool
  deriving DecidableEq, Repr

/-! ## The Link Port (chapter 11) -/

inductive RxState where
  | hunt | length | header | payload | check
  deriving DecidableEq, Repr

/-- The receiver: its state and the assembly buffer (11.1, R196). `got` counts the bytes held of the field being
received; `check` holds the check bytes received. -/
structure Rx where
  rstate : RxState
  got : Nat
  len : Nat
  kind : Byte
  tag : Byte
  payload : List Byte
  check : Nat
  deriving DecidableEq, Repr

/-- The notices and the fields each carries (R202). -/
inductive NoticeBody where
  | condition (bank : BankId) (cls : CondClass) (code : CondCode) (iid : Option Nat)
  | threshold (bank : BankId) (value : Nat)
  | planChanged (generation : Nat)
  | tunerYield (claim iid : Nat) (tuner : Tuner)
  | claimRevoked (claim iid : Nat)
  | outcomeReady (final : InstState) (iid booking : Nat)
  | standbyClear (earliest : Option Nat)
  deriving DecidableEq, Repr

structure Notice where
  body : NoticeBody
  time : Nat
  deriving DecidableEq, Repr

/-- The two resets a host may request (R193). -/
inductive ResetKind where
  | warm | cold
  deriving DecidableEq, Repr

/-- A RESET_PART that has been taken (R193): its reply is still to be sent, or has been sent and the reset is due. -/
inductive ResetStage where
  | none
  | requested (kind : ResetKind)
  | due (kind : ResetKind)
  deriving DecidableEq, Repr

inductive TimeAction where
  | set | stepped | slewing | unchanged
  deriving DecidableEq, Repr

inductive HistResult where
  | added | duplicate | addedReplacingOldest
  deriving DecidableEq, Repr

/-- A line of a BOOK_LIST reply (R51). -/
structure BookSummary where
  id : Nat
  part : BookingPart
  bstate : BookingState
  priority : Nat
  nonTerminal : Nat
  terminal : Nat
  deriving DecidableEq, Repr

/-- The fields of a HELLO reply (R189). -/
structure HelloView where
  causes : Causes
  previous : HostState
  reason : WakeReason
  attempts : Nat
  cstate : ClockState
  generation : Nat
  placeable : Nat
  running : Nat
  terminal : Nat
  free : Nat
  deriving DecidableEq, Repr

/-- One bank of a COND_READ, COND_CLEAR or COND_CONFIG reply (R175 to R177). -/
structure BankView where
  id : BankId
  bank : Bank
  gap : Option GapCounter
  deriving DecidableEq, Repr

/-- An entry of the action list (R205); a stop carries its reason. -/
structure ActionEntry where
  isStop : Bool
  iid : Nat
  tuner : Option Tuner
  mux : Nat
  service : Nat
  stopReason : Option StopReason
  deriving DecidableEq, Repr

/-- What follows the status and flags of a reply. -/
inductive ReplyBody where
  | empty
  | bookingId (id : Nat)
  | timeSet (action : TimeAction) (count : Nat) (cstate : ClockState)
  | timeGet (count : Nat) (cstate : ClockState) (slewRem offset : Int) (change : Option OffsetChange)
      (dayIndex : Nat) (localDay : Int)
  | guidePut (inserted replaced evicted ignored held : Nat)
  | guideDrop (removed notFound held : Nat)
  | runStatus (previous : RunStatus)
  | guideRec (rec_ : GuideRec)
  | guideSummary (held free pinned : Nat) (range : Option (Nat × Nat))
  | bookState (previous : BookingState)
  | bookDelete (cancelled stopping done : Nat)
  | booking (b : Booking) (nonTerminal terminal : Nat)
  | bookList (held : Nat) (items : List BookSummary) (next : Option Nat)
  | historyAdd (result : HistResult) (removed : Option HistEntry)
  | historyDrop (removed held : Nat)
  | historyGet (held first : Nat) (entries : List HistEntry) (next : Option Nat)
  | recording (i : Inst) (generation : Nat)
  | plan (generation selected first : Nat) (next : Option Nat) (items : List Inst)
  | outcome (i : Inst)
  | clashes (generation held : Nat) (more : Bool) (first : Nat) (items : List ClashRec) (next : Option Nat)
  | report (state : InstState)
  | claim (id : Nat) (tuner : Tuner)
  | hello (view : HelloView)
  | standbyDeferred (running : Nat) (earliest : Option Nat)
  | causes (held : Causes)
  | condRead (items : List BankView)
  | condClear (items : List BankView)
  | condConfig (items : List BankView)
  | notices (overflow : Bool) (left : Nat) (items : List Notice)
  | actions (items : List ActionEntry)
  | settings (items : List (Nat × Nat))
  deriving DecidableEq, Repr

/-- A reply (R200): its kind and tag, and the fields its payload carries. -/
structure Reply where
  kind : Byte
  tag : Byte
  status : Status
  clamped : Bool
  againPending : Bool
  body : ReplyBody
  deriving DecidableEq, Repr

inductive Query where
  | plan (start stop index : Nat)
  | clash (index : Nat)
  deriving DecidableEq, Repr

/-- A held query (R113). -/
structure HeldQuery where
  tag : Byte
  query : Query
  deriving DecidableEq, Repr

structure Link where
  rx : Rx
  /-- frames in hand (11.1) -/
  inHand : Nat
  /-- the transmit order, first made first (R201) -/
  tx : List Reply
  held : List HeldQuery
  /-- the notice queue, oldest first (R202) -/
  notices : List Notice
  overflow : Bool
  /-- the action set, in ascending id (R82) -/
  actionSet : List Nat
  /-- the attention output, pin ATTN: high when true (R204) -/
  attn : Bool
  /-- a RESET_PART that has been taken (R193, R201) -/
  reset : ResetStage
  /-- the bytes of the frame last sent whole on the line, pin TXD (R195, R201) -/
  txd : List Byte
  deriving DecidableEq, Repr

/-! ## The whole part -/

structure State where
  clk : Clock
  gst : Guide
  bkt : BookingTable
  lst : InstanceList
  pln : Planner
  run : RunControl
  cnd : CondLog
  wsv : WakeSup
  lnk : Link
  /-- the MODEL's own counter: each use of a free value reads it and advances it (log entry 7) -/
  free : Nat
  /-- the commands that wait, first in, first out -/
  pending : List Instr
  deriving DecidableEq, Repr

/-! ## Why a step may stop -/

/-- The machine stops with a fault: never. The manual names no situation in which the part stops, so the
type has no constructor and the kernel knows that no command ends in a fault (safe). -/
inductive Fault where
  deriving DecidableEq, Repr

/-- A command that has no meaning in the model. -/
inductive Refusal where
  /-- Raised by an arm of Machine/Dispatch.lean whose command has no meaning yet; safe: nothing is claimed of it. -/
  | notModelled (mnemonic : String)
  deriving DecidableEq, Repr

/-! ## Power-on values -/

/-- An idle tuner run record (R165). -/
def idleTuner : TunerRun :=
  { mux := none, active := [], mon := .off, tol := 0, drop := none, grace := none, charged := [], lockPin := false }

/-- The receiver at rest (R209). -/
def idleRx : Rx :=
  { rstate := .hunt, got := 0, len := 0, kind := 0, tag := 0, payload := [], check := 0 }

/-- A bank after power-on or COLD (R179): nothing held, nothing masked, HARD and DEFERRED reported. -/
def freshBank : Bank :=
  { held := none, overflow := false, further := 0,
    mask := { soft := false, deferred := false, hard := false },
    enable := { soft := false, deferred := true, hard := true } }

/-- A gap counter after power-on or COLD (R179). -/
def freshGap : GapCounter := { count := 0, threshold := 0, armed := true }

/-- The Clock Unit after power-on (R16), with the delay of the wake that the power-on begins (R194). -/
def powerOnClock : Clock :=
  { count := 0, cstate := .unset, slewRem := 0, slewPhase := 0, sub := 0, offset := 0, change := none,
    changeDue := false, nextMidnight := none, rollovers := 0, dues := [],
    delays := [{ kind := .wakeTimeout, left := Config.wakeSecs * Config.unitsPerSecond }] }

/-- The Booking Table after power-on and COLD (R57). -/
def freshBookings : BookingTable :=
  { bookings := [], history := [], defPriority := 4, defPrePad := 120, defPostPad := 300 }

/-- The Instance List after every reset (R92). -/
def freshList : InstanceList :=
  { insts := [], nextId := 1, terminalOrder := [], earliest := none }

/-- The Planner after every reset, with dirty clear (R116). -/
def freshPlanner : Planner :=
  { passState := .idle, dirty := false, again := false, generation := 0, snapshot := none, clashes := [],
    clashMore := false }

/-- Run Control after power-on and COLD (R165). -/
def freshRun : RunControl :=
  { tunerA := idleTuner, tunerB := idleTuner, claims := [], gapTol := 20, abandonLimit := 120,
    overrunLimit := 10800 }

/-- The Condition Log after power-on and COLD (R179). -/
def freshLog : CondLog :=
  { tunerA := freshBank, tunerB := freshBank, plan := freshBank, wake := freshBank, clock := freshBank,
    gapA := freshGap, gapB := freshGap }

/-- The Wake Supervisor after power-on (R194). -/
def powerOnWake : WakeSup :=
  { host := .waking, attempts := 1, reason := .powerOn, silentFloor := none, standbyWanted := false,
    keepCode := some 4, wakeLead := 120, causes := { powerOn := true, warm := false, cold := false },
    wakeOut := true, resetOut := false }

/-- The Link Port after every reset (R209). -/
def freshLink : Link :=
  { rx := idleRx, inHand := 0, tx := [], held := [], notices := [], overflow := false, actionSet := [],
    attn := false, reset := .none, txd := [] }

/-- The part right after power-on (R16, R34, R57, R92, R116, R165, R179, R194, R209), no command waiting. -/
def State.reset : State :=
  { clk := powerOnClock, gst := { recs := [] }, bkt := freshBookings, lst := freshList, pln := freshPlanner,
    run := freshRun, cnd := freshLog, wsv := powerOnWake, lnk := freshLink, free := 0, pending := [] }

end Sys2Proof.Machine
end

