-- ==== Sys2Proof/Machine/Ops.lean ====
section
/-! DEFINITION. The named operations that every command's meaning is written with: reading and updating the parts of
the state, the Clock Unit's requests and delays (R3, R4), the notice queue (R202), the Condition Log's write
(R167 to R173), and sorting. -/

namespace Sys2Proof.Machine

open Sys2Proof

/-! ## Lists kept in an order -/

/-- Insert `x` before the first element that `lt x` says comes later; equal elements keep their order. -/
def insertBy {α : Type} (lt : α → α → Bool) (x : α) : List α → List α
  | [] => [x]
  | y :: ys => if lt x y then x :: y :: ys else y :: insertBy lt x ys

/-- The list in the order `lt`; elements equal under `lt` keep their relative order. -/
def sortBy {α : Type} (lt : α → α → Bool) (xs : List α) : List α :=
  xs.foldl (fun acc x => insertBy lt x acc) []

/-- Ascending order of numbers. -/
def natLt (a b : Nat) : Bool := decide (a < b)

/-- Put `x` at position `k` of a list (at the end when the list is shorter). -/
def insertNth {α : Type} : Nat → α → List α → List α
  | 0, x, ys => x :: ys
  | _ + 1, x, [] => [x]
  | k + 1, x, y :: ys => y :: insertNth k x ys

/-- A list in an order that only the free value knows (log entry 7): every order can come out. -/
def freeOrderOf {α : Type} (key : Nat) : List α → List α
  | [] => []
  | x :: xs =>
    match freeOrderOf (key + 1) xs with
    | [] => [x]
    | y :: ys => insertNth (Config.freeOrder key % (ys.length + 2)) x (y :: ys)

/-- One element of a list, picked by the free value when there is a choice (log entry 9). -/
def freePickOf (key : Nat) : List Nat → Option Nat
  | [] => none
  | [x] => some x
  | x :: y :: zs => some ((x :: y :: zs).getD (Config.freePick key % (zs.length + 2)) x)

/-! ## Reading the state -/

/-- Now: the Clock Unit's count (R1). -/
def now (s : State) : Nat := s.clk.count

/-- The clock has been set (R2). -/
def clockSet (s : State) : Bool := s.clk.cstate != .unset

/-- The host is AWAKE (R180). -/
def hostAwake (s : State) : Bool := s.wsv.host == .awake

def isPlaceable : InstState → Bool
  | .pending | .planned | .clashed => true
  | _ => false

def isRunning : InstState → Bool
  | .starting | .recording | .stopping | .interrupted => true
  | _ => false

def isTerminal : InstState → Bool
  | .done | .missed | .failed | .cancelled => true
  | _ => false

/-- The recording with an id, where the list holds it. -/
def findInst (iid : Nat) (s : State) : Option Inst := s.lst.insts.find? (fun i => i.id == iid)

/-- The booking with an id, where the table holds it. -/
def findBooking (bid : Nat) (s : State) : Option Booking := s.bkt.bookings.find? (fun b => b.id == bid)

/-- The booking is held by the table. -/
def bookingHeld (bid : Nat) (s : State) : Bool := s.bkt.bookings.any (fun b => b.id == bid)

/-- The guide record of a key in a list of records. -/
def recOf (k : EventKey) (recs : List GuideRec) : Option GuideRec := recs.find? (fun r => r.key == k)

def tunerRun (t : Tuner) (s : State) : TunerRun :=
  match t with
  | .a => s.run.tunerA
  | .b => s.run.tunerB

/-- The bank of a tuner (R166). -/
def tunerBank : Tuner → BankId
  | .a => .tunerA
  | .b => .tunerB

/-- The bank of the tuner a recording holds, or PLAN when it holds none (R141). -/
def bankOf (i : Inst) : BankId :=
  match i.tuner with
  | some t => tunerBank t
  | none => .plan

/-- The Instance List's counts: placeable, running and terminal recordings (R78). -/
def placeableCount (s : State) : Nat := (s.lst.insts.filter (fun i => isPlaceable i.state)).length
def runningCount (s : State) : Nat := (s.lst.insts.filter (fun i => isRunning i.state)).length
def terminalCount (s : State) : Nat := (s.lst.insts.filter (fun i => isTerminal i.state)).length

/-- A booking's non-terminal and terminal recordings (R51, R78). -/
def liveCount (bid : Nat) (s : State) : Nat :=
  (s.lst.insts.filter (fun i => i.booking == bid && !isTerminal i.state)).length
def endedCount (bid : Nat) (s : State) : Nat :=
  (s.lst.insts.filter (fun i => i.booking == bid && isTerminal i.state)).length

/-! ## Updating the state -/

def modClk (f : Clock → Clock) (s : State) : State := { s with clk := f s.clk }
def modBkt (f : BookingTable → BookingTable) (s : State) : State := { s with bkt := f s.bkt }
def modLst (f : InstanceList → InstanceList) (s : State) : State := { s with lst := f s.lst }
def modPln (f : Planner → Planner) (s : State) : State := { s with pln := f s.pln }
def modRun (f : RunControl → RunControl) (s : State) : State := { s with run := f s.run }
def modCnd (f : CondLog → CondLog) (s : State) : State := { s with cnd := f s.cnd }
def modWsv (f : WakeSup → WakeSup) (s : State) : State := { s with wsv := f s.wsv }
def modLnk (f : Link → Link) (s : State) : State := { s with lnk := f s.lnk }
def setRecs (recs : List GuideRec) (s : State) : State := { s with gst := { recs := recs } }

/-- Advance the free-value counter (log entry 7). -/
def bumpFree (s : State) : State := { s with free := s.free + 1 }

/-- Change the recording with an id; its place in the list is kept. -/
def modInst (iid : Nat) (f : Inst → Inst) (s : State) : State :=
  modLst (fun l => { l with insts := l.insts.map (fun i => if i.id == iid then f i else i) }) s

/-- Change the tuner run record of a tuner. -/
def modTuner (t : Tuner) (f : TunerRun → TunerRun) (s : State) : State :=
  match t with
  | .a => modRun (fun r => { r with tunerA := f r.tunerA }) s
  | .b => modRun (fun r => { r with tunerB := f r.tunerB }) s

/-- The order of the Instance List: core start, then id (R78). -/
def instLt (a b : Inst) : Bool :=
  decide (a.start < b.start) || (a.start == b.start && decide (a.id < b.id))

/-! ## Due-time requests (R3) -/

/-- Make a request, in place of one of the same kind. A request whose time is already reached is delivered at once;
while the clock is UNSET nothing is delivered (R2, R3). -/
def requestDue (k : DueKind) (t : Nat) (s : State) : State :=
  modClk (fun c => { c with
    dues := c.dues.filter (fun d => d.kind != k) ++
      [{ kind := k, time := t, delivered := c.cstate != .unset && decide (t ≤ c.count) }] }) s

/-- Withdraw a request. -/
def withdrawDue (k : DueKind) (s : State) : State :=
  modClk (fun c => { c with dues := c.dues.filter (fun d => d.kind != k) }) s

/-- Withdraw every request of a list of kinds. -/
def withdrawDues (ks : List DueKind) (s : State) : State :=
  modClk (fun c => { c with dues := c.dues.filter (fun d => !ks.contains d.kind) }) s

/-- The request of a kind that is held. -/
def heldDue (k : DueKind) (s : State) : Option DueReq := s.clk.dues.find? (fun d => d.kind == k)

/-- Keep the request that is held for this very time, or make one. -/
def ensureDue (k : DueKind) (t : Nat) (s : State) : State :=
  match heldDue k s with
  | some d => if d.time == t then s else requestDue k t s
  | none => requestDue k t s

/-- Take a time event: the delivered request of a kind leaves the requests; none when no such request has been
delivered (log entry 2). -/
def takeDue (k : DueKind) (s : State) : Option State :=
  if s.clk.dues.any (fun d => d.kind == k && d.delivered) then some (withdrawDue k s) else none

/-- Deliver every request the count has reached (R3). -/
def deliverDues (c : Clock) : Clock :=
  { c with dues := c.dues.map (fun d => if d.time ≤ c.count then { d with delivered := true } else d) }

/-! ## Delay requests (R4) -/

/-- Start a delay of a crystal time, or restart it. -/
def startDelay (k : DelayKind) (units : Nat) (s : State) : State :=
  modClk (fun c => { c with delays := c.delays.filter (fun d => d.kind != k) ++ [{ kind := k, left := units }] }) s

def cancelDelay (k : DelayKind) (s : State) : State :=
  modClk (fun c => { c with delays := c.delays.filter (fun d => d.kind != k) }) s

def secs (n : Nat) : Nat := n * Config.unitsPerSecond

/-- Crystal time passes for every delay (R4). -/
def elapseDelays (units : Nat) (c : Clock) : Clock :=
  { c with delays := c.delays.map (fun d => { d with left := d.left - units }) }

/-- Take the end of a delay: when it has elapsed, or when it elapses within the current second; in the second case
the crystal runs on to that moment (log entry 4). None when the delay is not held or runs on past the second. -/
def takeDelay (k : DelayKind) (s : State) : Option State :=
  match s.clk.delays.find? (fun d => d.kind == k) with
  | none => none
  | some d =>
    if s.clk.sub + d.left < Config.unitsPerSecond then
      some (cancelDelay k (modClk (fun c => { elapseDelays d.left c with sub := c.sub + d.left }) s))
    else if d.left = 0 then some (cancelDelay k s)
    else none

/-- The time of the lock monitors: tenths of a second of schedule time (R157). -/
def monTime (s : State) : Nat := 10 * s.clk.count + 10 * s.clk.sub / Config.unitsPerSecond

/-! ## The notice queue (R202) -/

/-- Post a notice carrying a time. -/
def postNoticeAt (b : NoticeBody) (t : Nat) (s : State) : State :=
  modLnk (fun l =>
    if l.notices.length < Config.noticeCap then { l with notices := l.notices ++ [{ body := b, time := t }] }
    else { l with overflow := true }) s

/-- Post a notice with the count as its time. -/
def postNotice (b : NoticeBody) (s : State) : State := postNoticeAt b (now s) s

/-! ## The Condition Log (R166 to R173) -/

def bankAt (b : BankId) (c : CondLog) : Bank :=
  match b with
  | .tunerA => c.tunerA
  | .tunerB => c.tunerB
  | .plan => c.plan
  | .wake => c.wake
  | .clock => c.clock

def setBank (b : BankId) (v : Bank) (c : CondLog) : CondLog :=
  match b with
  | .tunerA => { c with tunerA := v }
  | .tunerB => { c with tunerB := v }
  | .plan => { c with plan := v }
  | .wake => { c with wake := v }
  | .clock => { c with clock := v }

/-- The gap counter of a tuner's bank (9.6). -/
def gapAt (t : Tuner) (c : CondLog) : GapCounter :=
  match t with
  | .a => c.gapA
  | .b => c.gapB

def setGap (t : Tuner) (v : GapCounter) (c : CondLog) : CondLog :=
  match t with
  | .a => { c with gapA := v }
  | .b => { c with gapB := v }

def hasClass (m : ClassSet) : CondClass → Bool
  | .soft => m.soft
  | .deferred => m.deferred
  | .hard => m.hard

/-- The rank of a class: 1 SOFT, 2 DEFERRED, 3 HARD (9.2). -/
def classRank : CondClass → Nat
  | .soft => 1
  | .deferred => 2
  | .hard => 3

/-- Write or count a logged condition (R169, R170). -/
def writeRecord (r : CondRec) (b : Bank) : Bank :=
  match b.held with
  | none => { b with held := some r }
  | some h =>
    { b with
      held := some (if classRank h.cls < classRank r.cls then r else h)
      overflow := true
      further := min 255 (b.further + 1) }

/-- Submit a condition (R167): masked (R168), or written or counted and then reported (R171). -/
def submit (c : Condition) (s : State) : State :=
  let b := bankAt c.bank s.cnd
  if hasClass b.mask c.cls then s
  else
    let r : CondRec := { cls := c.cls, code := c.code, iid := c.iid, booking := c.booking, time := now s }
    let s1 := modCnd (setBank c.bank (writeRecord r b)) s
    if hasClass b.enable c.cls then postNotice (.condition c.bank c.cls c.code c.iid) s1 else s1

/-- Submit several conditions one after another. -/
def submitAll (cs : List Condition) (s : State) : State := cs.foldl (fun acc c => submit c acc) s

/-- Submit the conditions of one event to which the manual gives no order (R10, R167): in a free order. -/
def submitFree (cs : List Condition) (s : State) : State :=
  if cs.length ≤ 1 then submitAll cs s else bumpFree (submitAll (freeOrderOf s.free cs) s)

/-- A condition about a recording, with its booking id, which not every rule that submits one names (R167; log entry 9). -/
def condFor (bank : BankId) (cls : CondClass) (code : CondCode) (i : Inst) : Condition :=
  { bank := bank, cls := cls, code := code, iid := some i.id, booking := some i.booking }

/-- The advance of a tuner bank's gap counter with its threshold test (R172, R173). -/
def advanceGap (t : Tuner) (s : State) : State :=
  let g := gapAt t s.cnd
  let n := min 65535 (g.count + 1)
  if g.threshold ≠ 0 ∧ g.count < n ∧ n = g.threshold ∧ g.armed = true then
    postNotice (.threshold (tunerBank t) g.threshold)
      (modCnd (setGap t { g with count := n, armed := false }) s)
  else modCnd (setGap t { g with count := n }) s

/-! ## The Planner's flags (R93) -/

/-- Set the dirty flag: the dirty flag itself while IDLE, the again flag while a pass is in flight. -/
def setDirty (s : State) : State :=
  modPln (fun p =>
    match p.passState with
    | .idle => { p with dirty := true }
    | .pass => { p with again := true }) s

/-- Set the dirty flag when a condition holds. -/
def setDirtyIf (b : Bool) (s : State) : State := if b then setDirty s else s

/-- The snapshot of the state (R96). -/
def snapshotOf (s : State) : Snapshot :=
  { bookings := s.bkt.bookings, guide := s.gst.recs, history := s.bkt.history, insts := s.lst.insts,
    claims := s.run.claims, tunerA := s.run.tunerA, tunerB := s.run.tunerB, now := now s,
    offset := s.clk.offset, change := s.clk.change }

/-- Begin a pass when the Planner is IDLE, dirty is set and the clock is set (R94). -/
def beginPass (s : State) : State :=
  if s.pln.passState = .idle ∧ s.pln.dirty = true ∧ clockSet s = true then
    modPln (fun p => { p with passState := .pass, dirty := false, snapshot := some (snapshotOf s) }) s
  else s

end Sys2Proof.Machine
end

