-- ==== Sys2Proof/Machine/Records.lean ====
section
/-! DEFINITION. Run Control's shared operations over the Instance List (chapters 5 and 8): what was recorded, the lock
monitors' charges and closing, terminal entry, starting, stopping, interruption and resume, and the viewing claims.
The commands' meanings are in Machine/Running.lean. -/

namespace Sys2Proof.Machine

open Sys2Proof

/-! ## What was recorded (R164) -/

/-- Seconds that [a, b) and [c, d) share. -/
def overlapLen (a b c d : Nat) : Nat := min b d - max a c

/-- Core seconds covered by a recording's closed segments. -/
def coreCovered (i : Inst) : Nat :=
  (i.segments.map (fun g => overlapLen g.start (g.stop.getD g.start) i.start (i.start + i.dur))).foldl (· + ·) 0

/-- Recorded seconds: covered less the whole seconds of lock gap, within 0 and D. -/
def recordedSeconds (i : Inst) : Nat := min i.dur (coreCovered i - i.gapTenths / 10)

/-- Recorded fraction in per-mille; 0 for a recording without segments. -/
def recordedFraction (i : Inst) : Nat := 1000 * recordedSeconds i / i.dur

/-- Close an open segment at a time, or at its start when the time is earlier (R83, R146). -/
def closeSegment (t : Nat) (g : Segment) : Segment :=
  match g.stop with
  | some _ => g
  | none => { g with stop := some (max t g.start) }

def closeSegments (t : Nat) (i : Inst) : Inst := { i with segments := i.segments.map (closeSegment t) }

/-- The start of a recording's open segment. -/
def openStart (i : Inst) : Option Nat := (i.segments.find? (fun g => g.stop.isNone)).map (fun g => g.start)

/-! ## Episode history and spent bookings (R46, R47, R53, R54) -/

/-- Insert a pair into the history, the same way for every source (R53). -/
def insertHistory (e : HistEntry) (s : State) : State × HistResult × Option HistEntry :=
  if s.bkt.history.contains e then (s, .duplicate, none)
  else if s.bkt.history.length < Config.histCap then
    (setDirty (modBkt (fun b => { b with history := b.history ++ [e] }) s), .added, none)
  else
    (setDirty (modBkt (fun b => { b with history := b.history.drop 1 ++ [e] }) s), .addedReplacingOldest,
      s.bkt.history.head?)

/-- Make a booking SPENT. -/
def makeSpent (bid : Nat) (s : State) : State :=
  modBkt (fun t => { t with
    bookings := t.bookings.map (fun b => if b.id == bid then { b with bstate := .spent } else b) }) s

/-- Remove a SPENT booking that no recording carries any longer (R47). -/
def removeSpent (bid : Nat) (s : State) : State :=
  if s.lst.insts.any (fun i => i.booking == bid) then s
  else modBkt (fun t => { t with
    bookings := t.bookings.filter (fun b => !(b.id == bid && b.bstate == .spent)) }) s

/-- The series ref a booking's history entries take (R54). -/
def historySeries : BookingPart → Ref
  | .event _ last _ => last.series.getD []
  | .series r _ _ => r
  | .manual _ => []

/-- Run Control hands the Booking Table a DONE recording with its fraction (R46, R54, R83). -/
def handDone (i : Inst) (fraction : Nat) (s : State) : State :=
  match findBooking i.booking s with
  | none => s
  | some b =>
    let s1 :=
      match i.episode with
      | some ep =>
        if Config.historyFraction ≤ fraction then
          (insertHistory { series := historySeries b.part, episode := ep } s).1
        else s
      | none => s
    match b.part with
    | .event _ _ _ => removeSpent b.id (makeSpent b.id s1)
    | _ => s1

/-! ## The tuner run records (R138) -/

/-- A recording joins a tuner's active recordings; an idle tuner takes its multiplex. -/
def joinActive (t : Tuner) (i : Inst) (s : State) : State :=
  modTuner t (fun r => { r with active := r.active ++ [i.id], mux := some i.mux }) s

/-- A recording leaves a tuner run record; the tuner goes idle when it was the last. -/
def dropActive (iid : Nat) (r : TunerRun) : TunerRun :=
  if r.active.contains iid then
    let rest := r.active.filter (fun k => k != iid)
    { r with active := rest, mux := if rest.isEmpty then none else r.mux }
  else r

/-- A recording leaves the active recordings of the tuner that holds it. -/
def leaveActive (iid : Nat) (s : State) : State :=
  modTuner .b (dropActive iid) (modTuner .a (dropActive iid) s)

/-- The recordings in RECORDING on a tuner, in ascending id. -/
def recordingOn (t : Tuner) (s : State) : List Inst :=
  sortBy (fun a b => natLt a.id b.id) (s.lst.insts.filter (fun i => i.state == .recording && i.tuner == some t))

/-- The active recordings of a tuner (R138). -/
def activeOn (t : Tuner) (s : State) : List Inst :=
  (tunerRun t s).active.filterMap (fun iid => findInst iid s)

/-! ## The lock monitors (R157 to R161) -/

/-- Charge a recording on a tuner for the open gap up to a monitor time: the tenths inside its core and inside its
open segment, never more in all than ten times its core (R159, R164). -/
def chargeGap (t : Tuner) (upTo : Nat) (iid : Nat) (s : State) : State :=
  match findInst iid s, (tunerRun t s).drop with
  | some i, some d =>
    match openStart i with
    | none => s
    | some g =>
      let amount := min upTo (10 * (i.start + i.dur)) - max (max d (10 * i.start)) (10 * g)
      if amount = 0 then s
      else
        modTuner t (fun r => { r with charged := r.charged.filter (fun k => k != iid) ++ [iid] })
          (modInst iid (fun j => { j with gapTenths := min (10 * j.dur) (j.gapTenths + amount) }) s)
  | _, _ => s

/-- A recording is about to leave RECORDING: it is charged for a gap that is open on its tuner (R159). Where the monitor
is only DROPPING no gap is open, and it is charged nothing, though that drop may yet be declared a gap (log entry 23). -/
def chargeLeaving (iid : Nat) (s : State) : State :=
  match findInst iid s with
  | none => s
  | some i =>
    match i.state, i.tuner with
    | .recording, some t => if (tunerRun t s).mon = .gap then chargeGap t (monTime s) iid s else s
    | _, _ => s

/-- Close the gap of a tuner at now: the charges, then the hand-off to the Condition Log (R159, R172). -/
def closeGap (t : Tuner) (s : State) : State :=
  let s1 := (recordingOn t s).foldl (fun acc i => chargeGap t (monTime s) i.id acc) s
  let named := freePickOf s1.free (tunerRun t s1).charged
  let s2 := withdrawDue (.abandon t) (modTuner t (fun r => { r with drop := none, charged := [] }) (bumpFree s1))
  submit { bank := tunerBank t, cls := .deferred, code := .signalGap, iid := named, booking := none }
    (advanceGap t s2)

/-- The monitor becomes OFF; an open gap is closed first (R161). -/
def monitorOff (t : Tuner) (s : State) : State :=
  let s1 := if (tunerRun t s).mon = .gap then closeGap t s else s
  cancelDelay (.lockTick t) (withdrawDues [.graceEnd t, .abandon t]
    (modTuner t (fun r => { r with mon := .off, tol := 0, drop := none, grace := none, charged := [] }) s1))

/-- The monitor becomes OFF when no recording remains RECORDING on its tuner (R161). -/
def monitorCheck (t : Tuner) (s : State) : State :=
  if s.lst.insts.any (fun i => i.state == .recording && i.tuner == some t) then s
  else if (tunerRun t s).mon = .off ∧ (tunerRun t s).grace = none then s
  else monitorOff t s

/-- The monitor check of the tuner a recording holds. -/
def monitorCheckOf (i : Inst) (s : State) : State :=
  match i.tuner with
  | some t => monitorCheck t s
  | none => s

/-! ## Terminal entry (R83 to R85) -/

/-- The due-time requests held under a recording's own id (R83). -/
def instDues (iid : Nat) : List DueKind :=
  [.windowStart iid, .coreEnd iid, .heldLimit iid, .stopMoment iid, .overrunCap iid, .windowClose iid]

/-- The yield warnings withdrawn with a recording's requests (R83, R99): those of the claims marked to yield to it. A
TUNER_YIELD notice already posted stays in the queue as it was posted (R156; log entry 19). -/
def warningsFor (iid : Nat) (s : State) : List DueKind :=
  (s.run.claims.filter (fun c => c.yieldTo == some iid)).map (fun c => .yieldWarning c.id)

/-- Withdraw every request and delay held for a recording (R83). A mark that names it stays on its claim (R156). -/
def withdrawInst (iid : Nat) (s : State) : State :=
  cancelDelay (.startConfirm iid) (cancelDelay (.stopConfirm iid)
    (withdrawDues (instDues iid ++ warningsFor iid s) s))

/-- The record of a recording at terminal entry: segment closed at now, outcome written (R83, R84). -/
def finished (final : InstState) (cause : Cause) (failReason : Option Nat) (t : Nat) (i : Inst) : Inst :=
  let c := closeSegments t i
  { c with
    state := final, overrun := none, startHeld := false, runEnd := none, stopAt := none, stopFixed := false, raiseDue := false
    outcome := some { final := final, cause := cause, failReason := failReason, stopReason := i.stopReason,
                      fraction := recordedFraction c, seconds := recordedSeconds c, time := t } }

/-- Terminal entry: requests withdrawn, outcome written, the tuner left, and the hand-offs made (R83, R85, R95). The
recording's place in the terminal order is taken at the end of the event (Machine/Flags.lean). -/
def terminate (iid : Nat) (final : InstState) (cause : Cause) (failReason : Option Nat) (s : State) : State :=
  match findInst iid s with
  | none => s
  | some i0 =>
    let s1 := withdrawInst iid (chargeLeaving iid s)
    let s2 := modInst iid (finished final cause failReason (now s)) s1
    let s3 := monitorCheckOf i0 (leaveActive iid s2)
    let s4 := if final = .cancelled then s3 else postNotice (.outcomeReady final iid i0.booking) s3
    let s5 :=
      match final, findInst iid s4 with
      | .done, some i => handDone i (recordedFraction i) s4
      | _, _ => s4
    setDirtyIf (final == .failed || final == .missed || i0.overrun.isSome) s5

/-- A recording becomes MISSED with its HARD condition (R141). -/
def missInst (cause : Cause) (iid : Nat) (s : State) : State :=
  match findInst iid s with
  | none => s
  | some i =>
    let bank := if i.state = .planned then bankOf i else .plan
    submit (condFor bank .hard .missed i) (terminate iid .missed cause none s)

/-! ## Stopping (R148, R149) -/

/-- A recording in RECORDING enters STOPPING (R148). -/
def enterStopping (reason : StopReason) (iid : Nat) (s : State) : State :=
  match findInst iid s with
  | none => s
  | some i =>
    if i.state = .recording then
      let s1 := withdrawDues [.stopMoment iid, .overrunCap iid, .coreEnd iid] (chargeLeaving iid s)
      let s2 := modInst iid (fun j => { j with
        state := .stopping, stopReason := some reason, overrun := none, stopAt := none, stopFixed := false
        entries := j.entries + 1
        window := j.window.map (fun w =>
          if w.ws < now s ∧ now s < w.we then { w with we := now s } else w) }) s1
      setDirtyIf i.overrun.isSome
        (monitorCheckOf i (startDelay (.stopConfirm iid) (secs Config.confirmSecs) s2))
    else s

/-- A STOPPING recording ends: FAILED when it was abandoned, else DONE with the cause given (R149, R162). -/
def endStopping (cause : Cause) (i : Inst) (s : State) : State :=
  if i.stopReason = some .abandoned then terminate i.id .failed .abandoned none s
  else terminate i.id .done cause none s

/-- A recording is cut by a later start: STOPPING with OVERRUN_CUT, DEFERRED to the tuner's bank (R143, R144). -/
def cutOverrun (t : Tuner) (i : Inst) (s : State) : State :=
  submit (condFor (tunerBank t) .deferred .overrunCut i) (enterStopping .overrunCut i.id s)

/-! ## Viewing claims (R155, R156) -/

/-- Remove a claim with its yield warning; the Planner's dirty flag is set. -/
def removeClaim (cid : Nat) (s : State) : State :=
  setDirty (withdrawDue (.yieldWarning cid)
    (modRun (fun r => { r with claims := r.claims.filter (fun c => c.id != cid) }) s))

/-- A claim is revoked for a recording's start (R156). -/
def revokeClaim (cid iid : Nat) (s : State) : State :=
  removeClaim cid (postNotice (.claimRevoked cid iid) s)

/-- All claims are dropped; no notice is posted (R155). -/
def dropClaims (s : State) : State :=
  if s.run.claims.isEmpty then s
  else setDirty (withdrawDues (s.run.claims.map (fun c => .yieldWarning c.id))
    (modRun (fun r => { r with claims := [] }) s))

/-! ## Starting (R142 to R144) -/

/-- L, the held-start limit: the lesser of W_e − 60 and S + D (R140). -/
def heldLimit (i : Inst) : Nat :=
  min ((i.window.map (fun w => w.we)).getD 0 - Config.minWindow) (i.start + i.dur)

/-- W_s and W_e of a recording's window. -/
def winStart (i : Inst) : Nat := (i.window.map (fun w => w.ws)).getD 0
def winEnd (i : Inst) : Nat := (i.window.map (fun w => w.we)).getD 0

/-- The plan priority Run Control compares (R101). -/
def planPrio (i : Inst) : Nat := i.planPriority.getD 0

/-- A tuner is free for a recording (R143). -/
def freeFor (t : Tuner) (i : Inst) (s : State) : Bool :=
  (activeOn t s).all (fun j => j.mux == i.mux) && decide ((tunerRun t s).active.length < Config.tunerCap) &&
    s.run.claims.all (fun c => c.tuner != t || c.mux == i.mux)

/-- The recordings among the obstacles on a tuner (R144). -/
def obstacleInsts (t : Tuner) (i : Inst) (s : State) : List Inst :=
  (activeOn t s).filter (fun j => j.mux != i.mux || decide (Config.tunerCap ≤ (tunerRun t s).active.length))

/-- The claims among the obstacles on a tuner (R144). -/
def obstacleClaims (t : Tuner) (i : Inst) (s : State) : List Claim :=
  s.run.claims.filter (fun c => c.tuner == t && c.mux != i.mux)

/-- A recording enters STARTING on a tuner that is free for it (R143); a resume takes its run end as its stop moment
(R163). -/
def startOn (t : Tuner) (resume late : Bool) (iid : Nat) (s : State) : State :=
  match findInst iid s with
  | none => s
  | some i =>
    let stop := if resume then i.runEnd.getD (winEnd i) else winEnd i
    let s1 := withdrawDues [.windowStart iid, .heldLimit iid, .windowClose iid] s
    let s2 := modInst iid (fun j => { j with
      state := .starting, tuner := some t, startHeld := false, runEnd := none, stopAt := some (.at stop)
      stopFixed := resume && j.stopFixed, entries := j.entries + 1 }) s1
    let s3 := requestDue (.stopMoment iid) stop (joinActive t i s2)
    let s4 := startDelay (.startConfirm iid) (secs Config.confirmSecs) s3
    let s5 := if now s < i.start + i.dur then ensureDue (.coreEnd iid) (i.start + i.dur) s4
      else withdrawDue (.coreEnd iid) s4
    if late = true ∧ i.start < now s then submit (condFor (tunerBank t) .deferred .startLate i) s5 else s5

/-- A recording waits for its tuner: a PLANNED one with start held, an INTERRUPTED one with a window close (R144, R163). -/
def waitForTuner (resume : Bool) (iid : Nat) (s : State) : State :=
  match findInst iid s with
  | none => s
  | some i =>
    if resume then ensureDue (.windowClose iid) (i.runEnd.getD 0 - Config.startFloor) s
    else ensureDue (.heldLimit iid) (heldLimit i) (modInst iid (fun j => { j with startHeld := true }) s)

/-- The handovers the plan arranged for a recording on its tuner (R143), the recordings in ascending id (log entry 56). -/
def handovers (t : Tuner) (iid : Nat) (s : State) : State :=
  let s1 := ((recordingOn t s).filter (fun j => j.cutBy == some iid)).foldl (fun acc j => cutOverrun t j acc) s
  (s1.run.claims.filter (fun c => c.tuner == t && c.yieldTo == some iid)).foldl
    (fun acc c => revokeClaim c.id iid acc) s1

/-- An obstacle that a recording of higher plan priority may cut: a RECORDING one past its window (R144). -/
def cuttable (t : Nat) (i j : Inst) : Bool :=
  j.state == .recording && j.mux != i.mux && decide (winEnd j ≤ t) && decide (planPrio j < planPrio i)

/-- The start attempt when the tuner is not free (R144). Several obstacles are cut in the order in which they joined the
tuner, then claims are revoked in ascending id (log entry 56). -/
def blockedStart (t : Tuner) (resume late : Bool) (i : Inst) (s : State) : State :=
  let insts := obstacleInsts t i s
  let claims := obstacleClaims t i s
  let other := otherTuner t
  if insts.all (fun j => j.state == .stopping) && claims.isEmpty then waitForTuner resume i.id s
  else if freeFor other i s then
    setDirty (submit (condFor (tunerBank other) .soft .tunerSwapped i) (startOn other resume late i.id s))
  else if insts.all (cuttable (now s) i) && claims.all (fun c => decide (c.priority < planPrio i)) then
    let s1 := insts.foldl (fun acc j => cutOverrun t j acc) s
    let s2 := claims.foldl (fun acc c => revokeClaim c.id i.id acc) s1
    if freeFor t i s2 then startOn t resume late i.id s2 else waitForTuner resume i.id s2
  else waitForTuner resume i.id s

/-- The start attempt of a recording on the tuner it holds (R143); a resume makes no handover (R163). -/
def startAttempt (resume late : Bool) (iid : Nat) (s : State) : State :=
  match findInst iid s with
  | none => s
  | some i =>
    match i.tuner with
    | none => s
    | some t =>
      let s1 := if resume then s else handovers t iid s
      if freeFor t i s1 then startOn t resume late iid s1 else blockedStart t resume late i s1

/-! ## Interruption and resume (R162, R163) -/

/-- The run end of a recording that is interrupted (R162). -/
def runEndOf (t : Nat) (i : Inst) : Nat :=
  if i.overrun.isSome then t
  else
    match i.stopFixed, i.stopAt with
    | true, some (.at m) => m
    | _, _ => winEnd i

/-- One recording at a failure of the host (R162). -/
def interruptInst (iid : Nat) (s : State) : State :=
  match findInst iid s with
  | none => s
  | some i =>
    match i.state with
    | .starting | .recording =>
      let s1 := withdrawInst iid (chargeLeaving iid s)
      let s2 := modInst iid (fun j =>
        { closeSegments (now s) j with
          state := .interrupted, overrun := none, stopAt := none, entries := j.entries + 1
          runEnd := some (runEndOf (now s) i), stopFixed := i.stopFixed || i.overrun.isSome }) s1
      setDirtyIf i.overrun.isSome (monitorCheckOf i (leaveActive iid s2))
    | .stopping => endStopping .hostLost i s
    | _ => s

/-- The ids of the recordings a test selects, in ascending id. -/
def idsWhere (p : Inst → Bool) (s : State) : List Nat :=
  sortBy natLt ((s.lst.insts.filter p).map (fun i => i.id))

/-- The interruption of the host's work on both tuners, the claims dropped first (R162), the recordings of both in
ascending id (log entry 56). -/
def interruptHost (s : State) : State :=
  let s1 := dropClaims s
  let s2 := (idsWhere (fun i => isRunning i.state) s1).foldl (fun acc iid => interruptInst iid acc) s1
  monitorOff .b (monitorOff .a s2)

/-- An INTERRUPTED recording is judged (R163). -/
def judgeResume (iid : Nat) (s : State) : State :=
  match findInst iid s with
  | none => s
  | some i =>
    if i.state = .interrupted then
      if i.runEnd.getD 0 ≤ now s + Config.startFloor then terminate iid .done .windowClosed none s
      else if Config.segCap ≤ i.segments.length then
        submit (condFor (bankOf i) .hard .resumeLimit i) (terminate iid .failed .resumeLimit none s)
      else startAttempt true false iid s
    else s

/-- The PLANNED recordings with start held, in ascending W_s and then id (R144, R163). -/
def heldStarts (s : State) : List Nat :=
  (sortBy (fun a b => decide (winStart a < winStart b) || (winStart a == winStart b && natLt a.id b.id))
    (s.lst.insts.filter (fun i => i.state == .planned && i.startHeld))).map (fun i => i.id)

/-- The INTERRUPTED recordings, in ascending id. -/
def interruptedIds (s : State) : List Nat := idsWhere (fun i => i.state == .interrupted) s

/-- One start attempt of a PLANNED recording whose start waits (R144). -/
def retryHeld (iid : Nat) (s : State) : State :=
  match findInst iid s with
  | none => s
  | some i => if i.state = .planned ∧ i.startHeld = true then startAttempt false true iid s else s

/-- A held start taken up at HELLO (R163). -/
def takeHeld (iid : Nat) (s : State) : State :=
  match findInst iid s with
  | none => s
  | some i =>
    if i.state = .planned ∧ i.startHeld = true then
      if now s + Config.startFloor < heldLimit i then startAttempt false true iid s
      else missInst .heldTooLong iid s
    else s

/-- The two steps of R163 at a HELLO: resumes, then held starts. -/
def takeUpWork (s : State) : State :=
  let s1 := (interruptedIds s).foldl (fun acc iid => judgeResume iid acc) s
  (heldStarts s1).foldl (fun acc iid => takeHeld iid acc) s1

/-- One round of the starts that wait for a tuner: resumes first, then PLANNED starts (R144). -/
def retryWaiting (s : State) : State :=
  let s1 := (interruptedIds s).foldl (fun acc iid => judgeResume iid acc) s
  (heldStarts s1).foldl (fun acc iid => retryHeld iid acc) s1

/-- Something the waiting starts wait for has changed between two moments of an event: a recording has left a
tuner's active recordings, or a claim has been released, changed, dropped or revoked (R138, R144, R155). -/
def waitChanged (before after : State) : Bool :=
  !(before.run.tunerA.active.all (fun k => after.run.tunerA.active.contains k)) ||
  !(before.run.tunerB.active.all (fun k => after.run.tunerB.active.contains k)) ||
  !(before.run.claims.all (fun c => after.run.claims.any (fun d =>
    d.id == c.id && d.tuner == c.tuner && d.mux == c.mux && d.priority == c.priority)))

/-- Retry the waiting starts, again whenever a retry has itself changed what they wait for; each such round revokes
a claim, so `fuel` of one more than the claims held suffices. -/
def retryRounds : Nat → State → State → State
  | 0, _, s => s
  | fuel + 1, before, s =>
    if hostAwake s && waitChanged before s then retryRounds fuel s (retryWaiting s) else s

/-- Retry the waiting starts after an event that began at `before` (R144). -/
def retryStarts (before s : State) : State := retryRounds (s.run.claims.length + 2) before s

/-! ## Overrun (R152, R153) -/

/-- The overrun of a recording ends by its origin's status or removal: the stop moment becomes fixed (R153). One that
is already reached falls due at once. -/
def fixOverrun (iid : Nat) (s : State) : State :=
  match findInst iid s with
  | none => s
  | some i =>
    match i.overrun with
    | none => s
    | some cap =>
      let stop := min (now s + i.postPad) cap
      let s1 := withdrawDue (.overrunCap iid) (modInst iid (fun j => { j with
        overrun := none, stopAt := some (.at stop), stopFixed := true }) s)
      if stop ≤ now s then setDirty (enterStopping .stopMoment iid s1)
      else setDirty (requestDue (.stopMoment iid) stop s1)

/-- The Guide Store hands Run Control a change of running status of an event, or its removal (none) (R28, R153). -/
def handStatus (k : EventKey) (status : Option RunStatus) (s : State) : State :=
  if status = some .running ∨ status = some .pausing then s
  else
    (idsWhere (fun i => i.origin == .event k && i.overrun.isSome &&
      (i.state == .starting || i.state == .recording)) s).foldl (fun acc iid => fixOverrun iid acc) s

end Sys2Proof.Machine
end

