-- ==== Sys2Proof/Machine/Flags.lean ====
section
/-! DEFINITION. What one event settles at its end: the starts that wait for a tuner, the terminal order, the two
summaries of the Instance List, the wake due request, the standby retest, the attention output, and the beginning of a
planning pass. One event that changes several recordings hands on a summary once, as it stands at its end (R82). -/

namespace Sys2Proof.Machine

open Sys2Proof

/-- The recordings in PLANNED. -/
def plannedInsts (s : State) : List Inst := s.lst.insts.filter (fun i => i.state == .planned)

/-- The lesser of a number and what was found before. -/
def minOpt (acc : Option Nat) (n : Nat) : Option Nat :=
  match acc with
  | none => some n
  | some m => some (min m n)

/-- The earliest planned window start: the least W_s among recordings in PLANNED (R82). -/
def earliestPlanned (s : State) : Option Nat := (plannedInsts s).foldl (fun acc i => minOpt acc (winStart i)) none

/-- The recordings in STARTING or STOPPING, in ascending id (R82). -/
def actionIds (s : State) : List Nat := idsWhere (fun i => i.state == .starting || i.state == .stopping) s

/-- The terminal recordings that have no place in the terminal order yet, in ascending id. -/
def newTerminals (l : InstanceList) : List Nat :=
  sortBy natLt (((l.insts.filter (fun i => isTerminal i.state)).map (fun i => i.id)).filter
    (fun k => !l.terminalOrder.contains k))

/-- The recordings that became terminal in this event join the terminal order in ascending id (R83). -/
def placeTerminals (s : State) : State :=
  modLst (fun l => { l with terminalOrder := l.terminalOrder ++ newTerminals l }) s

/-- The two summaries are handed on (R82). -/
def handSummaries (s : State) : State :=
  modLnk (fun l => { l with actionSet := actionIds s })
    (modLst (fun l => { l with earliest := earliestPlanned s }) s)

/-- The time of the wake due request the Wake Supervisor holds (R184). -/
def wakeTarget (s : State) : Option Nat :=
  match s.wsv.host, s.lst.earliest with
  | .standby, some w => some (w - s.wsv.wakeLead)
  | .silent, some w => if s.wsv.silentFloor.getD 0 < w then some (w - s.wsv.wakeLead) else none
  | _, _ => none

/-- The wake due request is made, replaced or withdrawn (R184). -/
def syncWake (s : State) : State :=
  match wakeTarget s with
  | some t => ensureDue .wakeDue t s
  | none => withdrawDue .wakeDue s

/-- The standby test (R190). -/
def standbyTest (s : State) : Bool :=
  runningCount s == 0 &&
    (match s.lst.earliest with
     | none => true
     | some w => decide (now s + s.wsv.wakeLead + 60 ≤ w))

/-- The standby test is made again when one of its inputs has changed (R191). -/
def retestStandby (changed : Bool) (s : State) : State :=
  if changed = true ∧ s.wsv.standbyWanted = true ∧ s.wsv.host = .awake ∧ standbyTest s = true then
    modWsv (fun w => { w with standbyWanted := false }) (postNotice (.standbyClear s.lst.earliest) s)
  else s

/-- The attention output follows the notice queue and the action set (R204). -/
def setAttention (s : State) : State :=
  modLnk (fun l => { l with attn := !l.notices.isEmpty || !l.actionSet.isEmpty }) s

/-- The end of an event that began at `before`, but for the waiting starts. -/
def settleOutputs (before s : State) : State :=
  let s1 := handSummaries (placeTerminals s)
  let changed := runningCount before != runningCount s1 || before.lst.earliest != s1.lst.earliest
  beginPass (setAttention (retestStandby changed (syncWake s1)))

/-- The end of an event that began at `before`. -/
def settle (before s : State) : State := settleOutputs before (retryStarts before s)

end Sys2Proof.Machine
end

