-- ==== Sys2Proof/Machine/Operands.lean ====
section
/-! DEFINITION. The payloads of the host's messages, read by the field encoding of R208: fields in the order their
owning rule lists them, numbers most significant byte first, an optional field behind a presence byte, a ref behind
its length byte. A payload whose length does not suit the message is answered BAD_LENGTH (R199, R200). -/

namespace Sys2Proof.Machine

open Sys2Proof

/-- What a reader took from a payload: the value, whether one of its bytes is a value the message refuses, and the
bytes that remain. The length is judged before any field (R199), so a refused byte is only marked while the rest is
read; `parseAll` answers for it. -/
structure Parsed (α : Type) where
  val : α
  bad : Bool
  rest : List Byte
  deriving DecidableEq, Repr

/-- A reader of a payload: what it took, or the status the message is refused with. -/
abbrev Parser (α : Type) := List Byte → Except Status (Parsed α)

def pPure {α : Type} (a : α) : Parser α := fun bs => .ok { val := a, bad := false, rest := bs }

/-- The same value with a byte marked as refused. -/
def pMark {α : Type} (a : α) : Parser α := fun bs => .ok { val := a, bad := true, rest := bs }

def pBind {α β : Type} (p : Parser α) (f : α → Parser β) : Parser β := fun bs =>
  match p bs with
  | .ok r => (f r.val r.rest).map (fun q => { q with bad := r.bad || q.bad })
  | .error e => .error e

def pMap {α β : Type} (f : α → β) (p : Parser α) : Parser β := pBind p (fun a => pPure (f a))

def pFail {α : Type} (e : Status) : Parser α := fun _ => .error e

/-- One byte as a number. -/
def pU8 : Parser Nat
  | b :: rest => .ok { val := b.toNat, bad := false, rest := rest }
  | [] => .error .badLength

/-- Two bytes, most significant first. -/
def pU16 : Parser Nat
  | a :: b :: rest => .ok { val := a.toNat * 256 + b.toNat, bad := false, rest := rest }
  | _ => .error .badLength

/-- Four bytes, most significant first. -/
def pU32 : Parser Nat
  | a :: b :: c :: d :: rest =>
    .ok { val := ((a.toNat * 256 + b.toNat) * 256 + c.toNat) * 256 + d.toNat, bad := false, rest := rest }
  | _ => .error .badLength

/-- Four bytes in two's complement. -/
def pI32 : Parser Int :=
  pMap (fun (n : Nat) => if n < 2147483648 then Int.ofNat n else Int.ofNat n - 4294967296) pU32

def pByte : Parser Byte
  | b :: rest => .ok { val := b, bad := false, rest := rest }
  | [] => .error .badLength

/-- `n` bytes. -/
def pBytes (n : Nat) : Parser (List Byte) := fun bs =>
  if bs.length < n then .error .badLength else .ok { val := bs.take n, bad := false, rest := bs.drop n }

/-- A ref: a length byte and that many bytes, whatever the length (R208). -/
def pRef : Parser Ref := pBind pU8 pBytes

/-- A flag byte: 0 clear, 1 set (log entry 15); any other value is marked as refused, and stands for 1 where a length is
to be judged (log entry 14). -/
def pFlag : Parser Bool := pBind pU8 (fun n =>
  match n with
  | 0 => pPure false
  | 1 => pPure true
  | _ => pMark true)

/-- An optional field behind its presence byte (R208); a presence byte above 1 is a marked flag byte. -/
def pOpt {α : Type} (p : Parser α) : Parser (Option α) := pBind pFlag (fun present =>
  if present then pMap some p else pPure none)

/-- A reader repeated `n` times. -/
def pMany {α : Type} (p : Parser α) : Nat → Parser (List α)
  | 0 => pPure []
  | n + 1 => pBind p (fun a => pMap (fun as => a :: as) (pMany p n))

/-- Read a whole payload: bytes left over do not suit the message, and only a payload of a suitable length is
refused for a byte of it (R199). -/
def parseAll {α : Type} (p : Parser α) (bs : List Byte) : Except Status α :=
  match p bs with
  | .ok { val := a, bad := false, rest := [] } => .ok a
  | .ok { val := _, bad := true, rest := [] } => .error .badField
  | .ok { val := _, bad := _, rest := _ :: _ } => .error .badLength
  | .error e => .error e

/-- A message without fields. -/
def pNone : Parser Unit := pPure ()

/-! ## The messages, field by field -/

def pKey : Parser EventKey := pBind pU16 (fun s => pMap (fun e => { service := s, event := e }) pU16)

/-- Running status by its number (R208). -/
def runStatusOf : Nat → Option RunStatus
  | 0 => some .undefined
  | 1 => some .notRunning
  | 2 => some .startsSoon
  | 3 => some .pausing
  | 4 => some .running
  | _ => none

/-- TIME_SET: time, offset, optionally C and L1 (R5). -/
structure TimeSetMsg where
  time : Nat
  offset : Int
  change : Option OffsetChange
  deriving DecidableEq, Repr

/-- TIME_SET: time, offset, and C with L1; an offset takes four bytes (R5; log entry 15). -/
def pTimeSet : Parser TimeSetMsg :=
  pBind pU32 (fun t => pBind pI32 (fun o =>
    pMap (fun c => { time := t, offset := o, change := c })
      (pOpt (pBind pU32 (fun c => pMap (fun l => { time := c, offset := l }) pI32)))))

/-- A guide event entry of GUIDE_PUT (11.7); the status is kept as its number, to be judged by R21. -/
structure GuideEntry where
  key : EventKey
  mux : Nat
  start : Nat
  dur : Nat
  series : Option Ref
  episode : Option Ref
  status : Option Nat
  deriving DecidableEq, Repr

/-- A field present exactly when a bit of the presence byte is set. -/
def pWhen {α : Type} (present : Bool) (p : Parser α) : Parser (Option α) :=
  if present then pMap some p else pPure none

def pGuideEntry : Parser GuideEntry :=
  pBind pKey (fun k => pBind pU16 (fun m => pBind pU32 (fun s => pBind pU32 (fun d =>
    pBind pByte (fun pres => pBind (pWhen (pres.getLsbD 2) pU8) (fun st =>
      pBind (pWhen (pres.getLsbD 0) pRef) (fun sr =>
        pMap (fun er => { key := k, mux := m, start := s, dur := d, series := sr, episode := er, status := st })
          (pWhen (pres.getLsbD 1) pRef))))))))

/-- GUIDE_PUT: a count from 1 to 16 and the entries (R21). -/
def pGuidePut : Parser (List GuideEntry) := pBind pU8 (fun n =>
  if 1 ≤ n ∧ n ≤ 16 then pMany pGuideEntry n else pFail .badLength)

/-- GUIDE_DROP in its two forms (R29, R30, R208). -/
inductive GuideDropMsg where
  | keys (ks : List EventKey)
  | service (id : Nat)
  deriving DecidableEq, Repr

def pGuideDrop : Parser GuideDropMsg := pBind pU8 (fun form =>
  match form with
  | 0 => pBind pU8 (fun n =>
      if 1 ≤ n ∧ n ≤ 32 then pMap .keys (pMany pKey n) else pFail .badLength)
  | 1 => pMap .service pU16
  | _ => pFail .badField)

/-- EVENT_STATUS: key and running status (R31). -/
def pEventStatus : Parser (EventKey × Nat) := pBind pKey (fun k => pMap (fun n => (k, n)) pU8)

/-- The optional common fields of the add commands (R37). -/
structure CommonMsg where
  priority : Option Nat
  prePad : Option Nat
  postPad : Option Nat
  follow : Option Bool
  minFraction : Option Nat
  deriving DecidableEq, Repr

def pCommon : Parser CommonMsg :=
  pBind (pOpt pU8) (fun p => pBind (pOpt pU32) (fun pre => pBind (pOpt pU32) (fun post =>
    pBind (pOpt pFlag) (fun f => pMap
      (fun m => { priority := p, prePad := pre, postPad := post, follow := f, minFraction := m }) (pOpt pU16)))))

/-- BOOK_EVENT: key and the common fields (R40). -/
def pBookEvent : Parser (EventKey × CommonMsg) := pBind pKey (fun k => pMap (fun c => (k, c)) pCommon)

/-- BOOK_SERIES: series ref, scope, new-only flag and the common fields (R41). -/
structure BookSeriesMsg where
  ref : Ref
  scope : Option Nat
  newOnly : Option Bool
  common : CommonMsg
  deriving DecidableEq, Repr

def pBookSeries : Parser BookSeriesMsg :=
  pBind pRef (fun r => pBind (pOpt pU16) (fun s => pBind (pOpt pFlag) (fun n =>
    pMap (fun c => { ref := r, scope := s, newOnly := n, common := c }) pCommon)))

/-- BOOK_MANUAL: service, multiplex, t0, D, day mask, first day, last day and the common fields (R42). -/
def pManualPart : Parser ManualPart :=
  pBind pU16 (fun s => pBind pU16 (fun m => pBind pU32 (fun t => pBind pU32 (fun d =>
    pBind pByte (fun mask => pBind pI32 (fun f =>
      pMap (fun l => { service := s, mux := m, t0 := t, dur := d, mask := mask, firstDay := f, lastDay := l })
        (pOpt pI32)))))))

def pBookManual : Parser (ManualPart × CommonMsg) :=
  pBind pManualPart (fun m => pMap (fun c => (m, c)) pCommon)

/-- A field of BOOK_CHANGE with its new value (R43, R208). `refused` is a field number that is refused wherever it
stands; the bytes after it are not examined. -/
inductive ChangeField where
  | priority (v : Nat)
  | prePad (v : Nat)
  | postPad (v : Nat)
  | follow (v : Bool)
  | minFraction (v : Nat)
  | newOnly (v : Bool)
  | service (v : Nat)
  | mux (v : Nat)
  | t0 (v : Nat)
  | dur (v : Nat)
  | mask (v : Byte)
  | firstDay (v : Int)
  | lastDay (v : Option Int)
  | refused
  deriving DecidableEq, Repr

/-- The value of a BOOK_CHANGE field by its number (R208). -/
def pChangeValue : Nat → Parser ChangeField
  | 1 => pMap .priority pU8
  | 2 => pMap .prePad pU32
  | 3 => pMap .postPad pU32
  | 4 => pMap .follow pFlag
  | 5 => pMap .minFraction pU16
  | 6 => pMap .newOnly pFlag
  | 7 => pMap .service pU16
  | 8 => pMap .mux pU16
  | 9 => pMap .t0 pU32
  | 10 => pMap .dur pU32
  | 11 => pMap .mask pByte
  | 12 => pMap .firstDay pI32
  | 13 => pMap .lastDay (pOpt pI32)
  | _ => pPure .refused

/-- The fields of a BOOK_CHANGE, as many as the bytes hold. A refused field number ends them; a flag or presence
byte that is refused turns its field into `refused`, and the fields after it are still read for the length. A
refused field is no failure of the reader: the booking is judged first, in the order of R43. -/
def pChangeFields : Nat → Parser (List ChangeField)
  | 0 => pPure []
  | fuel + 1 => fun bs =>
    match bs with
    | [] => pPure [] []
    | n :: rest =>
      match pChangeValue n.toNat rest with
      | .ok { val := .refused, .. } => pPure [.refused] []
      | .ok r => pMap (fun fs => (if r.bad then .refused else r.val) :: fs) (pChangeFields fuel) r.rest
      | .error e => .error e

/-- BOOK_CHANGE: booking id and at least one field (R43). -/
def pBookChange : Parser (Nat × List ChangeField) := pBind pU8 (fun bid => fun bs =>
  match bs with
  | [] => .error .badLength
  | _ :: _ => pMap (fun fs => (bid, fs)) (pChangeFields bs.length) bs)

/-- HISTORY_ADD: one pair (R53). -/
def pHistEntry : Parser HistEntry := pBind pRef (fun s => pMap (fun e => { series := s, episode := e }) pRef)

/-- HISTORY_DROP in its two forms (R55, R208). -/
inductive HistDropMsg where
  | pair (e : HistEntry)
  | series (r : Ref)
  deriving DecidableEq, Repr

def pHistDrop : Parser HistDropMsg := pBind pU8 (fun form =>
  match form with
  | 0 => pMap .pair pHistEntry
  | 1 => pMap .series pRef
  | _ => pFail .badField)

/-- HISTORY_GET: starting index and an optional series ref (R56). -/
def pHistGet : Parser (Nat × Option Ref) := pBind pU16 (fun n => pMap (fun r => (n, r)) (pOpt pRef))

/-- PLAN_GET: from, to and the continuation index (R90). -/
def pPlanGet : Parser (Nat × Nat × Nat) :=
  pBind pU32 (fun a => pBind pU32 (fun b => pMap (fun i => (a, b, i)) pU8))

/-- The reports of REC_REPORT (8.3). -/
inductive Report where
  | started
  | startFailed (reason : Nat)
  | stopped
  deriving DecidableEq, Repr

/-- REC_REPORT: recording's id, result and, for START_FAILED, the host's reason code (8.3); the numbers of the three
results are the model's (log entry 15). Another result byte is refused where some report has the payload's length,
with a reason code or without. -/
def pReport : Parser (Nat × Report) := pBind pU16 (fun iid => pBind pU8 (fun r =>
  match r with
  | 0 => pPure (iid, .started)
  | 1 => pMap (fun c => (iid, .startFailed c)) pU8
  | 2 => pPure (iid, .stopped)
  | _ => fun bs => if bs.length ≤ 1 then pMark (iid, .stopped) [] else .error .badLength))

/-- VIEW_CLAIM: an optional claim id, tuner, multiplex and priority (R154). -/
structure ClaimMsg where
  claim : Option Nat
  tuner : Nat
  mux : Nat
  priority : Nat
  deriving DecidableEq, Repr

def pClaim : Parser ClaimMsg := pBind (pOpt pU8) (fun c => pBind pU8 (fun t => pBind pU16 (fun m =>
  pMap (fun p => { claim := c, tuner := t, mux := m, priority := p }) pU8)))

/-- COND_CLEAR: bank and counter flag (R176), the flag one byte (log entry 15). -/
def pCondClear : Parser (Nat × Bool) := pBind pU8 (fun b => pMap (fun f => (b, f)) pFlag)

/-- Three class flags as one byte: SOFT in the least significant bit, then DEFERRED, then HARD; the upper
five bits are ignored (log entry 15). -/
def classesOf (b : Byte) : ClassSet :=
  { soft := b.getLsbD 0, deferred := b.getLsbD 1, hard := b.getLsbD 2 }

/-- COND_CONFIG: bank and the settings named (R177). -/
structure CondConfigMsg where
  bank : Nat
  mask : Option ClassSet
  enable : Option ClassSet
  threshold : Option Nat
  deriving DecidableEq, Repr

def pCondConfig : Parser CondConfigMsg :=
  pBind pU8 (fun b => pBind (pOpt (pMap classesOf pByte)) (fun m => pBind (pOpt (pMap classesOf pByte)) (fun e =>
    pMap (fun t => { bank := b, mask := m, enable := e, threshold := t }) (pOpt pU16))))

/-- CONFIG_SET: as many items of a number and a 32-bit value as the payload holds (R206). -/
def pItems : Nat → Parser (List (Nat × Nat))
  | 0 => pPure []
  | fuel + 1 => fun bs =>
    match bs with
    | [] => pPure [] []
    | _ :: _ => pBind pU8 (fun n => pBind pU32 (fun v => pMap (fun is => (n, v) :: is) (pItems fuel))) bs

end Sys2Proof.Machine
end

