-- ==== Sys2Proof/Machine/Wire.lean ====
section
/-! DEFINITION. The bytes of the serial line: the check (R195), the frame layout, the byte-by-byte receiver (R196),
and the payload of every reply by the field encoding and layouts of R208 and chapter 11. Where the manual gives a
field no width or number the choice is the model's (log entry 15). -/

namespace Sys2Proof.Machine

open Sys2Proof

/-! ## The check (R195) -/

/-- One bit through the CRC register, generator x^16 + x^12 + x^5 + 1. -/
def crcBit (c : BitVec 16) (b : Bool) : BitVec 16 :=
  if (c.msb != b) then (c <<< 1) ^^^ 0x1021#16 else c <<< 1

/-- One byte, most significant bit first. -/
def crcByte (c : BitVec 16) (b : Byte) : BitVec 16 :=
  [7, 6, 5, 4, 3, 2, 1, 0].foldl (fun acc k => crcBit acc (b.getLsbD k)) c

/-- The check over bytes in line order; the register starts at 0xFFFF and is not inverted. -/
def crc (bs : List Byte) : BitVec 16 := bs.foldl crcByte 0xFFFF#16

/-! ## Numbers as bytes, most significant byte first (R208) -/

def be1 (n : Nat) : List Byte := [BitVec.ofNat 8 n]
def be2 (n : Nat) : List Byte := [BitVec.ofNat 8 (n / 256), BitVec.ofNat 8 n]
def be4 (n : Nat) : List Byte :=
  [BitVec.ofNat 8 (n / 16777216), BitVec.ofNat 8 (n / 65536), BitVec.ofNat 8 (n / 256), BitVec.ofNat 8 n]
/-- Four bytes in two's complement. -/
def beInt (i : Int) : List Byte := be4 (i.emod 4294967296).toNat
/-- A single flag: one byte, 1 when set (log entry 15). -/
def beFlag (b : Bool) : List Byte := be1 (if b then 1 else 0)
/-- An optional field behind its presence byte. -/
def beOpt {α : Type} (f : α → List Byte) : Option α → List Byte
  | none => [0]
  | some a => 1 :: f a
def beRef (r : Ref) : List Byte := be1 r.length ++ r
def beList {α : Type} (f : α → List Byte) (xs : List α) : List Byte := be1 xs.length ++ xs.flatMap f

/-! ## Frames (R195) -/

/-- What the check covers: length, kind, tag and payload in line order. -/
def checked (kind tag : Byte) (payload : List Byte) : List Byte :=
  be2 payload.length ++ [kind, tag] ++ payload

/-- The check of a frame. -/
def frameCheck (kind tag : Byte) (payload : List Byte) : BitVec 16 := crc (checked kind tag payload)

/-- A whole frame on the line. -/
def frameBytes (kind tag : Byte) (payload : List Byte) : List Byte :=
  [0x5A] ++ checked kind tag payload ++ be2 (frameCheck kind tag payload).toNat

/-! ## The receiver (R196) -/

/-- What a received byte brings about beside the next receive state. -/
inductive RxOut where
  /-- nothing yet -/
  | more
  /-- the length exceeds 512: the frame is discarded without reply -/
  | tooLong
  /-- the second check byte has come: the frame is judged; `good` when the computed check is the one received -/
  | judged (kind tag : Byte) (payload : List Byte) (good : Bool)
  deriving DecidableEq, Repr

/-- One byte, received without a line framing error. -/
def rxByte (rx : Rx) (b : Byte) : Rx × RxOut :=
  match rx.rstate with
  | .hunt =>
    if b = 0x5A then ({ idleRx with rstate := .length }, .more) else (rx, .more)
  | .length =>
    if rx.got = 0 then ({ rx with got := 1, len := b.toNat }, .more)
    else
      if rx.len * 256 + b.toNat ≤ Config.payloadCap then
        ({ rx with rstate := .header, got := 0, len := rx.len * 256 + b.toNat }, .more)
      else ({ rx with rstate := .hunt }, .tooLong)
  | .header =>
    if rx.got = 0 then ({ rx with got := 1, kind := b }, .more)
    else ({ rx with rstate := if rx.len = 0 then .check else .payload, got := 0, tag := b }, .more)
  | .payload =>
    ({ rx with rstate := if rx.payload.length + 1 < rx.len then .payload else .check,
               payload := rx.payload ++ [b] }, .more)
  | .check =>
    if rx.got = 0 then ({ rx with got := 1, check := b.toNat }, .more)
    else
      let c := rx.check * 256 + b.toNat
      ({ rx with rstate := .hunt, check := c },
        .judged rx.kind rx.tag rx.payload (c == (frameCheck rx.kind rx.tag rx.payload).toNat))

/-- Bytes received one after another: the receiver after them and what the last of them brought about. -/
def rxBytes (rx : Rx) : List Byte → Rx × RxOut
  | [] => (rx, .more)
  | [b] => rxByte rx b
  | b :: c :: rest => rxBytes (rxByte rx b).1 (c :: rest)

/-- The receiver after a whole frame: HUNT, with the assembly buffer as the frame filled it. -/
def rxAfter (kind tag : Byte) (payload : List Byte) (check : BitVec 16) : Rx :=
  { rstate := .hunt, got := 1, len := payload.length, kind := kind, tag := tag, payload := payload,
    check := check.toNat }

/-- Bytes received that complete no frame: the receiver after them; none when one of them ends a frame. -/
def rxQuiet (rx : Rx) : List Byte → Option Rx
  | [] => some rx
  | b :: rest =>
    match (rxByte rx b).2 with
    | .more => rxQuiet (rxByte rx b).1 rest
    | .tooLong | .judged _ _ _ _ => none

/-- The message kinds of the catalogue (11.6). -/
def catalogue : List Byte :=
  [0x01, 0x02, 0x03, 0x04, 0x08, 0x09, 0x0A, 0x0B, 0x10, 0x11, 0x18, 0x19, 0x1A, 0x1B, 0x20, 0x21, 0x22, 0x23, 0x24,
    0x25, 0x26, 0x27, 0x28, 0x2C, 0x2D, 0x2E, 0x30, 0x31, 0x32, 0x33, 0x38, 0x39, 0x3A, 0x40, 0x41, 0x42]

/-! ## The numbers of names (R200, R208, chapter 9) -/

def statusNum : Status → Nat
  | .ok => 0 | .badCheck => 1 | .badKind => 2 | .badLength => 3 | .badField => 4 | .full => 5
  | .notFound => 6 | .alreadyExists => 7 | .busy => 8 | .clockUnset => 9 | .notAllowed => 10 | .tooLate => 11
  | .standbyDeferred => 12

def runStatusNum : RunStatus → Nat
  | .undefined => 0 | .notRunning => 1 | .startsSoon => 2 | .pausing => 3 | .running => 4

def instStateNum : InstState → Nat
  | .pending => 0 | .planned => 1 | .clashed => 2 | .starting => 3 | .recording => 4 | .stopping => 5
  | .interrupted => 6 | .done => 7 | .missed => 8 | .failed => 9 | .cancelled => 10

def verdictNum : Option Verdict → Nat
  | none => 0 | some .whole => 1 | some .trimmed => 2 | some .alternate => 3 | some .partly => 4 | some .lost => 5

/-- Final state in notices. -/
def finalNum : InstState → Nat
  | .done => 1 | .missed => 2 | .failed => 3 | .cancelled => 4 | _ => 0

def stopReasonNum : Option StopReason → Nat
  | none => 0 | some .stopMoment => 1 | some .overrunCut => 2 | some .abandoned => 3 | some .cancelled => 4

def hostStateNum : HostState → Nat
  | .awake => 0 | .standby => 1 | .waking => 2 | .silent => 3

def clockStateNum : ClockState → Nat
  | .unset => 0 | .running => 1 | .slewing => 2

def wakeReasonNum : WakeReason → Nat
  | .none => 0 | .recording _ => 1 | .powerOn => 2

/-- The wake instance id of the HELLO reply: 0 unless the reason is RECORDING. -/
def wakeReasonId : WakeReason → Nat
  | .recording iid => iid
  | _ => 0

def bookingKindNum : BookingPart → Nat
  | .event _ _ _ => 0 | .series _ _ _ => 1 | .manual _ => 2

def bookingStateNum : BookingState → Nat
  | .active => 0 | .suspended => 1 | .spent => 2

def causeNum : Cause → Nat
  | .reportedStop => 1 | .hostStop => 2 | .stopUnconfirmed => 3 | .hostLost => 4 | .windowClosed => 5
  | .deleted => 6 | .startFailed => 7 | .startUnconfirmed => 8 | .abandoned => 9 | .resumeLimit => 10
  | .notStarted => 11 | .heldTooLong => 12

def timeActionNum : TimeAction → Nat
  | .set => 0 | .stepped => 1 | .slewing => 2 | .unchanged => 3

def histResultNum : HistResult → Nat
  | .added => 0 | .duplicate => 1 | .addedReplacingOldest => 2

def resolutionNum : Resolution → Nat
  | .alternate => 0 | .displacedOthers => 1 | .partly => 2 | .lost => 3

def classNum : CondClass → Nat
  | .soft => 1 | .deferred => 2 | .hard => 3

def bankNum : BankId → Nat
  | .tunerA => 0 | .tunerB => 1 | .plan => 2 | .wake => 3 | .clock => 4

/-- The condition codes (9.2). -/
def codeNum : CondCode → Nat
  | .signalGap => 1 | .lockAbandoned => 2 | .startFailed => 3 | .startLate => 4 | .stoppedEarly => 5
  | .overrunCut => 6 | .coreClipped => 7 | .tunerSwapped => 8 | .missed => 9 | .stopUnconfirmed => 10
  | .resumeLimit => 11 | .clashLost => 16 | .partialPlanned => 17 | .alternateTaken => 18 | .padTrimmed => 19
  | .expansionLimit => 20 | .instanceTableFull => 21 | .outcomeDiscarded => 22 | .eventLost => 23
  | .hostHung => 32 | .wakeFailed => 33 | .hostRestarted => 34 | .timeStepped => 48 | .offsetChanged => 49

def tunerNum : Tuner → Nat
  | .a => 0 | .b => 1

/-! ## Records -/

def beTuner (t : Tuner) : List Byte := be1 (tunerNum t)
def beKey (k : EventKey) : List Byte := be2 k.service ++ be2 k.event
def beChange (c : OffsetChange) : List Byte := be4 c.time ++ beInt c.offset

def beGuideRec (r : GuideRec) : List Byte :=
  beKey r.key ++ be2 r.mux ++ be4 r.start ++ be4 r.dur ++ beOpt beRef r.series ++ beOpt beRef r.episode ++
    be1 (runStatusNum r.status) ++ be1 r.pins

def beHist (e : HistEntry) : List Byte := beRef e.series ++ beRef e.episode

def bePart : BookingPart → List Byte
  | .event k l h =>
    beKey k ++ be2 l.mux ++ be4 l.start ++ be4 l.dur ++ beOpt beRef l.series ++ beOpt beRef l.episode ++ beFlag h
  | .series r s n => beRef r ++ beOpt be2 s ++ beFlag n
  | .manual m =>
    be2 m.service ++ be2 m.mux ++ be4 m.t0 ++ be4 m.dur ++ [m.mask] ++ beInt m.firstDay ++ beOpt beInt m.lastDay

def beBooking (b : Booking) : List Byte :=
  be1 b.id ++ be1 (bookingKindNum b.part) ++ be1 (bookingStateNum b.bstate) ++ be1 b.priority ++ be4 b.prePad ++
    be4 b.postPad ++ beFlag b.follow ++ be2 b.minFraction ++ bePart b.part

def beBookSummary (b : BookSummary) : List Byte :=
  be1 b.id ++ be1 (bookingKindNum b.part) ++ be1 (bookingStateNum b.bstate) ++ be1 b.priority ++
    be1 b.nonTerminal ++ be1 b.terminal

/-- An origin behind its tag: 0 stands before an event key and 1 before a local day, two numbers that R208 does not give
(log entry 15). -/
def beOrigin : Origin → List Byte
  | .event k => be1 0 ++ beKey k
  | .day d => be1 1 ++ beInt d

def beSegment (g : Segment) : List Byte := be4 g.start ++ beOpt be4 g.stop

def beWindow (w : Window) : List Byte := be4 w.ws ++ be4 w.we

/-- An outcome (5.1, R84). The final state takes the number of its instance state, 7 to 10, and not that of a final state
in notices (log entry 15). The stop reason is a bare value whose 0 stands for none (R208; log entry 15). -/
def beOutcome (o : OutcomeRec) : List Byte :=
  be1 (instStateNum o.final) ++ be1 (causeNum o.cause) ++ beOpt be1 o.failReason ++
    be1 (stopReasonNum o.stopReason) ++ be2 o.fraction ++ be4 o.seconds ++ be4 o.time

/-- The padded span of a recording: S − pre-pad up to S + D + post-pad, within schedule time (5.1, R98); it starts at 0
where S is less than the pre-pad (log entry 54). -/
def spanStart (i : Inst) : Nat := i.start - i.prePad
def spanEnd (i : Inst) : Nat := min Config.maxTime (i.start + i.dur + i.postPad)

/-- The whole record of a recording, in the order of 5.1 (R89). Verdict and stop reason are bare values whose 0
stands for absent and for none (R208; log entry 15). -/
def beInst (i : Inst) : List Byte :=
  be2 i.id ++ be1 i.booking ++ beOrigin i.origin ++ beOpt beRef i.episode ++ be2 i.service ++ be2 i.mux ++
    be4 i.start ++ be4 i.dur ++ be4 i.prePad ++ be4 i.postPad ++ beOpt beWindow i.window ++ beOpt beTuner i.tuner ++
    be1 (verdictNum i.verdict) ++ beOpt be1 i.planPriority ++ be1 (instStateNum i.state) ++ beList beKey i.alts ++
    beList beSegment i.segments ++ be4 i.gapTenths ++ be1 (stopReasonNum i.stopReason) ++ beOpt be4 i.overrun ++
    beOpt be2 i.cutBy ++ beFlag i.startHeld ++ beOpt be4 i.runEnd ++ beOpt beOutcome i.outcome ++
    be4 (spanStart i) ++ be4 (spanEnd i)

/-- What OUTCOME_TAKE returns of a recording (R88). -/
def beTaken (i : Inst) : List Byte :=
  be2 i.id ++ be1 i.booking ++ beOrigin i.origin ++ beOpt beRef i.episode ++ be2 i.service ++ be2 i.mux ++
    be4 i.start ++ be4 i.dur ++ beOpt beTuner i.tuner ++ beList beSegment i.segments ++ be4 i.gapTenths ++
    (match i.outcome with
     | some o => beOutcome o
     | none => [])

/-- Append a field of some bits, most significant first, to a bit group held as a number. -/
def bitField (acc width value : Nat) : Nat := acc * 2 ^ width + value % 2 ^ width

/-- The two marks of an instance summary (11.7). -/
def summaryMarks (i : Inst) : Nat :=
  if i.state = .planned then (if i.startHeld then 1 else 0)
  else if isRunningOrTerminal then (if i.overrun.isSome then 1 else 0) + (if i.cutBy.isSome then 2 else 0)
  else 0
where
  isRunningOrTerminal : Bool :=
    match i.state with
    | .pending | .planned | .clashed => false
    | _ => true

/-- The 80-bit group of an instance summary, its first field most significant (11.7). -/
def summaryBits (i : Inst) : Nat :=
  let tuner := match i.tuner with
    | none => 0
    | some .a => 1
    | some .b => 2
  let lead := match i.window with
    | none => 0
    | some w => w.ws + 3600 - i.start
  let len := match i.window with
    | none => 0
    | some w => w.we - w.ws
  let frac := match i.outcome with
    | none => 1023
    | some o => o.fraction
  bitField (bitField (bitField (bitField (bitField (bitField (bitField (bitField (bitField (bitField 0
    7 (i.booking - 1)) 4 (instStateNum i.state)) 3 (verdictNum i.verdict)) 2 tuner)
    1 (if i.episode.isSome then 1 else 0)) 2 (summaryMarks i)) 17 i.dur) 17 lead) 17 len) 10 frac

/-- Ten bytes, most significant first. -/
def be10 (n : Nat) : List Byte := be2 (n / 2 ^ 64) ++ be4 (n / 2 ^ 32) ++ be4 n

/-- An instance summary of 20 bytes (11.7). -/
def beSummary (i : Inst) : List Byte :=
  be2 i.id ++ be4 i.start ++ be2 i.service ++ be2 i.mux ++ be10 (summaryBits i)

/-- An entry of a clash record's lists: the mark, 1 for a claim and 0 for an instance (log entry 15), then the id,
one byte of a claim and two of an instance (R208). -/
def beEntry (e : ClashEntry) : List Byte := beFlag e.isClaim ++ (if e.isClaim then be1 e.id else be2 e.id)

/-- A clash record, in the order of R134; the clash id takes one byte (log entry 15). -/
def beClash (c : ClashRec) : List Byte :=
  be1 c.clashId ++ be4 c.from_ ++ be4 c.to_ ++ be2 c.contender ++ beList beEntry c.blocking ++
    be1 (resolutionNum c.resolution) ++ beList beEntry c.losers

def beClasses (m : ClassSet) : List Byte :=
  be1 ((if m.soft then 1 else 0) + (if m.deferred then 2 else 0) + (if m.hard then 4 else 0))

/-- A status record: valid, then class, code, ids and time when valid, then overflow and further count (R166, R175). -/
def beBankRecord (b : Bank) : List Byte :=
  (match b.held with
   | none => beFlag false
   | some r => beFlag true ++ be1 (classNum r.cls) ++ be1 (codeNum r.code) ++ beOpt be2 r.iid ++
       beOpt be1 r.booking ++ be4 r.time) ++ beFlag b.overflow ++ be1 b.further

/-- A bank in the reply of COND_READ (R175). -/
def beCondRead (v : BankView) : List Byte :=
  be1 (bankNum v.id) ++ beBankRecord v.bank ++ beClasses v.bank.mask ++ beClasses v.bank.enable ++
    (match v.gap with
     | none => []
     | some g => be2 g.count ++ be2 g.threshold ++ beFlag g.armed)

/-- A bank in the reply of COND_CLEAR: the record taken from it and, bare, the gap counter where it was zeroed (R176; log
entry 15). -/
def beCondClear (v : BankView) : List Byte :=
  beBankRecord v.bank ++
    (match v.gap with
     | none => []
     | some g => be2 g.count)

/-- A bank in the reply of COND_CONFIG: mask, enable and, of a tuner bank, the threshold (R177). -/
def beCondConfig (v : BankView) : List Byte :=
  beClasses v.bank.mask ++ beClasses v.bank.enable ++
    (match v.gap with
     | none => []
     | some g => be2 g.threshold)

/-- A notice record of 12 bytes (11.7). -/
def beNotice (n : Notice) : List Byte :=
  let id0 := fun (o : Option Nat) => o.getD 0
  (match n.body with
   | .condition bk cls code iid =>
     be1 1 ++ be1 (bankNum bk * 16 + classNum cls) ++ be2 (id0 iid) ++ be4 (codeNum code)
   | .threshold bk v => be1 2 ++ be1 (bankNum bk) ++ be2 v ++ be4 0
   | .planChanged g => be1 3 ++ be1 0 ++ be2 0 ++ be4 g
   | .tunerYield c iid t => be1 4 ++ be1 c ++ be2 iid ++ be4 (tunerNum t)
   | .claimRevoked c iid => be1 5 ++ be1 c ++ be2 iid ++ be4 0
   | .outcomeReady f iid bid => be1 6 ++ be1 (finalNum f) ++ be2 iid ++ be4 bid
   | .standbyClear e => be1 7 ++ beFlag e.isSome ++ be2 0 ++ be4 (id0 e)) ++ be4 n.time

def beAction (e : ActionEntry) : List Byte :=
  be1 (if e.isStop then 1 else 0) ++ be2 e.iid ++ (match e.tuner with
    | some t => beTuner t
    | none => [0]) ++ be2 e.mux ++ be2 e.service ++ be1 (stopReasonNum e.stopReason)

def beCauses (c : Causes) : List Byte :=
  be1 ((if c.powerOn then 1 else 0) + (if c.warm then 2 else 0) + (if c.cold then 4 else 0))

/-- The HELLO reply after its status and flags (11.7). -/
def beHello (v : HelloView) : List Byte :=
  be1 0x4D ++ be2 0x0212 ++ be1 (Config.freeRevision.val + 1) ++ beCauses v.causes ++
    be1 (hostStateNum v.previous) ++ be1 (wakeReasonNum v.reason) ++ be2 (wakeReasonId v.reason) ++
    be1 v.attempts ++ be1 (clockStateNum v.cstate) ++ be4 v.generation ++ be1 v.placeable ++ be1 v.running ++
    be1 v.terminal ++ be1 v.free

/-! ## Replies (R200) -/

/-- The next index of a PLAN_GET reply: 255 when none. -/
def bePlanNext : Option Nat → List Byte
  | none => be1 255
  | some n => be1 n

/-- What follows the status and flags of a reply. Log entry 15 names what R208 leaves open here: a count that can exceed
255 takes two bytes, such as the events held, free, pinned and removed and the history entries held and removed (R26,
R29, R30, R33, R55, R56), one presence byte stands before the pair of GUIDE_GET's summary (R33), the pair removed by ADDED_REPLACING_OLDEST follows the result bare (R53), and the slew remainder, the
offsets and the day index of TIME_GET take four bytes each (R11). -/
def bodyBytes : ReplyBody → List Byte
  | .empty => []
  | .bookingId n => be1 n
  | .timeSet a c st => be1 (timeActionNum a) ++ be4 c ++ be1 (clockStateNum st)
  | .timeGet c st r o ch d ld =>
    be4 c ++ be1 (clockStateNum st) ++ beInt r ++ beInt o ++ beOpt beChange ch ++ be4 d ++ beInt ld
  | .guidePut i r e g h => be1 i ++ be1 r ++ be1 e ++ be1 g ++ be2 h
  | .guideDrop r n h => be2 r ++ be1 n ++ be2 h
  | .runStatus p => be1 (runStatusNum p)
  | .guideRec r => beGuideRec r
  | .guideSummary h f p rg => be2 h ++ be2 f ++ be2 p ++ beOpt (fun ab => be4 ab.1 ++ be4 ab.2) rg
  | .bookState p => be1 (bookingStateNum p)
  | .bookDelete c st d => be1 c ++ be1 st ++ be1 d
  | .booking b n t => beBooking b ++ be1 n ++ be1 t
  | .bookList h items nx => beList beBookSummary items ++ be1 h ++ beOpt be1 nx
  | .historyAdd r old => be1 (histResultNum r) ++ (match old with
    | none => []
    | some e => beHist e)
  | .historyDrop r h => be2 r ++ be2 h
  | .historyGet h f es nx => be2 h ++ be2 f ++ beList beHist es ++ beOpt be2 nx
  | .recording i g => beInst i ++ be4 g
  | .plan g n f nx items => be4 g ++ be1 n ++ be1 f ++ bePlanNext nx ++ items.flatMap beSummary
  | .outcome i => beTaken i
  | .clashes g h m f items nx => be4 g ++ be1 h ++ beFlag m ++ be1 f ++ beList beClash items ++ beOpt be1 nx
  | .report st => be1 (instStateNum st)
  | .claim n t => be1 n ++ beTuner t
  | .hello v => beHello v
  | .standbyDeferred n e => be1 n ++ beOpt be4 e
  | .causes c => beCauses c
  | .condRead vs => vs.flatMap beCondRead
  | .condClear vs => vs.flatMap beCondClear
  | .condConfig vs => vs.flatMap beCondConfig
  | .notices o left items => beFlag o ++ be1 items.length ++ be1 left ++ items.flatMap beNotice
  | .actions es => beList beAction es
  | .settings is => is.flatMap (fun nv => be1 nv.1 ++ be4 nv.2)

/-- The flags byte: CLAMPED least significant, then AGAIN_PENDING (R200). -/
def flagsNum (r : Reply) : Nat := (if r.clamped then 1 else 0) + (if r.againPending then 2 else 0)

/-- The payload of a reply: status, flags and what follows. -/
def replyPayload (r : Reply) : List Byte := be1 (statusNum r.status) ++ be1 (flagsNum r) ++ bodyBytes r.body

/-- The frame of a reply, as it leaves on the line. -/
def replyFrame (r : Reply) : List Byte := frameBytes r.kind r.tag (replyPayload r)

end Sys2Proof.Machine
end

