-- ==== Sys2Proof/Machine/Frames.lean ====
section
/-! DEFINITION. The taking of a frame and the making of a reply (R198 to R201). -/

namespace Sys2Proof.Machine

open Sys2Proof

/-- The keepalive interval of a code, 5 × 2^n s (R181). -/
def keepaliveSecs (n : Nat) : Nat := 5 * 2 ^ n

/-- The keepalive interval is started, or restarted, when the host is AWAKE and the code is not OFF (R182). -/
def startKeepalive (s : State) : State :=
  match s.wsv.host, s.wsv.keepCode with
  | .awake, some n => startDelay .keepalive (secs (keepaliveSecs n)) s
  | _, _ => s

/-- The part takes no frame: eight are in hand, or a RESET_PART has been taken (R193, R198, R199). -/
def frameRefused (s : State) : Bool :=
  decide (Config.handCap ≤ s.lnk.inHand) || s.lnk.reset != .none

/-- A whole frame has been received: the receiver is back in HUNT (R196). -/
def frameArrived (kind tag : Byte) (payload : List Byte) (check : BitVec 16) (s : State) : State :=
  modLnk (fun l => { l with rx := rxAfter kind tag payload check }) s

/-- A frame is taken: one more in hand, and the keepalive interval restarted (R199). -/
def frameInHand (s : State) : State := startKeepalive (modLnk (fun l => { l with inHand := l.inHand + 1 }) s)

/-- A frame whose check agrees arrives (R199): it is taken and acted on, or discarded. -/
def onFrame (kind tag : Byte) (payload : List Byte) (act : State → State) (s : State) : State :=
  if Config.payloadCap < payload.length then s
  else
    let s1 := frameArrived kind tag payload (frameCheck kind tag payload) s
    if frameRefused s then s1 else act (frameInHand s1)

/-- A reply takes its place in the transmit order (R201). -/
def pushReply (r : Reply) (s : State) : State := modLnk (fun l => { l with tx := l.tx ++ [r] }) s

/-- The kind of the reply to a command (R200). -/
def replyKind (kind : Byte) : Byte := kind + 0x80

/-- The answer of the owner of a message: a status, the CLAMPED flag and what follows (R200). -/
def answer (kind tag : Byte) (st : Status) (clamped : Bool) (body : ReplyBody) (s : State) : State :=
  pushReply { kind := replyKind kind, tag := tag, status := st, clamped := clamped, againPending := false, body := body } s

/-- The answer OK. -/
def answerOk (kind tag : Byte) (body : ReplyBody) (s : State) : State := answer kind tag .ok false body s

/-- The commands whose replies report the again flag: INSTANCE_GET, PLAN_GET and CLASH_GET (R200). -/
def reportsAgain (kind : Byte) : Bool := kind == 0x30 || kind == 0x31 || kind == 0x33

/-- A refusal: status and flags alone. CLAMPED is clear, and AGAIN_PENDING is set as in every reply to its three
commands (R200; log entry 44). -/
def refuse (kind tag : Byte) (st : Status) (s : State) : State :=
  pushReply { kind := replyKind kind, tag := tag, status := st, clamped := false
              againPending := reportsAgain kind && s.pln.again, body := .empty } s

/-- The answer OK of a reply that reports the again flag (R200). -/
def answerPlan (kind tag : Byte) (body : ReplyBody) (s : State) : State :=
  pushReply { kind := replyKind kind, tag := tag, status := .ok, clamped := false, againPending := s.pln.again,
              body := body } s

/-- A message of a kind arrives: its payload is read, and refused when it does not suit (R199, R200). -/
def onMessage {α : Type} (kind tag : Byte) (p : Parser α) (payload : List Byte) (act : α → State → State)
    (s : State) : State :=
  onFrame kind tag payload (fun t =>
    match parseAll p payload with
    | .ok m => act m t
    | .error e => refuse kind tag e t) s

end Sys2Proof.Machine
end

