-- ==== Sys2Proof/Machine/Bookings.lean ====
section
/-! DEFINITION. The Booking Table and the episode history (chapter 3): the add commands, BOOK_CHANGE, BOOK_SUSPEND,
BOOK_RESUME, BOOK_DELETE, BOOK_GET, BOOK_LIST and the three history messages. -/

namespace Sys2Proof.Machine

open Sys2Proof

/-! ## Ids and common fields (R35, R37) -/

/-- A booking id is free (R35): no booking holds it, no recording carries it, and no pass in flight took it into its
snapshot. -/
def idFree (bid : Nat) (s : State) : Bool :=
  !bookingHeld bid s && s.lst.insts.all (fun i => i.booking != bid) &&
    (match s.pln.snapshot with
     | none => true
     | some p => p.bookings.all (fun b => b.id != bid))

/-- The booking ids 1 to 128 in ascending order. -/
def bookingIds : List Nat := (List.range Config.bookingCap).map (fun n => n + 1)

/-- The lowest booking id that is free (R35). -/
def lowestFree (s : State) : Option Nat := bookingIds.find? (fun n => idFree n s)

/-- A value brought into a range (R37). -/
def clampTo (lo hi v : Nat) : Nat := max lo (min hi v)

/-- The ranges of the common fields (R37). -/
def clampPriority (v : Nat) : Nat := clampTo 1 7 v
def clampPrePad (v : Nat) : Nat := clampTo 0 3600 v
def clampPostPad (v : Nat) : Nat := clampTo 0 7200 v
def clampFraction (v : Nat) : Nat := clampTo 100 1000 v

/-- A clamp changes an optional field. -/
def clampsOpt (f : Nat → Nat) : Option Nat → Bool
  | none => false
  | some v => f v != v

/-- A clamp is applied to one of the common fields of an add command (R37). -/
def commonClamped (c : CommonMsg) : Bool :=
  clampsOpt clampPriority c.priority || clampsOpt clampPrePad c.prePad || clampsOpt clampPostPad c.postPad ||
    clampsOpt clampFraction c.minFraction

/-- The record that an add command creates (R37, R39). -/
def newBooking (bid : Nat) (part : BookingPart) (c : CommonMsg) (t : BookingTable) : Booking :=
  { id := bid, part := part, bstate := .active
    priority := (c.priority.map clampPriority).getD t.defPriority
    prePad := (c.prePad.map clampPrePad).getD t.defPrePad
    postPad := (c.postPad.map clampPostPad).getD t.defPostPad
    follow := c.follow.getD false
    minFraction := (c.minFraction.map clampFraction).getD 500 }

/-- The order of the table: ascending booking id (R35). -/
def bookingLt (a b : Booking) : Bool := decide (a.id < b.id)

/-- The last two checks of an add command and its taking (R39): EXISTS with the id held, FULL, or the new booking. -/
def addBooking (kind tag : Byte) (dup : Option Booking) (part : BookingPart) (c : CommonMsg) (s : State) : State :=
  match dup with
  | some b => answer kind tag .alreadyExists false (.bookingId b.id) s
  | none =>
    match lowestFree s with
    | none => refuse kind tag .full s
    | some bid =>
      answer kind tag .ok (commonClamped c) (.bookingId bid)
        (setDirty (modBkt (fun t => { t with
          bookings := insertBy bookingLt (newBooking bid part c t) t.bookings }) s))

/-! ## Adding (R40 to R42) -/

/-- The EVENT booking that holds a key, in any state (R40). -/
def bookingOfKey (k : EventKey) (s : State) : Option Booking :=
  s.bkt.bookings.find? (fun b =>
    match b.part with
    | .event k' _ _ => k' == k
    | _ => false)

/-- The SERIES booking with a ref and a scope, in any state (R41). -/
def bookingOfSeries (r : Ref) (scope : Option Nat) (s : State) : Option Booking :=
  s.bkt.bookings.find? (fun b =>
    match b.part with
    | .series r' sc _ => r' == r && sc == scope
    | _ => false)

/-- The last known event as a guide record gives it (R40, R64). -/
def lastKnownOf (r : GuideRec) : LastKnown :=
  { mux := r.mux, start := r.start, dur := r.dur, series := r.series, episode := r.episode }

/-- BOOK_EVENT after its payload has been read (R40). -/
def bookEvent (tag : Byte) (m : EventKey × CommonMsg) (s : State) : State :=
  if m.1.service = 0 then refuse 0x20 tag .badField s
  else
    match recOf m.1 s.gst.recs with
    | none => refuse 0x20 tag .notFound s
    | some r => addBooking 0x20 tag (bookingOfKey m.1 s) (.event m.1 (lastKnownOf r) false) m.2 s

/-- BOOK_EVENT (R39, R40). -/
def execBookEvent (tag : Byte) (payload : List Byte) (s : State) : Host.Outcome State Fault Refusal :=
  .next (settle s (onMessage 0x20 tag pBookEvent payload (bookEvent tag) s))

/-- The kind-part checks of BOOK_SERIES (R41). -/
def seriesRefused (m : BookSeriesMsg) : Bool :=
  m.ref.isEmpty || decide (32 < m.ref.length) || m.scope == some 0

/-- BOOK_SERIES after its payload has been read (R41). -/
def bookSeries (tag : Byte) (m : BookSeriesMsg) (s : State) : State :=
  if seriesRefused m then refuse 0x21 tag .badField s
  else addBooking 0x21 tag (bookingOfSeries m.ref m.scope s) (.series m.ref m.scope (m.newOnly.getD true)) m.common s

/-- BOOK_SERIES (R39, R41). -/
def execBookSeries (tag : Byte) (payload : List Byte) (s : State) : Host.Outcome State Fault Refusal :=
  .next (settle s (onMessage 0x21 tag pBookSeries payload (bookSeries tag) s))

/-- A local day outside −1 to 49,710 (R42). -/
def badDay (d : Int) : Bool := decide (d < -1) || decide (49710 < d)

/-- The tests of R42 on a MANUAL kind part. -/
def manualRefused (m : ManualPart) : Bool :=
  m.service == 0 || m.mux == 0 || decide (Config.dayLen ≤ m.t0) || decide (m.dur < Config.minWindow) ||
    decide (Config.maxDur < m.dur) || m.mask == 0 || m.mask.getLsbD 7 || badDay m.firstDay ||
    (match m.lastDay with
     | none => false
     | some d => badDay d || decide (d < m.firstDay))

/-- BOOK_MANUAL after its payload has been read (R42). -/
def bookManual (tag : Byte) (m : ManualPart × CommonMsg) (s : State) : State :=
  if manualRefused m.1 then refuse 0x22 tag .badField s
  else addBooking 0x22 tag none (.manual m.1) m.2 s

/-- BOOK_MANUAL (R39, R42). -/
def execBookManual (tag : Byte) (payload : List Byte) (s : State) : Host.Outcome State Fault Refusal :=
  .next (settle s (onMessage 0x22 tag pBookManual payload (bookManual tag) s))

/-! ## Changing (R43) -/

/-- Change the MANUAL kind part of a booking; none for another kind. -/
def onManual (f : ManualPart → ManualPart) (b : Booking) : Option Booking :=
  match b.part with
  | .manual m => some { b with part := .manual (f m) }
  | _ => none

/-- One named field written into the record, clamped as R37 states; none when the kind does not allow it (R43). -/
def applyField (f : ChangeField) (b : Booking) : Option Booking :=
  match f with
  | .priority v => some { b with priority := clampPriority v }
  | .prePad v => some { b with prePad := clampPrePad v }
  | .postPad v => some { b with postPad := clampPostPad v }
  | .follow v => some { b with follow := v }
  | .minFraction v => some { b with minFraction := clampFraction v }
  | .newOnly v =>
    match b.part with
    | .series r sc _ => some { b with part := .series r sc v }
    | _ => none
  | .service v => onManual (fun m => { m with service := v }) b
  | .mux v => onManual (fun m => { m with mux := v }) b
  | .t0 v => onManual (fun m => { m with t0 := v }) b
  | .dur v => onManual (fun m => { m with dur := v }) b
  | .mask v => onManual (fun m => { m with mask := v }) b
  | .firstDay v => onManual (fun m => { m with firstDay := v }) b
  | .lastDay v => onManual (fun m => { m with lastDay := v }) b
  | .refused => none

/-- All named fields written together (R43). -/
def applyFields : List ChangeField → Booking → Option Booking
  | [], b => some b
  | f :: fs, b => (applyField f b).bind (applyFields fs)

/-- A clamp is applied to a field of a BOOK_CHANGE (R37). -/
def fieldClamped : ChangeField → Bool
  | .priority v => clampPriority v != v
  | .prePad v => clampPrePad v != v
  | .postPad v => clampPostPad v != v
  | .minFraction v => clampFraction v != v
  | _ => false

/-- The record as it would stand after the change is refused by the tests of R42 (R43). -/
def partRefused (b : Booking) : Bool :=
  match b.part with
  | .manual m => manualRefused m
  | _ => false

/-- BOOK_CHANGE after its payload has been read (R43): NOT_FOUND, NOT_ALLOWED, BAD_FIELD, or taken. -/
def bookChange (tag : Byte) (m : Nat × List ChangeField) (s : State) : State :=
  match findBooking m.1 s with
  | none => refuse 0x23 tag .notFound s
  | some b =>
    if b.bstate = .spent then refuse 0x23 tag .notAllowed s
    else
      match applyFields m.2 b with
      | none => refuse 0x23 tag .badField s
      | some b' =>
        if partRefused b' then refuse 0x23 tag .badField s
        else
          answer 0x23 tag .ok (m.2.any fieldClamped) .empty
            (setDirtyIf (b' != b) (modBkt (fun t => { t with
              bookings := t.bookings.map (fun x => if x.id == b.id then b' else x) }) s))

/-- BOOK_CHANGE (R43). -/
def execBookChange (tag : Byte) (payload : List Byte) (s : State) : Host.Outcome State Fault Refusal :=
  .next (settle s (onMessage 0x23 tag pBookChange payload (bookChange tag) s))

/-! ## Suspending and resuming (R45) -/

/-- Write the state of a booking. -/
def setBookingState (bid : Nat) (st : BookingState) (s : State) : State :=
  modBkt (fun t => { t with
    bookings := t.bookings.map (fun b => if b.id == bid then { b with bstate := st } else b) }) s

/-- A booking is moved to ACTIVE or SUSPENDED (R45). -/
def moveBooking (kind tag : Byte) (target : BookingState) (bid : Nat) (s : State) : State :=
  match findBooking bid s with
  | none => refuse kind tag .notFound s
  | some b =>
    if b.bstate = .spent then refuse kind tag .notAllowed s
    else if b.bstate = target then answerOk kind tag (.bookState b.bstate) s
    else answerOk kind tag (.bookState b.bstate) (setDirty (setBookingState bid target s))

/-- BOOK_SUSPEND (R45). -/
def execBookSuspend (tag : Byte) (payload : List Byte) (s : State) : Host.Outcome State Fault Refusal :=
  .next (settle s (onMessage 0x24 tag pU8 payload (moveBooking 0x24 tag .suspended) s))

/-- BOOK_RESUME (R45). -/
def execBookResume (tag : Byte) (payload : List Byte) (s : State) : Host.Outcome State Fault Refusal :=
  .next (settle s (onMessage 0x25 tag pU8 payload (moveBooking 0x25 tag .active) s))

/-! ## Deleting (R48, R49) -/

/-- The recordings of a booking that a test selects, in ascending id. -/
def idsOfBooking (bid : Nat) (p : InstState → Bool) (s : State) : List Nat :=
  idsWhere (fun i => i.booking == bid && p i.state) s

/-- Made CANCELLED by a deletion: placeable, or STARTING (R49). -/
def cancelsAt (st : InstState) : Bool := isPlaceable st || st == .starting

/-- One recording of a deleted booking, by its state (R49). -/
def deleteInst (iid : Nat) (s : State) : State :=
  match findInst iid s with
  | none => s
  | some i =>
    match i.state with
    | .pending | .planned | .clashed | .starting => terminate iid .cancelled .deleted none s
    | .recording => enterStopping .cancelled iid s
    | .interrupted => terminate iid .done .deleted none s
    | .stopping | .done | .missed | .failed | .cancelled => s

/-- The booking leaves the table (R48). -/
def dropBooking (bid : Nat) (s : State) : State :=
  modBkt (fun t => { t with bookings := t.bookings.filter (fun b => b.id != bid) }) s

/-- BOOK_DELETE after its payload has been read (R48, R49). -/
def bookDelete (tag : Byte) (bid : Nat) (s : State) : State :=
  if bookingHeld bid s then
    let cancelled := (idsOfBooking bid cancelsAt s).length
    let stopping := (idsOfBooking bid (· == .recording) s).length
    let done := (idsOfBooking bid (· == .interrupted) s).length
    let s1 := setDirty (dropBooking bid s)
    let s2 := (idsOfBooking bid (fun _ => true) s).foldl (fun acc iid => deleteInst iid acc) s1
    answerOk 0x26 tag (.bookDelete cancelled stopping done) s2
  else refuse 0x26 tag .notFound s

/-- BOOK_DELETE (R48, R49). -/
def execBookDelete (tag : Byte) (payload : List Byte) (s : State) : Host.Outcome State Fault Refusal :=
  .next (settle s (onMessage 0x26 tag pU8 payload (bookDelete tag) s))

/-! ## Reading (R51) -/

/-- BOOK_GET after its payload has been read (R51). -/
def bookGet (tag : Byte) (bid : Nat) (s : State) : State :=
  match findBooking bid s with
  | none => refuse 0x27 tag .notFound s
  | some b => answerOk 0x27 tag (.booking b (liveCount bid s) (endedCount bid s)) s

/-- BOOK_GET (R51): it changes no state of the table. -/
def execBookGet (tag : Byte) (payload : List Byte) (s : State) : Host.Outcome State Fault Refusal :=
  .next (onMessage 0x27 tag pU8 payload (bookGet tag) s)

/-- The summary of a booking (R51). -/
def summaryOf (s : State) (b : Booking) : BookSummary :=
  { id := b.id, part := b.part, bstate := b.bstate, priority := b.priority, nonTerminal := liveCount b.id s
    terminal := endedCount b.id s }

/-- BOOK_LIST after its payload has been read (R51): up to 32 bookings from a starting id. R51 does not say which id
the reply carries as the next id to ask for: the id of the first booking held after the last one returned is the model's
choice (DESIGN CHOICE, entry 65). -/
def bookList (tag : Byte) (start : Nat) (s : State) : State :=
  if start = 0 ∨ Config.bookingCap < start then refuse 0x28 tag .badField s
  else
    let from_ := s.bkt.bookings.filter (fun b => decide (start ≤ b.id))
    answerOk 0x28 tag (.bookList s.bkt.bookings.length ((from_.take 32).map (summaryOf s))
      ((from_.drop 32).head?.map (fun b => b.id))) s

/-- BOOK_LIST (R51): it changes no state of the table. -/
def execBookList (tag : Byte) (payload : List Byte) (s : State) : Host.Outcome State Fault Refusal :=
  .next (onMessage 0x28 tag pU8 payload (bookList tag) s)

/-! ## The episode history (R52 to R56) -/

/-- A pair that HISTORY_ADD or the pair form of HISTORY_DROP refuses (R53, R55). -/
def pairRefused (e : HistEntry) : Bool :=
  decide (32 < e.series.length) || e.episode.isEmpty || decide (32 < e.episode.length)

/-- HISTORY_ADD after its payload has been read (R53). -/
def historyAdd (tag : Byte) (e : HistEntry) (s : State) : State :=
  if pairRefused e then refuse 0x2C tag .badField s
  else answerOk 0x2C tag (.historyAdd (insertHistory e s).2.1 (insertHistory e s).2.2) (insertHistory e s).1

/-- HISTORY_ADD (R53). -/
def execHistoryAdd (tag : Byte) (payload : List Byte) (s : State) : Host.Outcome State Fault Refusal :=
  .next (settle s (onMessage 0x2C tag pHistEntry payload (historyAdd tag) s))

/-- Remove the entries a test selects and answer with the counts (R55). -/
def dropEntries (tag : Byte) (p : HistEntry → Bool) (s : State) : State :=
  let kept := s.bkt.history.filter (fun e => !p e)
  let removed := s.bkt.history.length - kept.length
  answerOk 0x2D tag (.historyDrop removed kept.length)
    (setDirtyIf (removed != 0) (modBkt (fun t => { t with history := kept }) s))

/-- HISTORY_DROP by its form (R55, R208). -/
def historyDrop (tag : Byte) (m : HistDropMsg) (s : State) : State :=
  match m with
  | .pair e => if pairRefused e then refuse 0x2D tag .badField s else dropEntries tag (fun x => x == e) s
  | .series r =>
    if 32 < r.length then refuse 0x2D tag .badField s else dropEntries tag (fun x => x.series == r) s

/-- HISTORY_DROP in pair form (R55). -/
def execHistoryDropPair (tag : Byte) (payload : List Byte) (s : State) : Host.Outcome State Fault Refusal :=
  .next (settle s (onMessage 0x2D tag pHistDrop payload (historyDrop tag) s))

/-- HISTORY_DROP in series form (R55). -/
def execHistoryDropSeries (tag : Byte) (payload : List Byte) (s : State) : Host.Outcome State Fault Refusal :=
  .next (settle s (onMessage 0x2D tag pHistDrop payload (historyDrop tag) s))

/-- Entries of one page of HISTORY_GET (R56). -/
def historyPage : Nat := 6

/-- Whether a read of the history reports an entry: any, or only those of the series named (R56). -/
def historyShows (series : Option Ref) (e : HistEntry) : Bool :=
  match series with
  | none => true
  | some r => e.series == r

/-- The first index of a HISTORY_GET reply: that of the first entry returned, or the index asked where none is
returned (R56; log entry 27). -/
def historyFirst (asked : Nat) (series : Option Ref) (page : List HistEntry) : Nat :=
  match page.findIdx? (historyShows series) with
  | some k => asked + k
  | none => asked

/-- HISTORY_GET after its payload has been read (R56): a page of six positions, of which only the entries of the
series named are reported (log entry 27). -/
def historyGet (tag : Byte) (m : Nat × Option Ref) (s : State) : State :=
  let h := s.bkt.history
  if h.length < m.1 then refuse 0x2E tag .badField s
  else
    let page := (h.drop m.1).take historyPage
    answerOk 0x2E tag (.historyGet h.length (historyFirst m.1 m.2 page) (page.filter (historyShows m.2))
      (if m.1 + historyPage < h.length then some (m.1 + historyPage) else none)) s

/-- HISTORY_GET (R56): it changes no state of the history. -/
def execHistoryGet (tag : Byte) (payload : List Byte) (s : State) : Host.Outcome State Fault Refusal :=
  .next (onMessage 0x2E tag pHistGet payload (historyGet tag) s)

end Sys2Proof.Machine
end

