-- ==== Sys2Proof/Machine/Guides.lean ====
section
/-! DEFINITION. The Guide Store (chapter 2): GUIDE_PUT, GUIDE_DROP, EVENT_STATUS and GUIDE_GET, and the purge that the
day rollover makes. -/

namespace Sys2Proof.Machine

open Sys2Proof

/-- Store order: start, then service id, then event id (R17). -/
def recLt (a b : GuideRec) : Bool :=
  decide (a.start < b.start) ||
    (a.start == b.start && (decide (a.key.service < b.key.service) ||
      (a.key.service == b.key.service && decide (a.key.event < b.key.event))))

/-- The end of an event. -/
def recEnd (r : GuideRec) : Nat := r.start + r.dur

/-- A recording names a key as its origin or among its alternates. -/
def namesKey (k : EventKey) (i : Inst) : Bool := i.origin == .event k || i.alts.contains k

/-- The number of non-terminal recordings that name a key (R19). -/
def pinsFor (k : EventKey) (insts : List Inst) : Nat :=
  (insts.filter (fun i => !isTerminal i.state && namesKey k i)).length

/-- The pin counts recomputed at an install (R19). -/
def recomputePins (s : State) : State :=
  setRecs (s.gst.recs.map (fun r => { r with pins := pinsFor r.key s.lst.insts })) s

/-- A recording pursues its episode for R27: it is not terminal, and its booking is not held SUSPENDED or SPENT. -/
def pursues (s : State) (i : Inst) : Bool :=
  !isTerminal i.state && (findBooking i.booking s).all (fun b => b.bstate == .active)

/-- One side of a guide change meets one of the four conditions of R27, judged against the live state. An airing that a
booking waits for is `awaited` (R62; log entry 57). -/
def relevantRec (s : State) (r : GuideRec) : Bool :=
  decide (0 < r.pins) ||
  s.bkt.bookings.any (fun b =>
    b.bstate == .active &&
      (match b.part with
       | .series ref _ _ => r.series == some ref
       | .event k _ _ => k == r.key
       | .manual _ => false)) ||
  (r.episode.isSome && s.lst.insts.any (fun i => pursues s i && i.episode == r.episode))

/-- An episode identity: a series ref or none, and an episode ref (R60). -/
structure Identity where
  series : Option Ref
  episode : Ref
  deriving DecidableEq, Repr

def recIdentity (r : GuideRec) : Option Identity := r.episode.map (fun e => { series := r.series, episode := e })

/-- A booking's held timing as a record (3.1). -/
def heldTiming (k : EventKey) (l : LastKnown) : GuideRec :=
  { key := k, mux := l.mux, start := l.start, dur := l.dur, series := l.series, episode := l.episode,
    status := .undefined, pins := 0 }

/-- The source of an EVENT booking: the guide record of its key, else its held timing (R62). -/
def eventSource (recs : List GuideRec) (k : EventKey) (l : LastKnown) : GuideRec :=
  (recOf k recs).getD (heldTiming k l)

/-- A record is eligible at a moment (R59). -/
def eligibleAt (t : Nat) (r : GuideRec) : Bool := decide (t + 60 < recEnd r)

/-- A booking waits for an airing of an episode to enter the guide (R62, nothing to record): it is an ACTIVE EVENT booking
with no recording of any state, its source is of that episode and not eligible, and the guide holds no eligible airing of
the episode that starts later than the source. The tests are made at now on the guide as it stands before the change (log
entry 57). -/
def awaits (s : State) (e : Identity) (b : Booking) : Bool :=
  b.bstate == .active && s.lst.insts.all (fun i => i.booking != b.id) &&
    (match b.part with
     | .event k l _ =>
       let src := eventSource s.gst.recs k l
       recIdentity src == some e && !eligibleAt (now s) src &&
         s.gst.recs.all (fun x => !(recIdentity x == some e && eligibleAt (now s) x && decide (src.start < x.start)))
     | .series _ _ _ => false
     | .manual _ => false)

/-- A record is an airing that a booking waits for. R62 calls its entry a relevant change under R27, though the four
conditions of R27 do not cover it (log entry 57). -/
def awaited (s : State) (r : GuideRec) : Bool :=
  (recIdentity r).any (fun e => s.bkt.bookings.any (awaits s e))

/-- A record that enters the store asks for a pass (R27, R62). -/
def relevantEntry (s : State) (r : GuideRec) : Bool := relevantRec s r || awaited s r

/-- The replacement of a record asks for a pass (R27): either side meets a condition, or an airing that a booking waits for
enters by it (R62). An airing of the same episode that the guide held before does not enter (log entry 57). -/
def relevantChange (s : State) (old r : GuideRec) : Bool :=
  relevantRec s old || relevantRec s r || (recIdentity old != recIdentity r && awaited s r)

/-- Put a record at its place in store order. -/
def placeRec (r : GuideRec) (s : State) : State := setRecs (insertBy recLt r s.gst.recs) s

/-- Take the record of a key out of the store. -/
def takeRec (k : EventKey) (s : State) : State := setRecs (s.gst.recs.filter (fun r => r.key != k)) s

/-- Remove a record by GUIDE_DROP or by the purge: tested as a removal (R27), and handed to Run Control as dropped (R28). -/
def removeRec (r : GuideRec) (s : State) : State :=
  handStatus r.key none (setDirtyIf (relevantRec s r) (takeRec r.key s))

/-- The tests of R22: the entry is ignored. -/
def entryIgnored (t : Nat) (e : GuideEntry) : Bool :=
  let badRef := fun (r : Option Ref) =>
    match r with
    | none => false
    | some bs => bs.isEmpty || decide (32 < bs.length)
  e.key.service == 0 || e.mux == 0 || decide (e.dur < Config.minWindow) || decide (Config.maxDur < e.dur) ||
    decide (Config.maxTime < e.start + e.dur) || decide (e.start + e.dur ≤ t) ||
    decide (t + Config.horizon ≤ e.start) || badRef e.series || badRef e.episode

/-- The counts of a GUIDE_PUT (R26). -/
structure PutCounts where
  inserted : Nat
  replaced : Nat
  evicted : Nat
  ignored : Nat
  deriving DecidableEq, Repr

/-- The status an entry carries. -/
def entryStatus (e : GuideEntry) : Option RunStatus := e.status.bind runStatusOf

/-- An accepted entry whose key is held (R23). A changed one is tested as it was and as it is (R27, R62). -/
def replaceEntry (e : GuideEntry) (old : GuideRec) (s : State) : State :=
  let r : GuideRec := { old with
    mux := e.mux, start := e.start, dur := e.dur, series := e.series, episode := e.episode
    status := (entryStatus e).getD old.status }
  let changed := r.mux != old.mux || r.start != old.start || r.dur != old.dur || r.series != old.series ||
    r.episode != old.episode
  let s1 := setDirtyIf (changed && relevantChange s old r) (placeRec r (takeRec e.key s))
  if r.status = old.status then s1 else handStatus e.key (some r.status) s1

/-- An accepted entry whose key is not held is inserted (R24). -/
def insertEntry (e : GuideEntry) (s : State) : State :=
  let r : GuideRec := { key := e.key, mux := e.mux, start := e.start, dur := e.dur, series := e.series,
                        episode := e.episode, status := (entryStatus e).getD .undefined,
                        pins := pinsFor e.key s.lst.insts }
  setDirtyIf (relevantEntry s r) (placeRec r s)

/-- The latest record whose pin count is 0 (R25). -/
def latestUnpinned (recs : List GuideRec) : Option GuideRec := recs.reverse.find? (fun r => r.pins == 0)

/-- One entry of a GUIDE_PUT, judged against `t`, the count at which the message was taken (R21 to R25). -/
def putEntry (t : Nat) (sc : State × PutCounts) (e : GuideEntry) : State × PutCounts :=
  let s := sc.1
  let c := sc.2
  if entryIgnored t e then (s, { c with ignored := c.ignored + 1 })
  else
    match recOf e.key s.gst.recs with
    | some old => (replaceEntry e old s, { c with replaced := c.replaced + 1 })
    | none =>
      if s.gst.recs.length < Config.guideCap then (insertEntry e s, { c with inserted := c.inserted + 1 })
      else
        match latestUnpinned s.gst.recs with
        | none => (s, { c with ignored := c.ignored + 1 })
        | some v =>
          if e.start < v.start then
            (insertEntry e (setDirtyIf (relevantRec s v) (takeRec v.key s)),
              { c with inserted := c.inserted + 1, evicted := c.evicted + 1 })
          else (s, { c with ignored := c.ignored + 1 })

/-- A GUIDE_PUT that is taken (R21, R26). -/
def guidePut (tag : Byte) (es : List GuideEntry) (s : State) : State :=
  let r := es.foldl (putEntry (now s)) (s, { inserted := 0, replaced := 0, evicted := 0, ignored := 0 })
  answerOk 0x18 tag
    (.guidePut r.2.inserted r.2.replaced r.2.evicted r.2.ignored r.1.gst.recs.length) r.1

/-- GUIDE_PUT (R21 to R26): CLOCK_UNSET, then BAD_LENGTH, then BAD_FIELD. -/
def execGuidePut (tag : Byte) (payload : List Byte) (s : State) : Host.Outcome State Fault Refusal :=
  .next (settle s (onFrame 0x18 tag payload (fun t =>
    if clockSet t then
      match parseAll pGuidePut payload with
      | .error e => refuse 0x18 tag e t
      | .ok es =>
        if es.any (fun e => e.status.isSome && (entryStatus e).isNone) then refuse 0x18 tag .badField t
        else guidePut tag es t
    else refuse 0x18 tag .clockUnset t) s))

/-- The keys of a GUIDE_DROP, in list order: removed or not found (R29). -/
def dropKey (sc : State × Nat × Nat) (k : EventKey) : State × Nat × Nat :=
  match recOf k sc.1.gst.recs with
  | some r => (removeRec r sc.1, sc.2.1 + 1, sc.2.2)
  | none => (sc.1, sc.2.1, sc.2.2 + 1)

def dropKeys (tag : Byte) (ks : List EventKey) (s : State) : State :=
  let r := ks.foldl dropKey (s, 0, 0)
  answerOk 0x19 tag (.guideDrop r.2.1 r.2.2 r.1.gst.recs.length) r.1

/-- Every record of one service is removed (R30), in store order, which R30 leaves open (log entry 56). -/
def dropService (tag : Byte) (service : Nat) (s : State) : State :=
  if service = 0 then refuse 0x19 tag .badField s
  else
    let gone := s.gst.recs.filter (fun r => r.key.service == service)
    let s1 := gone.foldl (fun acc r => removeRec r acc) s
    answerOk 0x19 tag (.guideDrop gone.length 0 s1.gst.recs.length) s1

/-- GUIDE_DROP by its form (R29, R30, R208). -/
def guideDrop (tag : Byte) (m : GuideDropMsg) (s : State) : State :=
  match m with
  | .keys ks => dropKeys tag ks s
  | .service id => dropService tag id s

/-- GUIDE_DROP in key form (R29). -/
def execGuideDropKeys (tag : Byte) (payload : List Byte) (s : State) : Host.Outcome State Fault Refusal :=
  .next (settle s (onMessage 0x19 tag pGuideDrop payload (guideDrop tag) s))

/-- GUIDE_DROP in service form (R30). -/
def execGuideDropService (tag : Byte) (payload : List Byte) (s : State) : Host.Outcome State Fault Refusal :=
  .next (settle s (onMessage 0x19 tag pGuideDrop payload (guideDrop tag) s))

/-- An EVENT_STATUS (R31). An undefined status is judged before the key (log entry 13). -/
def eventStatus (tag : Byte) (m : EventKey × Nat) (s : State) : State :=
  match runStatusOf m.2 with
  | none => refuse 0x1A tag .badField s
  | some st =>
    match recOf m.1 s.gst.recs with
    | none => refuse 0x1A tag .notFound s
    | some r =>
      let s1 := setRecs (s.gst.recs.map (fun x => if x.key == m.1 then { x with status := st } else x)) s
      let s2 := if r.status = st then s1 else handStatus m.1 (some st) s1
      answerOk 0x1A tag (.runStatus r.status) s2

/-- EVENT_STATUS (R31, with the hand-off of R28). -/
def execEventStatus (tag : Byte) (payload : List Byte) (s : State) : Host.Outcome State Fault Refusal :=
  .next (settle s (onMessage 0x1A tag pEventStatus payload (eventStatus tag) s))

/-- GUIDE_GET with an event key (R33). -/
def guideGetKey (tag : Byte) (k : EventKey) (s : State) : State :=
  match recOf k s.gst.recs with
  | none => refuse 0x1B tag .notFound s
  | some r => answerOk 0x1B tag (.guideRec r) s

/-- GUIDE_GET without a key: the summary (R33). -/
def guideSummary (tag : Byte) (s : State) : State :=
  let recs := s.gst.recs
  let range :=
    match recs.head?, recs.getLast? with
    | some a, some b => some (a.start, b.start)
    | _, _ => none
  answerOk 0x1B tag (.guideSummary recs.length (Config.guideCap - recs.length)
    (recs.filter (fun r => decide (0 < r.pins))).length range) s

/-- GUIDE_GET by the length of its payload (R208). -/
def guideGet (tag : Byte) (payload : List Byte) (s : State) : State :=
  match payload with
  | [] => guideSummary tag s
  | _ :: _ =>
    match parseAll pKey payload with
    | .ok k => guideGetKey tag k s
    | .error e => refuse 0x1B tag e s

/-- GUIDE_GET of one event (R33): it changes no state of the store. -/
def execGuideGetEvent (tag : Byte) (payload : List Byte) (s : State) : Host.Outcome State Fault Refusal :=
  .next (onFrame 0x1B tag payload (guideGet tag payload) s)

/-- GUIDE_GET of the summary (R33): it changes no state of the store. -/
def execGuideGetSummary (tag : Byte) (payload : List Byte) (s : State) : Host.Outcome State Fault Refusal :=
  .next (onFrame 0x1B tag payload (guideGet tag payload) s)

/-- The records that the day rollover removes: ended, and not pinned (R32). -/
def purgeable (s : State) : List GuideRec :=
  s.gst.recs.filter (fun r => decide (recEnd r ≤ now s) && r.pins == 0)

/-- The purge at the day rollover (R32). -/
def purgeGuide (s : State) : State := (purgeable s).foldl (fun acc r => removeRec r acc) s

end Sys2Proof.Machine
end

