-- ==== Sys2Proof/Machine/Clocks.lean ====
section
/-! DEFINITION. The Clock Unit (chapter 1): the crystal second, the day rollover, the offset change, TIME_SET and
TIME_GET, and the conversion of local occurrences. -/

namespace Sys2Proof.Machine

open Sys2Proof

/-- The day index of a time (R12). -/
def dayIndex (t : Nat) : Nat := t / Config.dayLen

/-- The local day of a time under an offset: floor division, toward minus infinity (R12). -/
def localDay (t : Nat) (offset : Int) : Int := Int.fdiv (Int.ofNat t + offset) 86400

/-- The UTC midnight that follows a time (R6, R14). -/
def midnightAfter (t : Nat) : Nat := (dayIndex t + 1) * Config.dayLen

/-- The count moves on to a time: the requests reached are delivered, a rollover is raised when a midnight has been
passed, and the offset-change event when the change time has (R3, R14, R15). -/
def moveCount (t : Nat) (c : Clock) : Clock :=
  deliverDues { c with
    count := t
    rollovers := if dayIndex c.count < dayIndex t then c.rollovers + 1 else c.rollovers
    changeDue := c.changeDue || (match c.change with
      | some ch => decide (ch.time ≤ t)
      | none => false) }

/-- The count one or two seconds on; at 4,294,967,295 it holds (R1, R9). -/
def advance (n : Nat) (c : Clock) : Clock := moveCount (min Config.maxTime (c.count + n)) c

/-- A crystal second of a slew (R9). -/
def slewSecond (c : Clock) : Clock :=
  if c.slewPhase + 1 < 10 then advance 1 { c with slewPhase := c.slewPhase + 1 }
  else
    let c1 : Clock := { c with slewPhase := 0 }
    let c2 : Clock :=
      if 0 < c1.slewRem then { advance 2 c1 with slewRem := c1.slewRem - 1 }
      else { c1 with slewRem := c1.slewRem + 1 }
    if c2.slewRem = 0 then { c2 with cstate := .running } else c2

/-- A crystal second (R1, R2, R4, R9). -/
def crystalSecond (c : Clock) : Clock :=
  let c1 : Clock := { elapseDelays (Config.unitsPerSecond - c.sub) c with sub := 0 }
  match c1.cstate with
  | .unset => c1
  | .running => advance 1 c1
  | .slewing => slewSecond c1

/-- CRYSTAL_SECOND (R1, R9). The requests it delivers are events of their own. -/
def execCrystalSecond (s : State) : Host.Outcome State Fault Refusal := .next (modClk crystalSecond s)

/-- The Clock Unit takes the rollover and requests the next midnight (R14). -/
def rolloverTaken (c : Clock) : Clock :=
  { c with rollovers := c.rollovers - 1, nextMidnight := some (midnightAfter c.count) }

/-- The rollover reaches the Guide Store and the Planner, in either order (R14, R32; log entry 8). -/
def handRollover (s : State) : State :=
  if (purgeable s).isEmpty then setDirty s
  else if Config.freePurgeFirst s.free then setDirty (purgeGuide (bumpFree s))
  else purgeGuide (beginPass (setDirty (bumpFree s)))

/-- DAY_ROLLOVER (R14, R32): taken when a rollover has been raised. -/
def execDayRollover (s : State) : Host.Outcome State Fault Refusal :=
  if s.clk.rollovers = 0 then .next s
  else .next (settle s (handRollover (modClk rolloverTaken s)))

def clockCond (code : CondCode) : Condition :=
  { bank := .clock, cls := .soft, code := code, iid := none, booking := none }

/-- The offset-change event on the clock: L1 comes into force and the pending change is gone (R15). -/
def applyChange (ch : OffsetChange) (c : Clock) : Clock :=
  { c with offset := ch.offset, change := none, changeDue := false }

/-- OFFSET_CHANGE (R15): taken when the count has reached the change time. -/
def execOffsetChange (s : State) : Host.Outcome State Fault Refusal :=
  match s.clk.changeDue, s.clk.change with
  | true, some ch =>
    let s1 := modClk (applyChange ch) s
    let s2 := if ch.offset = s.clk.offset then s1 else submit (clockCond .offsetChanged) s1
    .next (settle s (setDirty s2))
  | _, _ => .next s

/-- An offset brought into form: rounded toward zero to a multiple of 900, then within ±50,400 (R5). -/
def formOffset (o : Int) : Int := max (-50400) (min 50400 (Int.tdiv o 900 * 900))

/-- The pending change with its new offset brought into form (R5). -/
def formChange (c : Option OffsetChange) : Option OffsetChange :=
  c.map (fun ch => { ch with offset := formOffset ch.offset })

/-- The first setting of the clock (R6). -/
def firstSet (t : Nat) (c : Clock) : Clock :=
  deliverDues { c with count := t, sub := 0, cstate := .running, slewRem := 0, slewPhase := 0,
                       nextMidnight := some (midnightAfter t) }

/-- A step of the clock, forward or backward (R7, R14). R7 names remainder, sub-second phase and state; the slew phase
starts again from 0 too (log entry 45). -/
def stepClock (t : Nat) (c : Clock) : Clock :=
  let c1 : Clock := { c with sub := 0, slewRem := 0, slewPhase := 0, cstate := .running }
  if c.count < t then moveCount t c1
  else { c1 with count := t, nextMidnight := some (midnightAfter t) }

/-- A slew, or the end of one when the difference is 0 (R8). -/
def slewClock (diff : Int) (c : Clock) : Clock :=
  if diff = 0 then { c with slewRem := 0, cstate := .running }
  else { c with slewRem := diff, slewPhase := 0, cstate := .slewing }

/-- The time field minus the count (R7). -/
def timeDiff (t : Nat) (c : Clock) : Int := Int.ofNat t - Int.ofNat c.count

/-- A difference greater than 2 s is a step (R7, R8). -/
def isStep (t : Nat) (c : Clock) : Bool := decide (2 < (timeDiff t c).natAbs)

/-- What a TIME_SET does to the count and the clock state (R6, R7, R8). -/
def setCount (t : Nat) (c : Clock) : Clock :=
  match c.cstate with
  | .unset => firstSet t c
  | _ => if isStep t c then stepClock t c else slewClock (timeDiff t c) c

/-- The action of the reply (R6 to R8). -/
def setAction (t : Nat) (c : Clock) : TimeAction :=
  match c.cstate with
  | .unset => .set
  | _ => if isStep t c then .stepped else if timeDiff t c = 0 then .unchanged else .slewing

/-- An offset-change event that the command finds reached is taken before the replacement (R15; log entry 18). -/
def changeReached (c : Clock) : Option OffsetChange := if c.changeDue then c.change else none

/-- The offset and the pending change are replaced (R10). -/
def replaceOffset (o : Int) (ch : Option OffsetChange) (c : Clock) : Clock :=
  { c with offset := o, change := ch, changeDue := (match ch with
    | some x => decide (x.time ≤ c.count)
    | none => false) }

/-- The conditions of a TIME_SET: TIME_STEPPED, and OFFSET_CHANGED of the event and of the replacement (R7, R10, R15). -/
def timeSetConds (m : TimeSetMsg) (before mid : Clock) : List Condition :=
  (match before.cstate with
   | .unset => []
   | _ => if isStep m.time before then [clockCond .timeStepped] else []) ++
  (match changeReached mid with
   | some ch => if ch.offset = mid.offset then [] else [clockCond .offsetChanged]
   | none => []) ++
  (if formOffset m.offset = before.offset then [] else [clockCond .offsetChanged])

/-- The Planner's dirty flag is set by the first setting, by a step, by the event, and by a change of the offset or
the pending change (R6, R7, R10, R15). -/
def timeSetDirty (m : TimeSetMsg) (before mid : Clock) : Bool :=
  before.cstate == .unset || isStep m.time before || (changeReached mid).isSome ||
    formOffset m.offset != before.offset || formChange m.change != before.change

/-- A TIME_SET that is taken (R5 to R10). -/
def takeTimeSet (tag : Byte) (m : TimeSetMsg) (s : State) : State :=
  let before := s.clk
  let mid := setCount m.time before
  let after := replaceOffset (formOffset m.offset) (formChange m.change) mid
  let clamped := formOffset m.offset != m.offset || formChange m.change != m.change
  let s1 := submitFree (timeSetConds m before mid) (modClk (fun _ => after) s)
  let s2 := retestStandby true (setDirtyIf (timeSetDirty m before mid) s1)
  answer 0x10 tag .ok clamped (.timeSet (setAction m.time before) after.count after.cstate) s2

/-- TIME_SET after its payload has been read: refused when the change time does not exceed the time field (R5). -/
def timeSet (tag : Byte) (m : TimeSetMsg) (s : State) : State :=
  match m.change with
  | some ch => if ch.time ≤ m.time then refuse 0x10 tag .badField s else takeTimeSet tag m s
  | none => takeTimeSet tag m s

/-- TIME_SET (R5 to R10). -/
def execTimeSet (tag : Byte) (payload : List Byte) (s : State) : Host.Outcome State Fault Refusal :=
  .next (settle s (onMessage 0x10 tag pTimeSet payload (timeSet tag) s))

/-- TIME_GET after its payload has been read (R11). -/
def timeGet (tag : Byte) (s : State) : State :=
  let c := s.clk
  answerOk 0x11 tag (.timeGet c.count c.cstate c.slewRem c.offset c.change (dayIndex c.count)
    (localDay c.count c.offset)) s

/-- TIME_GET (R11): it changes no state of the Clock Unit. -/
def execTimeGet (tag : Byte) (payload : List Byte) (s : State) : Host.Outcome State Fault Refusal :=
  .next (onMessage 0x11 tag pNone payload (fun _ t => timeGet tag t) s)

/-- The conversion of a local occurrence (day, second of the day) to schedule time; none outside schedule time (R13). -/
def convertLocal (offset : Int) (change : Option OffsetChange) (day : Int) (t0 : Nat) : Option Nat :=
  let loc := day * 86400 + Int.ofNat t0
  let u0 := loc - offset
  let u :=
    match change with
    | none => u0
    | some ch =>
      if u0 < Int.ofNat ch.time then u0
      else if Int.ofNat ch.time ≤ loc - ch.offset then loc - ch.offset
      else u0
  if 0 ≤ u ∧ u ≤ 4294967295 then some u.toNat else none

end Sys2Proof.Machine
end

