-- ==== Sys2Proof/Machine/Conditions.lean ====
section
/-! DEFINITION. The Condition Log's messages (9.7): COND_READ, COND_CLEAR and COND_CONFIG. The submission of a
condition and its write are in Machine/Ops.lean. -/

namespace Sys2Proof.Machine

open Sys2Proof

/-- The five banks in bank order (R166). -/
def allBanks : List BankId := [.tunerA, .tunerB, .plan, .wake, .clock]

/-- The banks a bank number names: one, or all five for 255 (R175, R208). -/
def banksOf : Nat → Option (List BankId)
  | 0 => some [.tunerA]
  | 1 => some [.tunerB]
  | 2 => some [.plan]
  | 3 => some [.wake]
  | 4 => some [.clock]
  | 255 => some allBanks
  | _ => none

/-- The tuner whose bank this is. -/
def tunerOfBank : BankId → Option Tuner
  | .tunerA => some .a
  | .tunerB => some .b
  | .plan | .wake | .clock => none

/-- PLAN, WAKE and CLOCK hold no counter (R176, R177). -/
def holdsNoCounter (bs : List BankId) : Bool := bs.all (fun b => (tunerOfBank b).isNone)

/-- A bank with its gap counter, when it is a tuner's (R175). -/
def viewBank (c : CondLog) (b : BankId) : BankView :=
  { id := b, bank := bankAt b c, gap := (tunerOfBank b).map (fun t => gapAt t c) }

/-- COND_READ after its payload has been read (R175). -/
def condRead (tag : Byte) (n : Nat) (s : State) : State :=
  match banksOf n with
  | none => refuse 0x40 tag .badField s
  | some bs => answerOk 0x40 tag (.condRead (bs.map (viewBank s.cnd))) s

/-- COND_READ (R175): it changes no state of the log. -/
def execCondRead (tag : Byte) (payload : List Byte) (s : State) : Host.Outcome State Fault Refusal :=
  .next (onMessage 0x40 tag pU8 payload (condRead tag) s)

/-- A bank cleared: mask and enable kept (R176). -/
def clearedBank (b : Bank) : Bank := { b with held := none, overflow := false, further := 0 }

/-- Clear one bank and, with the counter flag, a tuner's gap counter (R176, R174). -/
def clearBank (counter : Bool) (c : CondLog) (b : BankId) : CondLog :=
  let c1 := setBank b (clearedBank (bankAt b c)) c
  match counter, tunerOfBank b with
  | true, some t => setGap t { gapAt t c1 with count := 0, armed := true } c1
  | _, _ => c1

/-- A cleared bank's entry in the reply: the record taken, with the counter when it was zeroed (R176). -/
def viewCleared (counter : Bool) (c : CondLog) (b : BankId) : BankView :=
  { id := b, bank := bankAt b c
    gap := if counter then (tunerOfBank b).map (fun t => gapAt t c) else none }

/-- COND_CLEAR after its payload has been read (R176). -/
def condClear (tag : Byte) (m : Nat × Bool) (s : State) : State :=
  match banksOf m.1 with
  | none => refuse 0x41 tag .badField s
  | some bs =>
    if m.2 && holdsNoCounter bs then refuse 0x41 tag .badField s
    else
      answerOk 0x41 tag (.condClear (bs.map (viewCleared m.2 s.cnd)))
        (modCnd (fun c => bs.foldl (clearBank m.2) c) s)

/-- COND_CLEAR (R176). -/
def execCondClear (tag : Byte) (payload : List Byte) (s : State) : Host.Outcome State Fault Refusal :=
  .next (onMessage 0x41 tag pCondClear payload (condClear tag) s)

/-- Write the settings named into one bank; a threshold re-arms a tuner's counter (R174, R177). -/
def configBank (m : CondConfigMsg) (c : CondLog) (b : BankId) : CondLog :=
  let old := bankAt b c
  let c1 := setBank b { old with mask := m.mask.getD old.mask, enable := m.enable.getD old.enable } c
  match m.threshold, tunerOfBank b with
  | some v, some t => setGap t { gapAt t c1 with threshold := v, armed := true } c1
  | _, _ => c1

/-- The banks of those named that a COND_CONFIG writes: a mask or an enable is written to each, a threshold to the
tuner banks alone (R177). -/
def writtenBanks (m : CondConfigMsg) (bs : List BankId) : List BankId :=
  if m.mask.isSome || m.enable.isSome then bs else bs.filter (fun b => (tunerOfBank b).isSome)

/-- COND_CONFIG after its payload has been read (R177). -/
def condConfig (tag : Byte) (m : CondConfigMsg) (s : State) : State :=
  if m.mask.isNone && m.enable.isNone && m.threshold.isNone then refuse 0x42 tag .badLength s
  else
    match banksOf m.bank with
    | none => refuse 0x42 tag .badField s
    | some bs =>
      if m.threshold.isSome && holdsNoCounter bs then refuse 0x42 tag .badField s
      else
        let c := bs.foldl (configBank m) s.cnd
        answerOk 0x42 tag (.condConfig ((writtenBanks m bs).map (viewBank c))) (modCnd (fun _ => c) s)

/-- COND_CONFIG (R177, R178). -/
def execCondConfig (tag : Byte) (payload : List Byte) (s : State) : Host.Outcome State Fault Refusal :=
  .next (onMessage 0x42 tag pCondConfig payload (condConfig tag) s)

end Sys2Proof.Machine
end

