-- ==== Sys2Proof/Machine/Expansion.lean ====
section
/-! DEFINITION. Expansion (chapter 4): from the snapshot of a pass, which recordings of each booking should be created,
refreshed or removed, what the booking learns, and which conditions the install submits. -/

namespace Sys2Proof.Machine

open Sys2Proof

/-- A creation that a booking asks for (R62, R63, R69, R72, R76). -/
structure Creation where
  booking : Nat
  origin : Origin
  episode : Option Ref
  service : Nat
  mux : Nat
  start : Nat
  dur : Nat
  alts : List EventKey
  deriving DecidableEq, Repr

/-- A refresh of an existing recording (R61, R67, R71). -/
structure Refresh where
  iid : Nat
  origin : Origin
  service : Nat
  mux : Nat
  start : Nat
  dur : Nat
  alts : List EventKey
  deriving DecidableEq, Repr

/-- What the expansion of one booking gives (R58). -/
structure BookingResult where
  booking : Nat
  creations : List Creation
  refreshes : List Refresh
  removals : List Nat
  /-- EVENT bookings: the last known event when the key is in the guide, none when held is to be set (R64) -/
  update : Option (Option LastKnown)
  /-- reported as spent, or as past its last day (R63, R72) -/
  spent : Bool
  /-- a request was refused by the limit of R70 -/
  limited : Bool
  deriving DecidableEq, Repr

/-! ## Airings, episodes and the retry floor (R59, R60) -/

/-- The series ref of the recordings of a booking (R60). -/
def bookingSeries (b : Booking) : Option Ref :=
  match b.part with
  | .event _ last _ => last.series
  | .series r _ _ => some r
  | .manual _ => none

def instIdentity (b : Booking) (i : Inst) : Option Identity :=
  i.episode.map (fun e => { series := bookingSeries b, episode := e })

/-- The recordings of a booking in the snapshot, in any state. -/
def instsOf (p : Snapshot) (b : Booking) : List Inst := p.insts.filter (fun i => i.booking == b.id)

/-- The non-terminal ones. -/
def liveOf (p : Snapshot) (b : Booking) : List Inst := (instsOf p b).filter (fun i => !isTerminal i.state)

/-- The key is the origin of a recording of the booking other than `self` (R59). -/
def originTaken (insts : List Inst) (self : Option Nat) (k : EventKey) : Bool :=
  insts.any (fun i => i.origin == .event k && some i.id != self)

/-- The starts of the booking's terminal recordings with an identity; an airing must start later than all (R59, R60).
R63 words the floor of a retry by all the booking's terminal recordings; those of equal identity are taken (log entry
58). -/
def aboveFloor (b : Booking) (insts : List Inst) (e : Identity) (r : GuideRec) : Bool :=
  insts.all (fun i => !(isTerminal i.state && instIdentity b i == some e) || decide (i.start < r.start))

/-- The candidates for a recording of a booking with an identity, in store order (R59). -/
def candidates (p : Snapshot) (b : Booking) (self : Option Nat) (e : Identity) : List GuideRec :=
  p.guide.filter (fun r => recIdentity r == some e && eligibleAt p.now r &&
    !originTaken (instsOf p b) self r.key && aboveFloor b (instsOf p b) e r)

/-- The keys of the earliest four airings. -/
def firstFour (rs : List GuideRec) : List EventKey := (rs.take Config.altCap).map (fun r => r.key)

/-- The airings other than an origin. -/
def others (o : Origin) (rs : List GuideRec) : List GuideRec := rs.filter (fun r => o != .event r.key)

/-- A creation from a record. -/
def createFrom (b : Booking) (r : GuideRec) (alts : List EventKey) : Creation :=
  { booking := b.id, origin := .event r.key, episode := r.episode, service := r.key.service, mux := r.mux,
    start := r.start, dur := r.dur, alts := alts }

/-- A refresh that keeps origin and core. -/
def keepCore (i : Inst) (alts : List EventKey) : Refresh :=
  { iid := i.id, origin := i.origin, service := i.service, mux := i.mux, start := i.start, dur := i.dur, alts := alts }

/-- A refresh that takes the core of a record. -/
def takeCore (i : Inst) (r : GuideRec) (alts : List EventKey) : Refresh :=
  { iid := i.id, origin := .event r.key, service := r.key.service, mux := r.mux, start := r.start, dur := r.dur,
    alts := alts }

/-- The guide record of an origin. -/
def originRec (p : Snapshot) (i : Inst) : Option GuideRec :=
  match i.origin with
  | .event k => recOf k p.guide
  | .day _ => none

/-! ## Event bookings (R61 to R64) -/

/-- The alternates of an EVENT booking's recording (R61). -/
def eventAlts (p : Snapshot) (b : Booking) (self : Option Nat) (o : Origin) (e : Option Ref) : List EventKey :=
  match e with
  | none => []
  | some ep => firstFour (others o (candidates p b self { series := bookingSeries b, episode := ep }))

/-- The refresh of an EVENT booking's recording (R61). -/
def refreshEvent (p : Snapshot) (b : Booking) (i : Inst) : Refresh :=
  let alts := eventAlts p b (some i.id) i.origin i.episode
  match isPlaceable i.state, originRec p i with
  | true, some r => takeCore i r alts
  | _, _ => keepCore i alts

/-- The earliest of some airings as origin, the next four as alternates. -/
def createFirst (b : Booking) : List GuideRec → List Creation
  | [] => []
  | r :: rest => [createFrom b r (firstFour rest)]

/-- The first creation of an EVENT booking (R62). -/
def firstEvent (p : Snapshot) (b : Booking) (k : EventKey) (l : LastKnown) : List Creation :=
  let src := eventSource p.guide k l
  if eligibleAt p.now src then [createFrom b src (eventAlts p b none (.event k) src.episode)]
  else
    match recIdentity src with
    | none => []
    | some e => createFirst b ((candidates p b none e).filter (fun r => decide (src.start < r.start)))

/-- The retry of an EVENT booking (R63), above the floor of R59 (log entry 58). -/
def retryEvent (p : Snapshot) (b : Booking) (l : LastKnown) : List Creation :=
  match l.episode with
  | none => []
  | some ep => createFirst b (candidates p b none { series := l.series, episode := ep })

/-- The expansion of an ACTIVE EVENT booking. -/
def expandEvent (p : Snapshot) (b : Booking) (k : EventKey) (l : LastKnown) : BookingResult :=
  let live := liveOf p b
  let creations :=
    if !live.isEmpty then []
    else if (instsOf p b).isEmpty then firstEvent p b k l
    else retryEvent p b l
  { booking := b.id, creations := creations, refreshes := live.map (refreshEvent p b), removals := []
    update := some ((recOf k p.guide).map (fun r =>
      { mux := r.mux, start := r.start, dur := r.dur, series := r.series, episode := r.episode }))
    spent := live.isEmpty && !(instsOf p b).isEmpty && (retryEvent p b l).isEmpty
    limited := false }

/-! ## Series links (R65 to R69) -/

/-- A group: the members with one episode ref, or one member without (R65). -/
inductive Group where
  | episode (e : Ref)
  | lone (k : EventKey)
  deriving DecidableEq, Repr

def groupOf (r : GuideRec) : Group :=
  match r.episode with
  | some e => .episode e
  | none => .lone r.key

/-- The members of a SERIES booking, in store order (R65). -/
def members (p : Snapshot) (r : Ref) (scope : Option Nat) : List GuideRec :=
  p.guide.filter (fun x => x.series == some r && (scope.isNone || scope == some x.key.service) && eligibleAt p.now x)

/-- The group a recording is matched to (R67). -/
def instGroup (i : Inst) : Option Group :=
  match i.episode, i.origin with
  | some e, _ => some (.episode e)
  | none, .event k => some (.lone k)
  | none, .day _ => none

/-- A group is skipped: new-only, and its identity is held in the history (R66). -/
def skipped (p : Snapshot) (r : Ref) (newOnly : Bool) : Group → Bool
  | .episode e => newOnly && p.history.contains { series := r, episode := e }
  | .lone _ => false

/-- The members that are candidates of a group (R65). -/
def groupCandidates (p : Snapshot) (b : Booking) (ms : List GuideRec) (self : Option Nat) (g : Group) :
    List GuideRec :=
  ms.filter (fun x => groupOf x == g && !originTaken (instsOf p b) self x.key &&
    (match g with
     | .episode e => aboveFloor b (instsOf p b) { series := bookingSeries b, episode := e } x
     | .lone _ => true))

/-- The refresh of a recording whose group exists and is not skipped (R67). -/
def refreshMatched (p : Snapshot) (b : Booking) (ms : List GuideRec) (g : Group) (i : Inst) : Refresh :=
  let cands := groupCandidates p b ms (some i.id) g
  let alts := fun (o : Origin) => firstFour (others o cands)
  if isPlaceable i.state then
    match originRec p i with
    | some r =>
      if ms.contains r then
        if groupOf r = g then takeCore i r (alts i.origin)
        else
          match cands with
          | [] => keepCore i (alts i.origin)
          | c :: _ => takeCore i c (alts (.event c.key))
      else keepCore i (alts i.origin)
    | none =>
      match cands with
      | [] => keepCore i (alts i.origin)
      | c :: _ => takeCore i c (alts (.event c.key))
  else keepCore i (alts i.origin)

/-- What becomes of one non-terminal recording of a SERIES booking: refreshed, removed, or left (R66 to R68). -/
inductive Keep where
  | refresh (r : Refresh)
  | remove
  | leave
  deriving DecidableEq, Repr

/-- The judgement of a recording by its group (R66 to R68). A running one of a skipped group is left as it is, its
alternates too (log entry 47). -/
def judgeSeries (p : Snapshot) (b : Booking) (r : Ref) (newOnly : Bool) (ms : List GuideRec) (i : Inst) : Keep :=
  match instGroup i with
  | none => .leave
  | some g =>
    if ms.any (fun x => groupOf x == g) then
      if skipped p r newOnly g then (if isPlaceable i.state then .remove else .leave)
      else .refresh (refreshMatched p b ms g i)
    else if isPlaceable i.state && (originRec p i).isNone then .remove
    else .refresh (keepCore i [])

def refreshesOf (ks : List (Inst × Keep)) : List Refresh :=
  ks.filterMap (fun x => match x.2 with
    | .refresh r => some r
    | _ => none)

def removalsOf (ks : List (Inst × Keep)) : List Nat :=
  ks.filterMap (fun x => match x.2 with
    | .remove => some x.1.id
    | _ => none)

/-- The creations a SERIES booking asks for, in store order of their origins (R69, R70). -/
def seriesRequests (p : Snapshot) (b : Booking) (r : Ref) (newOnly : Bool) (ms : List GuideRec) : List Creation :=
  let groups := (ms.map groupOf).eraseDups
  let wanted := groups.filter (fun g => !skipped p r newOnly g &&
    (liveOf p b).all (fun i => instGroup i != some g))
  let firsts := wanted.filterMap (fun g =>
    match groupCandidates p b ms none g with
    | [] => none
    | c :: rest => some (c, createFrom b c (firstFour rest)))
  (sortBy (fun x y => recLt x.1 y.1) firsts).map (fun x => x.2)

/-- The expansion of an ACTIVE SERIES booking. -/
def expandSeries (p : Snapshot) (b : Booking) (r : Ref) (scope : Option Nat) (newOnly : Bool) : BookingResult :=
  let ms := members p r scope
  let judged := (liveOf p b).map (fun i => (i, judgeSeries p b r newOnly ms i))
  { booking := b.id, creations := seriesRequests p b r newOnly ms, refreshes := refreshesOf judged
    removals := removalsOf judged, update := none, spent := false, limited := false }

/-! ## Manual bookings (R71, R72) -/

/-- The schedule time of a local day that qualifies (R71). -/
def qualifies (p : Snapshot) (m : ManualPart) (d : Int) : Option Nat :=
  if m.firstDay ≤ d ∧ (m.lastDay.all (fun l => decide (d ≤ l))) = true ∧ m.mask.getLsbD (d.emod 7).toNat = true then
    convertLocal p.offset p.change d m.t0
  else none

/-- The local days that can lie within reach: from three days before now's day index to nine after it, since a
core lasts a day at most, an offset is at most 14 hours and the horizon is 8 days (R5, R71). -/
def reachDays (t : Nat) : List Int := (List.range 13).map (fun n => Int.ofNat (dayIndex t) - 3 + Int.ofNat n)

/-- The days within reach with their times, in ascending time; of two days with one time the earlier stands first (R71,
R72, R74; log entry 55). -/
def daysInReach (p : Snapshot) (m : ManualPart) : List (Int × Nat) :=
  sortBy (fun x y => decide (x.2 < y.2)) ((reachDays p.now).filterMap (fun d =>
    (qualifies p m d).bind (fun u =>
      if p.now ≤ u + m.dur ∧ u < p.now + Config.horizon then some (d, u) else none)))

/-- One non-terminal recording of a MANUAL booking (R71). -/
def judgeManual (p : Snapshot) (m : ManualPart) (i : Inst) : Keep :=
  if isPlaceable i.state then
    match i.origin with
    | .event _ => .leave
    | .day d =>
      match qualifies p m d with
      | none => .remove
      | some u => .refresh { iid := i.id, origin := i.origin, service := m.service, mux := m.mux, start := u,
                             dur := m.dur, alts := [] }
  else .leave

/-- The expansion of an ACTIVE MANUAL booking. -/
def expandManual (p : Snapshot) (b : Booking) (m : ManualPart) : BookingResult :=
  let judged := (liveOf p b).map (fun i => (i, judgeManual p m i))
  let wanted := (daysInReach p m).filter (fun x => (instsOf p b).all (fun i => i.origin != .day x.1))
  { booking := b.id
    creations := wanted.map (fun x =>
      { booking := b.id, origin := .day x.1, episode := none, service := m.service, mux := m.mux, start := x.2,
        dur := m.dur, alts := [] })
    refreshes := refreshesOf judged
    removals := removalsOf judged
    update := none
    spent := m.lastDay.any (fun l => decide (l < localDay p.now p.offset))
    limited := false }

/-! ## All bookings (R58, R70, R73, R74) -/

/-- The limit of 12 non-terminal recordings of a booking (R70). -/
def limitBooking (p : Snapshot) (b : Booking) (r : BookingResult) : BookingResult :=
  let room := Config.perBooking - ((liveOf p b).filter (fun i => !r.removals.contains i.id)).length
  { r with creations := r.creations.take room, limited := decide (room < r.creations.length) }

/-- A SUSPENDED booking: its placeable recordings are removed (R73). -/
def expandSuspended (p : Snapshot) (b : Booking) : BookingResult :=
  { booking := b.id, creations := [], refreshes := []
    removals := ((instsOf p b).filter (fun i => isPlaceable i.state)).map (fun i => i.id)
    update := none, spent := false, limited := false }

/-- The expansion of one booking, by its state and kind (R58); none for a SPENT booking. -/
def expandBooking (p : Snapshot) (b : Booking) : Option BookingResult :=
  match b.bstate with
  | .spent => none
  | .suspended => some (expandSuspended p b)
  | .active =>
    some (limitBooking p b (match b.part with
      | .event k l _ => expandEvent p b k l
      | .series r sc n => expandSeries p b r sc n
      | .manual m => expandManual p b m))

/-- The results of a whole expansion. -/
structure Expansion where
  results : List BookingResult
  /-- the creations granted, in the order of R74 -/
  granted : List Creation
  /-- the booking of the first request that the room in the list refused (R74) -/
  tableFull : Option Nat
  deriving DecidableEq, Repr

/-- The order of the requests of all bookings (R74); those of one booking at one start keep their store order. -/
def creationLt (a b : Creation) : Bool :=
  decide (a.start < b.start) || (a.start == b.start && decide (a.booking < b.booking))

/-- The room that the install is sure to find (R74). -/
def roomBudget (p : Snapshot) : Nat :=
  (Config.instCap - p.insts.length) + (p.insts.filter (fun i => isTerminal i.state)).length

/-- Expansion (R58, R74). -/
def expand (p : Snapshot) : Expansion :=
  let results := p.bookings.filterMap (expandBooking p)
  let requests := sortBy creationLt (results.flatMap (fun r => r.creations))
  { results := results, granted := requests.take (roomBudget p)
    tableFull := (requests.drop (roomBudget p)).head?.map (fun c => c.booking) }

end Sys2Proof.Machine
end

