-- ==== Sys2Proof/Machine/Placement.lean ====
section
/-! DEFINITION. Windows, order and placement (6.4): the contenders of a pass, the fixed occupancy, the fit test and the
choice of a tuner. A creation of the pass has no id until the install; within the pass the k-th creation in the order
of R74, counted from 0, goes by the number 65,536 + k, which no recording's id reaches. -/

namespace Sys2Proof.Machine

open Sys2Proof

/-- The number that stands for the k-th creation of the pass. -/
def creationPid (k : Nat) : Nat := 65536 + k

/-- A placeable recording as the pass works on it (R98, R100). `key` is the untrimmed W_s that fixed its place in the
order. -/
structure Cand where
  pid : Nat
  booking : Nat
  priority : Nat
  minFraction : Nat
  origin : Origin
  service : Nat
  mux : Nat
  start : Nat
  dur : Nat
  prePad : Nat
  postPad : Nat
  alts : List EventKey
  key : Nat
  deriving DecidableEq, Repr

/-- A recording placed in the pass. -/
structure Placed where
  cand : Cand
  tuner : Tuner
  window : Window
  /-- its untrimmed window (R98) -/
  full : Window
  verdict : Verdict
  deriving DecidableEq, Repr

/-- What an occupant of a tuner is (R102, R103). -/
inductive OccKind where
  | claim
  | placed
  /-- a RECORDING occupant whose window end a trim may lower (R122) -/
  | trimmable
  /-- any other fixed occupant -/
  | firm
  /-- an overrunning fixed occupant, with the start of its overrun portion (R126) -/
  | overrun (portion : Nat)
  deriving DecidableEq, Repr

/-- An occupant of a tuner: an occupancy from a time to a time, or without end. `winEnd` is a recording's W_e in the
pass, which its occupancy may outlast (R102, R121). `recording` says that it is a RECORDING occupant (R121). `mark` is the
contender it yields to, or that cuts it (R128, R129). -/
structure Occ where
  kind : OccKind
  pid : Nat
  tuner : Tuner
  mux : Nat
  from_ : Nat
  to_ : Option Nat
  winEnd : Nat
  recording : Bool
  priority : Nat
  coreStart : Nat
  coreEnd : Nat
  mark : Option Nat
  deriving DecidableEq, Repr

def Occ.isClaim (o : Occ) : Bool := o.kind == .claim

/-! ## Windows (R98) -/

/-- A padded end, within schedule time. -/
def paddedEnd (start dur post : Nat) : Nat := min Config.maxTime (start + dur + post)

/-- The untrimmed window of a core with its pads (R98). -/
def untrimmed (t start dur pre post : Nat) : Window :=
  { ws := max (start - pre) (t + Config.startFloor), we := paddedEnd start dur post }

/-- The untrimmed window of a contender. -/
def candWindow (t : Nat) (c : Cand) : Window := untrimmed t c.start c.dur c.prePad c.postPad

/-- A window shorter than 60 s (R99). -/
def tooShort (w : Window) : Bool := decide (w.we < w.ws + Config.minWindow)

/-! ## The order (R100) -/

def candLt (a b : Cand) : Bool :=
  decide (a.key < b.key) || (a.key == b.key &&
    (decide (b.priority < a.priority) || (a.priority == b.priority &&
      (decide (a.booking < b.booking) || (a.booking == b.booking && decide (a.pid < b.pid))))))

/-! ## The contenders (R98 to R101) -/

/-- The booking of an id in the snapshot. -/
def snapBooking (p : Snapshot) (bid : Nat) : Option Booking := p.bookings.find? (fun b => b.id == bid)

def candOfCreation (p : Snapshot) (k : Nat) (c : Creation) : Cand :=
  let b := snapBooking p c.booking
  let pre := (b.map (fun x => x.prePad)).getD 0
  let post := (b.map (fun x => x.postPad)).getD 0
  { pid := creationPid k, booking := c.booking, priority := (b.map (fun x => x.priority)).getD 0
    minFraction := (b.map (fun x => x.minFraction)).getD 500, origin := c.origin, service := c.service, mux := c.mux
    start := c.start, dur := c.dur, prePad := pre, postPad := post, alts := c.alts
    key := (untrimmed p.now c.start c.dur pre post).ws }

/-- A placeable recording of the snapshot as expansion leaves it; without a booking of the snapshot it keeps the pads
and the plan priority it holds. -/
def candOfInst (p : Snapshot) (rs : List Refresh) (i : Inst) : Cand :=
  let b := snapBooking p i.booking
  let pre := (b.map (fun x => x.prePad)).getD i.prePad
  let post := (b.map (fun x => x.postPad)).getD i.postPad
  let r := (rs.find? (fun r => r.iid == i.id)).getD (keepCore i i.alts)
  { pid := i.id, booking := i.booking, priority := (b.map (fun x => x.priority)).getD (i.planPriority.getD 0)
    minFraction := (b.map (fun x => x.minFraction)).getD 500, origin := r.origin, service := r.service, mux := r.mux
    start := r.start, dur := r.dur, prePad := pre, postPad := post, alts := r.alts
    key := (untrimmed p.now r.start r.dur pre post).ws }

/-- Number the elements of a list from k. -/
def numbered {α : Type} : Nat → List α → List (Nat × α)
  | _, [] => []
  | k, x :: xs => (k, x) :: numbered (k + 1) xs

/-- The placeable recordings after expansion, the creations among them, in the order of R100. -/
def contenders (p : Snapshot) (e : Expansion) : List Cand :=
  let refreshes := e.results.flatMap (fun r => r.refreshes)
  let removals := e.results.flatMap (fun r => r.removals)
  let kept := p.insts.filter (fun i => isPlaceable i.state && !removals.contains i.id)
  sortBy candLt (kept.map (candOfInst p refreshes) ++
    (numbered 0 e.granted).map (fun kc => candOfCreation p kc.1 kc.2))

/-! ## Fixed occupancy (R102, R103) -/

/-- W_e of a running recording by the post-pad rule (R102): the rule applies without overrun, but not to STOPPING.
A rise that the install before wrote without raising the window end is raised now (R108). -/
def fixedEnd (p : Snapshot) (i : Inst) : Nat :=
  match snapBooking p i.booking with
  | none => winEnd i
  | some b =>
    let e := paddedEnd i.start i.dur b.postPad
    if i.state = .stopping ∨ i.overrun.isSome = true then winEnd i
    else if i.postPad < b.postPad ∨ (i.raiseDue = true ∧ i.postPad = b.postPad) then e
    else if b.postPad < i.postPad then min (winEnd i) (max e p.now)
    else winEnd i

/-- The priority of a recording in the pass (R100, R101). -/
def instPriority (p : Snapshot) (i : Inst) : Nat :=
  ((snapBooking p i.booking).map (fun b => b.priority)).getD (planPrio i)

/-- A pending stop moment that lies beyond W_e (R102): beyond the W_e held, or, where an overrun has fixed it so that it
does not follow the window, beyond the W_e of the post-pad rule (log entry 22). -/
def stopBeyond (p : Snapshot) (i : Inst) : Option Nat :=
  let beyond := fun (m : Nat) => decide (winEnd i < m) || (i.stopFixed && decide (fixedEnd p i < m))
  match i.state, i.stopAt with
  | .starting, some (.at m) => if beyond m then some m else none
  | .recording, some (.at m) => if beyond m then some m else none
  | _, _ => none

/-- The kind and the occupancy end of a running recording (R102, R122): up to the cap for one in RECORDING that
overruns, while one in STARTING that overruns is among R102's 'any other' and ends at its W_e. -/
def fixedKind (p : Snapshot) (i : Inst) : OccKind × Nat :=
  match i.state, i.overrun with
  | .recording, some cap => (.overrun (max (winEnd i) p.now), cap)
  | _, _ =>
    match stopBeyond p i with
    | some m => (.firm, m)
    | none =>
      match i.state with
      | .stopping => (.firm, max (winEnd i) (p.now + Config.confirmSecs))
      | .recording => (.trimmable, fixedEnd p i)
      | _ => (.firm, fixedEnd p i)

/-- The fixed occupant that a running recording is (R102). -/
def fixedOcc (p : Snapshot) (i : Inst) : Option Occ :=
  match isRunning i.state, i.tuner with
  | true, some t =>
    some { kind := (fixedKind p i).1, pid := i.id, tuner := t, mux := i.mux, from_ := winStart i
           to_ := some (fixedKind p i).2, winEnd := fixedEnd p i, recording := i.state == .recording
           priority := instPriority p i
           coreStart := i.start, coreEnd := i.start + i.dur, mark := none }
  | _, _ => none

/-- A viewing claim as an occupant (R103). -/
def claimOcc (p : Snapshot) (c : Claim) : Occ :=
  { kind := .claim, pid := c.id, tuner := c.tuner, mux := c.mux, from_ := p.now, to_ := none, winEnd := 0
    recording := false, priority := c.priority, coreStart := p.now, coreEnd := p.now, mark := none }

/-- A placed recording as an occupant. -/
def placedOcc (x : Placed) : Occ :=
  { kind := .placed, pid := x.cand.pid, tuner := x.tuner, mux := x.cand.mux, from_ := x.window.ws
    to_ := some x.window.we, winEnd := x.window.we, recording := false, priority := x.cand.priority
    coreStart := x.cand.start, coreEnd := x.cand.start + x.cand.dur, mark := none }

/-! ## The fit test (R104) -/

/-- The gap a contender keeps to an occupant: none to one that yields to it or that it cuts (R128, R129). -/
def gapTo (pid : Nat) (o : Occ) : Nat := if o.mark = some pid then 0 else Config.retuneGap

/-- The separation test between a window of a contender and an occupant. -/
def separated (pid : Nat) (w : Window) (o : Occ) : Bool :=
  (match o.to_ with
   | some e => decide (e + gapTo pid o ≤ w.ws) || decide (w.we + gapTo pid o ≤ o.from_)
   | none => false)

/-- An occupant on a tuner on another multiplex. -/
def foreign (t : Tuner) (mux : Nat) (o : Occ) : Bool := o.tuner == t && o.mux != mux

/-- The windows and occupancies on a tuner that contain an instant; claims are not counted. -/
def holdsAt (t : Tuner) (m : Nat) (o : Occ) : Bool :=
  o.tuner == t && !o.isClaim && decide (o.from_ ≤ m) && (match o.to_ with
    | some e => decide (m < e)
    | none => true)

def countAt (t : Tuner) (m : Nat) (occs : List Occ) : Nat := (occs.filter (holdsAt t m)).length

/-- The instants at which the count of a window can reach its greatest value: its start and every start inside it. -/
def countInstants (t : Tuner) (w : Window) (occs : List Occ) : List Nat :=
  w.ws :: ((occs.filter (fun o => o.tuner == t && !o.isClaim && decide (w.ws < o.from_) && decide (o.from_ < w.we))).map
    (fun o => o.from_))

/-- The four-window count of a window on a tuner (R104). -/
def countOk (t : Tuner) (w : Window) (occs : List Occ) : Bool :=
  (countInstants t w occs).all (fun m => decide (countAt t m occs < Config.tunerCap))

/-- A window of a contender fits a tuner among the occupants (R104). -/
def fits (pid : Nat) (t : Tuner) (mux : Nat) (w : Window) (occs : List Occ) : Bool :=
  occs.all (fun o => !foreign t mux o || separated pid w o) && countOk t w occs

/-! ## The choice of a tuner (R105) -/

/-- An occupancy overlaps a window. -/
def overlaps (w : Window) (o : Occ) : Bool :=
  decide (o.from_ < w.we) && (match o.to_ with
    | some e => decide (w.ws < e)
    | none => true)

/-- The tuner carries the multiplex somewhere inside the window. -/
def carries (t : Tuner) (mux : Nat) (w : Window) (occs : List Occ) : Bool :=
  occs.any (fun o => o.tuner == t && o.mux == mux && overlaps w o)

/-- The instance occupants of a tuner that overlap the window. -/
def loadOf (t : Tuner) (w : Window) (occs : List Occ) : Nat :=
  (occs.filter (fun o => o.tuner == t && !o.isClaim && overlaps w o)).length

/-- The tuner of a recording that fits both (R105). -/
def preferred (mux : Nat) (w : Window) (occs : List Occ) : Tuner :=
  match carries .a mux w occs, carries .b mux w occs with
  | true, false => .a
  | false, true => .b
  | _, _ => if loadOf .b w occs < loadOf .a w occs then .b else .a

/-- The tuner on which a window is placed whole, where it fits one (R105, R106). -/
def wholeTuner (pid mux : Nat) (w : Window) (occs : List Occ) : Option Tuner :=
  match fits pid .a mux w occs, fits pid .b mux w occs with
  | true, true => some (preferred mux w occs)
  | true, false => some .a
  | false, true => some .b
  | false, false => none

end Sys2Proof.Machine
end

