-- ==== Sys2Proof/Machine/Clashes.lean ====
section
/-! DEFINITION. Clash resolution (chapter 7) and the placement loop (R106): the working plan of a pass, the four remedies
in their order, loss, and the clash records. -/

namespace Sys2Proof.Machine

open Sys2Proof

/-- A clash record of the working plan (R134): the occupants that blocked, as they stood, and the numbers of the losers. -/
structure WorkRec where
  contender : Nat
  full : Window
  blocking : List Occ
  resolution : Resolution
  losers : List Occ
  deriving DecidableEq, Repr

/-- A lost contender, with whether it holds a future alternate (R131). -/
structure LostCand where
  cand : Cand
  future : Bool
  deriving DecidableEq, Repr

/-- The working plan of a pass (R106). -/
structure Work where
  fixed : List Occ
  claims : List Occ
  placed : List Placed
  lost : List LostCand
  /-- the recordings whose displaced mark is set (R118) -/
  displaced : List Nat
  records : List WorkRec
  deriving DecidableEq, Repr

/-- The occupants of the working plan. -/
def occsOf (w : Work) : List Occ := w.fixed ++ w.claims ++ w.placed.map placedOcc

/-! ## Pad trim (R120 to R123) -/

/-- The order of neighbours: by W_s (R121). R121 leaves those of equal W_s open, and they go by number (log entry 61). -/
def occLt (a b : Occ) : Bool := decide (a.from_ < b.from_) || (a.from_ == b.from_ && decide (a.pid < b.pid))

def coresOverlap (c : Cand) (o : Occ) : Bool := decide (c.start < o.coreEnd) && decide (o.coreStart < c.start + c.dur)

/-- The three tests that come before a trim (R120). -/
def trimAllowed (t : Tuner) (c : Cand) (full : Window) (occs : List Occ) : Bool :=
  countOk t full occs && occs.all (fun o => !foreign t c.mux o || (!o.isClaim && !coresOverlap c o))

/-- The neighbours of a contender on a tuner: earlier ones, then later ones, each in order of W_s (R120, R121). -/
def neighbours (t : Tuner) (c : Cand) (full : Window) (occs : List Occ) : List Occ :=
  let ns := sortBy occLt (occs.filter (fun o => foreign t c.mux o && !separated c.pid full o))
  ns.filter (fun o => decide (o.coreEnd ≤ c.start)) ++ ns.filter (fun o => !decide (o.coreEnd ≤ c.start))

/-- A trim under way: the contender's window, the neighbours as trimmed, and whether it still stands. -/
structure Trim where
  window : Window
  trimmed : List Occ
  ok : Bool
  deriving DecidableEq, Repr

/-- The trim between an earlier neighbour X and the contender as Y (R121, R122). It works on X's W_e, set no lower than now
when X is RECORDING, of whatever kind; an occupancy that runs beyond it is no padding and stays, so that the fit test
still meets it. -/
def trimEarlier (t : Nat) (c : Cand) (a : Trim) (x : Occ) : Trim :=
  let e := x.winEnd
  let limit := max (c.start - Config.retuneGap) x.coreEnd
  let e' := min e (if x.recording then max limit t else limit)
  let mayLower := x.kind == .trimmable || x.kind == .placed
  { window := { a.window with ws := max a.window.ws (e' + Config.retuneGap) }
    trimmed := a.trimmed ++ [if mayLower then { x with winEnd := e', to_ := some e' } else x]
    ok := a.ok && (e' == e || (mayLower && decide (x.from_ + Config.minWindow ≤ e'))) }

/-- The trim between the contender as X and a later neighbour Y (R121, R122). -/
def trimLater (c : Cand) (a : Trim) (y : Occ) : Trim :=
  let e' := min a.window.we (max (y.coreStart - Config.retuneGap) (c.start + c.dur))
  let s' := max y.from_ (e' + Config.retuneGap)
  { window := { a.window with we := e' }
    trimmed := a.trimmed ++ [{ y with from_ := s' }]
    ok := a.ok && (s' == y.from_ || (y.kind == .placed && decide (s' + Config.minWindow ≤ y.to_.getD 0))) }

/-- One trim, the contender against one neighbour. -/
def trimOne (t : Nat) (c : Cand) (a : Trim) (o : Occ) : Trim :=
  if o.coreEnd ≤ c.start then trimEarlier t c a o else trimLater c a o

/-- The occupant with the same kind and number takes a trimmed occupancy. -/
def replaceOcc (changed : List Occ) (o : Occ) : Occ :=
  (changed.find? (fun x => x.kind == o.kind && x.pid == o.pid)).getD o

/-- A placed recording takes a trimmed window; WHOLE becomes TRIMMED when the window is narrowed (R119). -/
def replacePlaced (changed : List Occ) (x : Placed) : Placed :=
  let o := replaceOcc changed (placedOcc x)
  let w : Window := { ws := o.from_, we := o.to_.getD x.window.we }
  { x with window := w, verdict := if w ≠ x.window ∧ x.verdict = .whole then .trimmed else x.verdict }

/-- The working plan with neighbours trimmed. -/
def applyTrim (changed : List Occ) (w : Work) : Work :=
  { w with fixed := w.fixed.map (replaceOcc changed), placed := w.placed.map (replacePlaced changed) }

/-- Pad trim on one tuner: the contender's window and the working plan as trimmed (R120 to R122). -/
def trimOn (now_ : Nat) (t : Tuner) (c : Cand) (full : Window) (w : Work) : Option (Window × Work) :=
  let occs := occsOf w
  if trimAllowed t c full occs then
    let r := (neighbours t c full occs).foldl (trimOne now_ c) { window := full, trimmed := [], ok := true }
    let w' := applyTrim r.trimmed w
    if r.ok && !tooShort r.window && fits c.pid t c.mux r.window (occsOf w') then some (r.window, w') else none
  else none

/-- Pad trim on tuner A, then on tuner B (R120, R122). -/
def trim (now_ : Nat) (c : Cand) (full : Window) (w : Work) : Option (Tuner × Window × Work) :=
  match trimOn now_ .a c full w with
  | some r => some (.a, r)
  | none =>
    match trimOn now_ .b c full w with
    | some r => some (.b, r)
    | none => none

/-- A contender takes its place in the working plan. -/
def putPlaced (c : Cand) (t : Tuner) (win full : Window) (v : Verdict) (w : Work) : Work :=
  { w with placed := w.placed ++ [{ cand := c, tuner := t, window := win, full := full, verdict := v }] }

/-- The contender fits whole (R106), or a trim places it (R123); none when neither does. -/
def placeOrTrim (now_ : Nat) (c : Cand) (vWhole vTrim : Verdict) (w : Work) : Option Work :=
  let full := candWindow now_ c
  match wholeTuner c.pid c.mux full (occsOf w) with
  | some t => some (putPlaced c t full full vWhole w)
  | none =>
    match trim now_ c full w with
    | some (t, win, w') => some (putPlaced c t win full vTrim w')
    | none => none

/-! ## Alternate airings (R124, R125) -/

/-- Store order between keys that the guide holds. -/
def keyLt (guide : List GuideRec) (a b : EventKey) : Bool :=
  match recOf a guide, recOf b guide with
  | some x, some y => recLt x y
  | some _, none => true
  | none, _ => false

/-- The alternates after one has been taken: the former origin joins them when the guide holds it and it has not ended
(R125). -/
def altsAfter (p : Snapshot) (c : Cand) (taken : EventKey) : List EventKey :=
  let rest := c.alts.filter (fun k => k != taken)
  match c.origin with
  | .event k =>
    match recOf k p.guide with
    | some r => if p.now < recEnd r then insertBy (keyLt p.guide) k rest else rest
    | none => rest
  | .day _ => rest

/-- The contender on the airing of an alternate, in its place in the order (R125). -/
def onAlternate (p : Snapshot) (c : Cand) (r : GuideRec) : Cand :=
  { c with origin := .event r.key, service := r.key.service, mux := r.mux, start := r.start, dur := r.dur
           alts := altsAfter p c r.key }

/-- One alternate: skipped, or tried whole and then trimmed (R124). -/
def tryAlternate (p : Snapshot) (c : Cand) (w : Work) (k : EventKey) : Option Work :=
  match recOf k p.guide with
  | none => none
  | some r =>
    let c' := onAlternate p c r
    if tooShort (candWindow p.now c') then none else placeOrTrim p.now c' .alternate .alternate w

/-- The alternates in their held order; the first that places the contender (R124). -/
def alternates (p : Snapshot) (c : Cand) (w : Work) : Option Work := c.alts.findSome? (tryAlternate p c w)

/-! ## Displacement (R126 to R129) -/

/-- The overrun portion of an occupant: from the later of its W_e and now up to its cap, or up to the window start of
the contender that cuts it (R126, R129; log entry 25). -/
def portionOf (o : Occ) : Option Window :=
  match o.kind, o.to_ with
  | .overrun b, some e => some { ws := b, we := e }
  | _, _ => none

/-- The window is kept apart from a span by the retune gap. -/
def apart (w : Window) (from_ to_ : Nat) : Bool :=
  decide (to_ + Config.retuneGap ≤ w.ws) || decide (w.we + Config.retuneGap ≤ from_)

/-- An occupant is a member of the blocking set on a tuner (R126). -/
def blocks (t : Tuner) (c : Cand) (full : Window) (o : Occ) : Bool :=
  foreign t c.mux o &&
    (match o.kind with
     | .placed => !separated c.pid full o
     | .claim => o.mark.isNone
     | .overrun _ =>
       (match portionOf o with
        | some q => !apart full q.ws q.we
        | none => false)
     | .trimmable | .firm => false)

/-- What an occupant still occupies with the blocking set taken away; none when nothing. -/
def remainder (t : Tuner) (c : Cand) (full : Window) (o : Occ) : Option Occ :=
  if blocks t c full o then
    match o.kind with
    | .overrun b => some { o with to_ := some b }
    | _ => none
  else some o

/-- The tuner is open to displacement (R126). -/
def openTo (t : Tuner) (c : Cand) (full : Window) (occs : List Occ) : Bool :=
  let set := occs.filter (blocks t c full)
  !set.isEmpty && decide (set.length ≤ Config.blockCap) && set.all (fun o => decide (o.priority < c.priority)) &&
    fits c.pid t c.mux full (occs.filterMap (remainder t c full))

/-- The tuner that displacement takes (R127). -/
def displacementTuner (c : Cand) (full : Window) (occs : List Occ) : Option Tuner :=
  match openTo .a c full occs, openTo .b c full occs with
  | false, false => none
  | true, false => some .a
  | false, true => some .b
  | true, true =>
    if (occs.filter (blocks .b c full)).length < (occs.filter (blocks .a c full)).length then some .b else some .a

/-- A claim or an overrun portion is marked for the contender, its occupancy shortened to the contender's W_s (R128,
R129). Mark and occupancy stay when that contender is itself displaced later in the pass (log entry 62), and the occupancy
stays at the W_s of the displacement when a later trim raises the contender's W_s (log entry 63). -/
def markFor (t : Tuner) (c : Cand) (full : Window) (o : Occ) : Occ :=
  if blocks t c full o then { o with mark := some c.pid, to_ := some full.ws } else o

/-- Displacement: the working plan after it, the displaced recordings, and the blocking set (R127). The set is in the
order of occupancy starts; an overrun portion stands by its recording's W_s (R135; log entry 48). The marks that a
displaced recording made before are kept (log entry 62). -/
def displace (c : Cand) (full : Window) (w : Work) : Option (Work × List Cand × List Occ) :=
  let occs := occsOf w
  match displacementTuner c full occs with
  | none => none
  | some t =>
    let set := sortBy occLt (occs.filter (blocks t c full))
    let gone := w.placed.filter (fun x => blocks t c full (placedOcc x))
    let w1 : Work := { w with
      fixed := w.fixed.map (markFor t c full)
      claims := w.claims.map (markFor t c full)
      placed := w.placed.filter (fun x => !blocks t c full (placedOcc x))
      displaced := w.displaced ++ gone.map (fun x => x.cand.pid) }
    some (putPlaced c t full full .whole w1, gone.map (fun x => x.cand), set)

/-! ## Partial placement (R130) -/

/-- The later of a start and another, for a list of occupants on a tuner: where a fitting span can begin. -/
def spanStarts (t : Tuner) (pid lo : Nat) (occs : List Occ) : List Nat :=
  lo :: (occs.filter (fun o => o.tuner == t)).flatMap (fun o =>
    match o.to_ with
    | some e => [e, e + gapTo pid o]
    | none => [])

/-- Where a fitting span can end. -/
def spanEnds (t : Tuner) (pid hi : Nat) (occs : List Occ) : List Nat :=
  hi :: (occs.filter (fun o => o.tuner == t)).flatMap (fun o => [o.from_, o.from_ - gapTo pid o])

/-- The longer of two spans, the earlier when they are equal. -/
def betterSpan (best : Option Window) (w : Window) : Option Window :=
  match best with
  | none => some w
  | some b =>
    if b.we - b.ws < w.we - w.ws ∨ (b.we - b.ws = w.we - w.ws ∧ w.ws < b.ws) then some w else some b

/-- The longest span of the core on a tuner that fits as a window, the earliest of the longest (R130). -/
def longestSpan (now_ : Nat) (t : Tuner) (c : Cand) (occs : List Occ) : Option Window :=
  let lo := max c.start (now_ + Config.startFloor)
  let hi := c.start + c.dur
  let starts := (spanStarts t c.pid lo occs).filter (fun a => decide (lo ≤ a) && decide (a < hi))
  let ends := (spanEnds t c.pid hi occs).filter (fun b => decide (lo < b) && decide (b ≤ hi))
  let spans := starts.flatMap (fun a => (ends.filter (fun b => decide (a < b))).map (fun b =>
    ({ ws := a, we := b } : Window)))
  (spans.filter (fun w => fits c.pid t c.mux w occs)).foldl betterSpan none

/-- The longer of the two tuners' spans, tuner A's when they are equal (R130). -/
def partialSpan (now_ : Nat) (c : Cand) (occs : List Occ) : Option (Tuner × Window) :=
  match longestSpan now_ .a c occs, longestSpan now_ .b c occs with
  | none, none => none
  | some a, none => some (.a, a)
  | none, some b => some (.b, b)
  | some a, some b => if a.we - a.ws < b.we - b.ws then some (.b, b) else some (.a, a)

/-- The least length of a partial: the share of the core rounded up, and 60 s (R130). -/
def partialBound (c : Cand) : Nat := max ((c.minFraction * c.dur + 999) / 1000) Config.minWindow

/-- Partial placement (R130). -/
def placePartly (now_ : Nat) (c : Cand) (full : Window) (w : Work) : Option Work :=
  match partialSpan now_ c (occsOf w) with
  | none => none
  | some (t, win) =>
    if partialBound c ≤ win.we - win.ws then some (putPlaced c t win full .partly w) else none

/-! ## Loss and the clash records (R131, R134, R135) -/

/-- The contender holds a future alternate at now (R131). -/
def hasFuture (p : Snapshot) (c : Cand) : Bool :=
  c.alts.any (fun k => match recOf k p.guide with
    | some r => eligibleAt p.now r
    | none => false)

/-- The first instant of the window at which its count would be exceeded on a tuner (R135). -/
def exceededAt (t : Tuner) (full : Window) (occs : List Occ) : Option Nat :=
  (sortBy natLt (countInstants t full occs)).find? (fun m => decide (Config.tunerCap ≤ countAt t m occs))

/-- The occupants that failed the contender's untrimmed window on a tuner (R135). -/
def failing (t : Tuner) (c : Cand) (full : Window) (occs : List Occ) : List Occ :=
  let m0 := exceededAt t full occs
  occs.filter (fun o => (foreign t c.mux o && !separated c.pid full o) ||
    (match m0 with
     | some m => holdsAt t m o
     | none => false))

/-- The record of a resolution that displaced nothing (R135). -/
def plainRecord (c : Cand) (full : Window) (res : Resolution) (occs : List Occ) : WorkRec :=
  { contender := c.pid, full := full, blocking := failing .a c full occs ++ failing .b c full occs
    resolution := res, losers := [] }

def addRecord (r : WorkRec) (w : Work) : Work := { w with records := w.records ++ [r] }

/-! ## One contender (R106, R118) -/

/-- The remedies that come after pad trim, each with its record: alternate, displacement, partial placement, loss. -/
def resolveClash (p : Snapshot) (c : Cand) (w : Work) : Work × List Cand :=
  let full := candWindow p.now c
  let occs := occsOf w
  match alternates p c w with
  | some w' => (addRecord (plainRecord c full .alternate occs) w', [])
  | none =>
    match (if w.displaced.contains c.pid then none else displace c full w) with
    | some (w', back, set) =>
      (addRecord { contender := c.pid, full := full, blocking := set, resolution := .displacedOthers, losers := set } w',
        back)
    | none =>
      match placePartly p.now c full w with
      | some w' => (addRecord (plainRecord c full .partly occs) w', [])
      | none =>
        (addRecord (plainRecord c full .lost occs)
          { w with lost := w.lost ++ [{ cand := c, future := hasFuture p c }] }, [])

/-- One contender is resolved: placed whole, or by the remedies (R106, R118). The second part: the recordings it
displaced. -/
def resolve (p : Snapshot) (c : Cand) (w : Work) : Work × List Cand :=
  match placeOrTrim p.now c .whole .trimmed w with
  | some w' => (w', [])
  | none => resolveClash p c w

/-- The placement of the queue (R106). A contender displaces at most once and at most 8 recordings, so fuel of ten
times the contenders and ten suffices; a contender that it left over would be lost. -/
def placeAll (p : Snapshot) : Nat → List Cand → Work → Work
  | 0, rest, w => { w with lost := w.lost ++ rest.map (fun c => { cand := c, future := hasFuture p c }) }
  | _ + 1, [], w => w
  | fuel + 1, c :: rest, w =>
    let r := resolve p c w
    placeAll p fuel (r.2.foldl (fun q b => insertBy candLt b q) rest) r.1

/-- What a pass works out (R106, R99). -/
structure PassResult where
  expansion : Expansion
  /-- left out of placement: the untrimmed window is shorter than 60 s (R99) -/
  tooShort : List Cand
  work : Work
  deriving DecidableEq, Repr

/-- The occupants the pass is seeded with (R102, R103). -/
def seedWork (p : Snapshot) : Work :=
  { fixed := p.insts.filterMap (fixedOcc p), claims := p.claims.map (claimOcc p), placed := [], lost := []
    displaced := [], records := [] }

/-- The stages of a pass between the snapshot and the install (R96). -/
def planPass (p : Snapshot) : PassResult :=
  let e := expand p
  let all := contenders p e
  let queue := all.filter (fun c => !tooShort (candWindow p.now c))
  { expansion := e, tooShort := all.filter (fun c => tooShort (candWindow p.now c))
    work := placeAll p (10 * queue.length + 10) queue (seedWork p) }

end Sys2Proof.Machine
end

