-- ==== Sys2Proof/Machine/Queries.lean ====
section
/-! DEFINITION. Reading and taking (5.5, 6.6, 7.8): INSTANCE_GET, PLAN_GET, CLASH_GET with their holding during a pass,
and OUTCOME_TAKE. -/

namespace Sys2Proof.Machine

open Sys2Proof

/-! ## INSTANCE_GET (R89) -/

/-- INSTANCE_GET after its payload has been read (R89). -/
def instanceGet (tag : Byte) (iid : Nat) (s : State) : State :=
  match findInst iid s with
  | none => refuse 0x30 tag .notFound s
  | some i => answerPlan 0x30 tag (.recording i s.pln.generation) s

/-- INSTANCE_GET (R89): it changes no state of the list. -/
def execInstanceGet (tag : Byte) (payload : List Byte) (s : State) : Host.Outcome State Fault Refusal :=
  .next (onMessage 0x30 tag pU16 payload (instanceGet tag) s)

/-! ## PLAN_GET (R90, R91) -/

/-- The core, or the window when present, overlaps the range [a, b) (R90). -/
def selectedBy (a b : Nat) (i : Inst) : Bool :=
  (decide (i.start < b) && decide (a < i.start + i.dur)) ||
    (match i.window with
     | some w => decide (w.ws < b) && decide (a < w.we)
     | none => false)

/-- The sort time (R90). -/
def sortTime (i : Inst) : Nat :=
  match i.window with
  | some w => w.ws
  | none => i.start

def selectionLt (a b : Inst) : Bool :=
  decide (sortTime a < sortTime b) || (sortTime a == sortTime b && decide (a.id < b.id))

/-- The recordings selected, in their order (R90). -/
def selection (a b : Nat) (s : State) : List Inst := sortBy selectionLt (s.lst.insts.filter (selectedBy a b))

/-- Summaries of one PLAN_GET reply, and records of one CLASH_GET reply (R91, R137). -/
def planPage : Nat := 24
def clashPage : Nat := 6

/-- The next index when more follow. -/
def nextIndex (index page total : Nat) : Option Nat := if index + page < total then some (index + page) else none

/-- A PLAN_GET is answered from the list as it stands (R90, R91). -/
def answerPlanGet (tag : Byte) (a b index : Nat) (s : State) : State :=
  let sel := selection a b s
  if sel.length < index then refuse 0x31 tag .badField s
  else
    answerPlan 0x31 tag (.plan s.pln.generation sel.length index (nextIndex index planPage sel.length)
      ((sel.drop index).take planPage)) s

/-- A CLASH_GET is answered from the clash list as it stands (R137). -/
def answerClashGet (tag : Byte) (index : Nat) (s : State) : State :=
  let cs := s.pln.clashes
  if cs.length < index then refuse 0x33 tag .badField s
  else
    answerPlan 0x33 tag (.clashes s.pln.generation cs.length s.pln.clashMore index ((cs.drop index).take clashPage)
      (nextIndex index clashPage cs.length)) s

/-- A query that passed its checks: answered at once while IDLE, held during a pass, BUSY when four are held (R113). -/
def holdOr (kind tag : Byte) (q : Query) (answerNow : State → State) (s : State) : State :=
  match s.pln.passState with
  | .idle => answerNow s
  | .pass =>
    if s.lnk.held.length < Config.heldCap then
      modLnk (fun l => { l with held := l.held ++ [{ tag := tag, query := q }] }) s
    else refuse kind tag .busy s

/-- PLAN_GET after its payload has been read: CLOCK_UNSET, then BAD_FIELD (R90). -/
def planGet (tag : Byte) (m : Nat × Nat × Nat) (s : State) : State :=
  if !clockSet s then refuse 0x31 tag .clockUnset s
  else if m.2.1 ≤ m.1 then refuse 0x31 tag .badField s
  else holdOr 0x31 tag (.plan m.1 m.2.1 m.2.2) (answerPlanGet tag m.1 m.2.1 m.2.2) s

/-- PLAN_GET (R90, R91, R113). -/
def execPlanGet (tag : Byte) (payload : List Byte) (s : State) : Host.Outcome State Fault Refusal :=
  .next (onMessage 0x31 tag pPlanGet payload (planGet tag) s)

/-- CLASH_GET after its payload has been read: CLOCK_UNSET, then BAD_FIELD (R137). -/
def clashGet (tag : Byte) (index : Nat) (s : State) : State :=
  if !clockSet s then refuse 0x33 tag .clockUnset s
  else if s.pln.clashes.length < index then refuse 0x33 tag .badField s
  else holdOr 0x33 tag (.clash index) (answerClashGet tag index) s

/-- CLASH_GET (R137, R113). -/
def execClashGet (tag : Byte) (payload : List Byte) (s : State) : Host.Outcome State Fault Refusal :=
  .next (onMessage 0x33 tag pU8 payload (clashGet tag) s)

/-- One held query is answered (R114). -/
def answerHeld (q : HeldQuery) (s : State) : State :=
  match q.query with
  | .plan a b index => answerPlanGet q.tag a b index s
  | .clash index => answerClashGet q.tag index s

/-- Every held query is answered in arrival order, and the list is emptied (R114). -/
def answerAllHeld (s : State) : State :=
  s.lnk.held.foldl (fun acc q => answerHeld q acc) (modLnk (fun l => { l with held := [] }) s)

/-! ## OUTCOME_TAKE (R88) -/

/-- A recording leaves the list and the terminal order; its booking is tested for removal (R47, R86, R88). -/
def leaveList (i : Inst) (s : State) : State :=
  removeSpent i.booking (modLst (fun l => { l with
    insts := l.insts.filter (fun j => j.id != i.id)
    terminalOrder := l.terminalOrder.filter (fun k => k != i.id) }) s)

/-- OUTCOME_TAKE after its payload has been read (R88). -/
def outcomeTake (tag : Byte) (iid : Nat) (s : State) : State :=
  match findInst iid s with
  | none => refuse 0x32 tag .notFound s
  | some i =>
    if isTerminal i.state then answerOk 0x32 tag (.outcome i) (leaveList i s)
    else refuse 0x32 tag .notAllowed s

/-- OUTCOME_TAKE (R88). -/
def execOutcomeTake (tag : Byte) (payload : List Byte) (s : State) : Host.Outcome State Fault Refusal :=
  .next (settle s (onMessage 0x32 tag pU16 payload (outcomeTake tag) s))

end Sys2Proof.Machine
end

