-- ==== Sys2Proof/Machine/Running.lean ====
section
/-! DEFINITION. Run Control (chapter 8): the due times and delays of a recording, the reports of the host, the viewing
claims and the lock monitors. The operations they share are in Machine/Records.lean. -/

namespace Sys2Proof.Machine

open Sys2Proof

/-- A time event that is taken when its request has been delivered (log entry 2), with the end of the event. -/
def onDue (k : DueKind) (act : State → State) (s : State) : State :=
  match takeDue k s with
  | none => s
  | some s1 => settle s (act s1)

/-- The end of a delay, with the end of the event (log entry 2). -/
def onDelay (k : DelayKind) (act : State → State) (s : State) : State :=
  match takeDelay k s with
  | none => s
  | some s1 => settle s (act s1)

/-! ## From plan to start (R141, R142) -/

/-- A window start taken against now and the host state (R142). -/
def takeWindowStart (iid : Nat) (s : State) : State :=
  match findInst iid s with
  | none => s
  | some i =>
    if i.state = .planned then
      if heldLimit i ≤ now s then missInst .notStarted iid s
      else if hostAwake s then startAttempt false (decide (winStart i < now s)) iid s
      else requestDue (.heldLimit iid) (heldLimit i) (modInst iid (fun j => { j with startHeld := true }) s)
    else s

/-- WINDOW_START (R142 to R144). -/
def execWindowStart (iid : Nat) (s : State) : Host.Outcome State Fault Refusal :=
  .next (onDue (.windowStart iid) (takeWindowStart iid) s)

/-- The three tests of R152: the booking is held and follows running status, the overrun limit is not 0, and the
origin's status is RUNNING or PAUSING. -/
def entersOverrun (i : Inst) (s : State) : Bool :=
  ((findBooking i.booking s).any (fun b => b.follow)) && decide (0 < s.run.overrunLimit) &&
    (match i.origin with
     | .event k => (recOf k s.gst.recs).any (fun r => r.status == .running || r.status == .pausing)
     | .day _ => false)

/-- A recording enters overrun (R152). -/
def enterOverrun (i : Inst) (s : State) : State :=
  let cap := min Config.maxTime (i.start + i.dur + s.run.overrunLimit)
  setDirty (requestDue (.overrunCap i.id) cap (withdrawDue (.stopMoment i.id)
    (modInst i.id (fun j => { j with overrun := some cap, stopAt := some .opened, stopFixed := false }) s)))

/-- A core end by the state of the recording (R141, R152). -/
def takeCoreEnd (iid : Nat) (s : State) : State :=
  match findInst iid s with
  | none => s
  | some i =>
    match i.state with
    | .pending | .clashed => missInst .notStarted iid s
    | .planned => if i.startHeld then s else missInst .notStarted iid s
    | .starting | .recording => if entersOverrun i s then enterOverrun i s else s
    | .stopping | .interrupted | .done | .missed | .failed | .cancelled => s

/-- CORE_END (R141, R152). -/
def execCoreEnd (iid : Nat) (s : State) : Host.Outcome State Fault Refusal :=
  .next (onDue (.coreEnd iid) (takeCoreEnd iid) s)

/-- A held-start limit (R141). -/
def takeHeldLimit (iid : Nat) (s : State) : State :=
  match findInst iid s with
  | none => s
  | some i => if i.state = .planned ∧ i.startHeld = true then missInst .heldTooLong iid s else s

/-- HELD_START_LIMIT (R141). -/
def execHeldStartLimit (iid : Nat) (s : State) : Host.Outcome State Fault Refusal :=
  .next (onDue (.heldLimit iid) (takeHeldLimit iid) s)

/-! ## Stop moments and overruns (R151, R153) -/

/-- STOP_MOMENT (R151): a RECORDING instance stops; nothing is done in STARTING. -/
def execStopMoment (iid : Nat) (s : State) : Host.Outcome State Fault Refusal :=
  .next (onDue (.stopMoment iid) (enterStopping .stopMoment iid) s)

/-- An overrun cap (R153). A recording still in STARTING cannot stop yet: its stop moment becomes fixed at the cap, so
that its STARTED report stops it (log entry 38). -/
def takeOverrunCap (iid : Nat) (s : State) : State :=
  match findInst iid s with
  | none => s
  | some i =>
    match i.state, i.overrun with
    | .starting, some cap =>
      setDirty (modInst iid (fun j => { j with overrun := none, stopAt := some (.at cap), stopFixed := true }) s)
    | _, _ => enterStopping .stopMoment iid s

/-- OVERRUN_CAP (R153). -/
def execOverrunCap (iid : Nat) (s : State) : Host.Outcome State Fault Refusal :=
  .next (onDue (.overrunCap iid) (takeOverrunCap iid) s)

/-! ## Confirm timeouts (R145, R149) -/

/-- The recording holds a future alternate at now, judged against the live guide (R59, R145). -/
def liveFuture (i : Inst) (s : State) : Bool :=
  i.alts.any (fun k => (recOf k s.gst.recs).any (eligibleAt (now s)))

/-- The START_FAILED condition of a recording (R145, R147). -/
def startFailedCond (i : Inst) (s : State) : Condition :=
  condFor (bankOf i) (if liveFuture i s then .deferred else .hard) .startFailed i

/-- A recording in STARTING fails (R145, R147). -/
def failStart (cause : Cause) (reason : Option Nat) (i : Inst) (s : State) : State :=
  submit (startFailedCond i s) (terminate i.id .failed cause reason s)

def takeStartTimeout (iid : Nat) (s : State) : State :=
  match findInst iid s with
  | none => s
  | some i => if i.state = .starting then failStart .startUnconfirmed none i s else s

/-- START_CONFIRM_TIMEOUT (R145). -/
def execStartConfirmTimeout (iid : Nat) (s : State) : Host.Outcome State Fault Refusal :=
  .next (onDelay (.startConfirm iid) (takeStartTimeout iid) s)

def takeStopTimeout (iid : Nat) (s : State) : State :=
  match findInst iid s with
  | none => s
  | some i =>
    if i.state = .stopping then
      submit (condFor (bankOf i) .soft .stopUnconfirmed i) (endStopping .stopUnconfirmed i s)
    else s

/-- STOP_CONFIRM_TIMEOUT (R149). -/
def execStopConfirmTimeout (iid : Nat) (s : State) : Host.Outcome State Fault Refusal :=
  .next (onDelay (.stopConfirm iid) (takeStopTimeout iid) s)

/-! ## Reports of the host (R146 to R150) -/

/-- The part gave up on the recording before the report came (R150). -/
def gaveUp (i : Inst) : Bool :=
  i.state == .cancelled || i.outcome.any (fun o =>
    isTerminal i.state && (o.cause == .startUnconfirmed || o.cause == .stopUnconfirmed || o.cause == .deleted))

/-- The lock monitor of a tuner is armed when it is OFF with no grace end (R146, R157). -/
def armMonitor (t : Tuner) (s : State) : State :=
  if (tunerRun t s).mon = .off ∧ (tunerRun t s).grace = none then
    requestDue (.graceEnd t) (now s + Config.graceSecs)
      (modTuner t (fun r => { r with grace := some (now s + Config.graceSecs) }) s)
  else s

/-- The stop moment is a time at or before now (R146). -/
def stopReached (i : Inst) (t : Nat) : Bool :=
  match i.stopAt with
  | some (.at m) => decide (m ≤ t)
  | _ => false

/-- STARTED for a recording in STARTING (R146). -/
def takeStarted (i : Inst) (s : State) : State :=
  let s1 := cancelDelay (.startConfirm i.id) s
  let s2 := modInst i.id (fun j => { j with
    state := .recording, segments := j.segments ++ [{ start := now s, stop := none }], entries := j.entries + 1 }) s1
  let s3 := match i.tuner with
    | some t => armMonitor t s2
    | none => s2
  if stopReached i (now s) then enterStopping .stopMoment i.id s3 else s3

/-- The stop moment lies ahead, or is open (R149). -/
def stopsEarly (i : Inst) (t : Nat) : Bool :=
  match i.stopAt with
  | some (.at m) => decide (t < m)
  | some .opened => true
  | none => false

/-- STOPPED for a recording in RECORDING (R149). -/
def takeHostStop (i : Inst) (s : State) : State :=
  let s1 := terminate i.id .done .hostStop none s
  if stopsEarly i (now s) then submit (condFor (bankOf i) .deferred .stoppedEarly i) s1 else s1

/-- A report that is taken answers with the state it leaves (R146, R147, R149). -/
def answerReport (tag : Byte) (iid : Nat) (s : State) : State :=
  answerOk 0x38 tag (.report (((findInst iid s).map (fun i => i.state)).getD .done)) s

/-- A REC_REPORT after its payload has been read (R150). -/
def recReport (tag : Byte) (m : Nat × Report) (s : State) : State :=
  if m.2 = .startFailed 0 then refuse 0x38 tag .badField s
  else
    match findInst m.1 s with
    | none => refuse 0x38 tag .notFound s
    | some i =>
      if gaveUp i then refuse 0x38 tag .tooLate s
      else
        match m.2, i.state with
        | .started, .starting => answerReport tag m.1 (takeStarted i s)
        | .startFailed c, .starting => answerReport tag m.1 (failStart .startFailed (some c) i s)
        | .stopped, .stopping => answerReport tag m.1 (endStopping .reportedStop i s)
        | .stopped, .recording => answerReport tag m.1 (takeHostStop i s)
        | _, _ => refuse 0x38 tag .notAllowed s

/-- REC_REPORT STARTED (R146, R150). -/
def execRecReportStarted (tag : Byte) (payload : List Byte) (s : State) : Host.Outcome State Fault Refusal :=
  .next (settle s (onMessage 0x38 tag pReport payload (recReport tag) s))

/-- REC_REPORT START_FAILED (R147, R150). -/
def execRecReportStartFailed (tag : Byte) (payload : List Byte) (s : State) : Host.Outcome State Fault Refusal :=
  .next (settle s (onMessage 0x38 tag pReport payload (recReport tag) s))

/-- REC_REPORT STOPPED (R149, R150). -/
def execRecReportStopped (tag : Byte) (payload : List Byte) (s : State) : Host.Outcome State Fault Refusal :=
  .next (settle s (onMessage 0x38 tag pReport payload (recReport tag) s))

/-! ## Viewing claims (R154 to R156) -/

/-- A tuner by its number. -/
def tunerOf : Nat → Option Tuner
  | 0 => some .a
  | 1 => some .b
  | _ => none

/-- The test of a claim against the run record and the other claims of its tuner (R154). -/
def claimConflicts (self : Option Nat) (t : Tuner) (mux : Nat) (s : State) : Bool :=
  (tunerRun t s).mux.any (fun m => m != mux) ||
    s.run.claims.any (fun c => c.tuner == t && c.mux != mux && some c.id != self)

/-- The lowest free claim id. -/
def freeClaim (s : State) : Option Nat := [1, 2].find? (fun n => s.run.claims.all (fun c => c.id != n))

def claimLt (a b : Claim) : Bool := decide (a.id < b.id)

/-- A new claim (R154). -/
def newClaim (tag : Byte) (t : Tuner) (m : ClaimMsg) (s : State) : State :=
  match freeClaim s with
  | none => refuse 0x39 tag .full s
  | some n =>
    let c : Claim := { id := n, tuner := t, mux := m.mux, priority := min 7 m.priority, yieldTo := none }
    answer 0x39 tag .ok (decide (7 < m.priority)) (.claim n t)
      (setDirty (modRun (fun r => { r with claims := insertBy claimLt c r.claims }) s))

/-- A change of a claim (R154). -/
def changeClaim (tag : Byte) (n : Nat) (old : Claim) (t : Tuner) (m : ClaimMsg) (s : State) : State :=
  let differs := t != old.tuner || m.mux != old.mux || min 7 m.priority != old.priority
  let s1 :=
    if differs then
      setDirty (withdrawDue (.yieldWarning n) (modRun (fun r => { r with
        claims := r.claims.map (fun c =>
          if c.id == n then { c with tuner := t, mux := m.mux, priority := min 7 m.priority, yieldTo := none }
          else c) }) s))
    else s
  answer 0x39 tag .ok (decide (7 < m.priority)) (.claim n t) s1

/-- VIEW_CLAIM after its payload has been read (R154). -/
def viewClaim (tag : Byte) (m : ClaimMsg) (s : State) : State :=
  match tunerOf m.tuner with
  | none => refuse 0x39 tag .badField s
  | some t =>
    if m.mux = 0 then refuse 0x39 tag .badField s
    else if !hostAwake s then refuse 0x39 tag .notAllowed s
    else
      match m.claim with
      | none => if claimConflicts none t m.mux s then refuse 0x39 tag .notAllowed s else newClaim tag t m s
      | some n =>
        match s.run.claims.find? (fun c => c.id == n) with
        | none => refuse 0x39 tag .notFound s
        | some old =>
          if claimConflicts (some n) t m.mux s then refuse 0x39 tag .notAllowed s
          else changeClaim tag n old t m s

/-- VIEW_CLAIM without a claim id (R154). -/
def execViewClaimNew (tag : Byte) (payload : List Byte) (s : State) : Host.Outcome State Fault Refusal :=
  .next (settle s (onMessage 0x39 tag pClaim payload (viewClaim tag) s))

/-- VIEW_CLAIM with a claim id (R154). -/
def execViewClaimChange (tag : Byte) (payload : List Byte) (s : State) : Host.Outcome State Fault Refusal :=
  .next (settle s (onMessage 0x39 tag pClaim payload (viewClaim tag) s))

/-- VIEW_RELEASE after its payload has been read (R155). -/
def viewRelease (tag : Byte) (n : Nat) (s : State) : State :=
  if s.run.claims.any (fun c => c.id == n) then answerOk 0x3A tag .empty (removeClaim n s)
  else refuse 0x3A tag .notFound s

/-- VIEW_RELEASE (R155). -/
def execViewRelease (tag : Byte) (payload : List Byte) (s : State) : Host.Outcome State Fault Refusal :=
  .next (settle s (onMessage 0x3A tag pU8 payload (viewRelease tag) s))

/-- A yield warning (R156). -/
def takeYieldWarning (n : Nat) (s : State) : State :=
  match s.run.claims.find? (fun c => c.id == n) with
  | none => s
  | some c =>
    match c.yieldTo with
    | none => s
    | some iid => postNotice (.tunerYield n iid c.tuner) s

/-- YIELD_WARNING (R156). -/
def execYieldWarning (claim : Nat) (s : State) : Host.Outcome State Fault Refusal :=
  .next (onDue (.yieldWarning claim) (takeYieldWarning claim) s)

/-! ## The lock monitors (R157 to R160) -/

/-- The grace end of a monitor (R157). -/
def takeGraceEnd (t : Tuner) (s : State) : State :=
  if (recordingOn t s).isEmpty then modTuner t (fun r => { r with grace := none }) s
  else startDelay (.lockTick t) Config.tickUnits (modTuner t (fun r => { r with mon := .watching, grace := none }) s)

/-- LOCK_GRACE_END (R157). -/
def execLockGraceEnd (tuner : Tuner) (s : State) : Host.Outcome State Fault Refusal :=
  .next (onDue (.graceEnd tuner) (takeGraceEnd tuner) s)

/-- A drop is declared a gap, and its abandonment requested (R158). -/
def declareGap (t : Tuner) (drop : Nat) (s : State) : State :=
  requestDue (.abandon t) (drop / 10 + s.run.abandonLimit) (modTuner t (fun r => { r with mon := .gap, tol := 0 }) s)

/-- What a tick does by the monitor's state and the lock input (R158). -/
def monitorTick (t : Tuner) (locked : Bool) (s : State) : State :=
  match (tunerRun t s).mon, locked with
  | .off, _ => s
  | .watching, true => s
  | .watching, false =>
    modTuner t (fun r => { r with mon := .dropping, drop := some (monTime s), tol := s.run.gapTol }) s
  | .dropping, true => modTuner t (fun r => { r with mon := .watching, drop := none }) s
  | .dropping, false =>
    if (tunerRun t s).tol ≤ 1 then declareGap t ((tunerRun t s).drop.getD (monTime s)) s
    else modTuner t (fun r => { r with tol := r.tol - 1 }) s
  | .gap, false => s
  | .gap, true => modTuner t (fun r => { r with mon := .watching }) (closeGap t s)

/-- The tick delay is restarted while the monitor is not OFF (R157). -/
def restartTick (t : Tuner) (s : State) : State :=
  if (tunerRun t s).mon = .off then s else startDelay (.lockTick t) Config.tickUnits s

/-- A tick with the lock input it samples (R157, R158). -/
def takeTick (t : Tuner) (locked : Bool) (s : State) : State :=
  restartTick t (monitorTick t locked (modTuner t (fun r => { r with lockPin := locked }) s))

/-- LOCK_MONITOR_TICK (R157 to R159). -/
def execLockMonitorTick (tuner : Tuner) (locked : Bool) (s : State) : Host.Outcome State Fault Refusal :=
  .next (onDelay (.lockTick tuner) (takeTick tuner locked) s)

/-- The abandonment of a tuner whose monitor is in GAP (R160). -/
def takeAbandon (t : Tuner) (s : State) : State :=
  if (tunerRun t s).mon = .gap then
    let s1 := modTuner t (fun r => { r with mon := .watching }) (closeGap t s)
    let s2 := submit { bank := tunerBank t, cls := .hard, code := .lockAbandoned, iid := none, booking := none } s1
    let s3 := (recordingOn t s2).foldl (fun acc i => enterStopping .abandoned i.id acc) s2
    setDirty (monitorOff t s3)
  else s

/-- LOCK_ABANDON (R160). -/
def execLockAbandon (tuner : Tuner) (s : State) : Host.Outcome State Fault Refusal :=
  .next (onDue (.abandon tuner) (takeAbandon tuner) s)

/-! ## The window close of a waiting resume (R163) -/

def takeWindowClose (iid : Nat) (s : State) : State :=
  match findInst iid s with
  | none => s
  | some i => if i.state = .interrupted then terminate iid .done .windowClosed none s else s

/-- WINDOW_CLOSE (R163). -/
def execWindowClose (iid : Nat) (s : State) : Host.Outcome State Fault Refusal :=
  .next (onDue (.windowClose iid) (takeWindowClose iid) s)

end Sys2Proof.Machine
end

