-- ==== Sys2Proof/Machine/Installing.lean ====
section
/-! DEFINITION. The install (4.8, 6.5, 7.7, 7.8): the one point at which a pass changes live state. -/

namespace Sys2Proof.Machine

open Sys2Proof

/-- An install under way: the live state, the ids the creations took, and the conditions to submit. -/
structure InstallAcc where
  s : State
  ids : List (Nat × Nat)
  conds : List Condition
  deriving DecidableEq, Repr

/-- A creation of this install has taken the id; the recording that held it in the snapshot is gone from the list. -/
def takenId (ids : List (Nat × Nat)) (iid : Nat) : Bool := ids.any (fun x => x.2 == iid)

/-- The recording's id of a number of the pass: its own, or the one its creation took (R79, R107). -/
def idOfPid (ids : List (Nat × Nat)) (pid : Nat) : Option Nat :=
  if pid < 65536 then (if takenId ids pid then none else some pid)
  else (ids.find? (fun x => x.1 == pid)).map (fun x => x.2)

/-- A condition of expansion (R77). -/
def planCond (cls : CondClass) (code : CondCode) (iid booking : Option Nat) : Condition :=
  { bank := .plan, cls := cls, code := code, iid := iid, booking := booking }

/-! ## Removals and creations (R75, R76, R79, R86, R87) -/

/-- A removal without outcome, where the recording is still placeable (R75, R87). -/
def removeInst (iid : Nat) (s : State) : State :=
  match findInst iid s with
  | none => s
  | some i => if isPlaceable i.state then leaveList i (withdrawInst iid s) else s

/-- The id after another in the count of ids (R79). -/
def idAfter (n : Nat) : Nat := if n = 65535 then 1 else n + 1

/-- The first id from a value on that no recording holds (R79); at most 160 are held, so fuel of 161 suffices. -/
def searchId : Nat → Nat → State → Nat
  | 0, n, _ => n
  | fuel + 1, n, s => if s.lst.insts.any (fun i => i.id == n) then searchId fuel (idAfter n) s else n

/-- The record of a creation (R76). -/
def newInst (iid : Nat) (c : Creation) (cand : Cand) : Inst :=
  { id := iid, booking := c.booking, origin := cand.origin, episode := c.episode, service := cand.service
    mux := cand.mux, start := cand.start, dur := cand.dur, prePad := cand.prePad, postPad := cand.postPad
    window := none, tuner := none, verdict := none, planPriority := none, state := .pending, alts := cand.alts
    segments := [], gapTenths := 0, stopReason := none, overrun := none, cutBy := none, startHeld := false
    runEnd := none, outcome := none, stopAt := none, stopFixed := false, raiseDue := false
    entries := 0 }

/-- The earliest terminal recording is discarded when the list is full (R86). -/
def makeRoom (a : InstallAcc) : InstallAcc :=
  if a.s.lst.insts.length < Config.instCap then a
  else
    match a.s.lst.terminalOrder.head?.bind (fun k => findInst k a.s) with
    | none => a
    | some i =>
      { a with s := leaveList i a.s
               conds := a.conds ++ [planCond .soft .outcomeDiscarded (some i.id) (some i.booking)] }

/-- One creation (R76, R86): a place, an id, the record; or INSTANCE_TABLE_FULL. A booking that holds 12 recordings not
terminal, because one that the pass removed has started since, is given no other (R70, R78; log entry 53). -/
def createOne (cands : List Cand) (a : InstallAcc) (kc : Nat × Creation) : InstallAcc :=
  let c := kc.2
  match cands.find? (fun x => x.pid == creationPid kc.1) with
  | none => a
  | some cand =>
    if bookingHeld c.booking a.s ∧ liveCount c.booking a.s < Config.perBooking then
      let b := makeRoom a
      if b.s.lst.insts.length < Config.instCap then
        let iid := searchId 161 b.s.lst.nextId b.s
        { b with
          s := modLst (fun l => { l with
            insts := insertBy instLt (newInst iid c cand) l.insts, nextId := idAfter iid }) b.s
          ids := b.ids ++ [(creationPid kc.1, iid)] }
      else { b with conds := b.conds ++ [planCond .deferred .instanceTableFull none (some c.booking)] }
    else a

/-! ## Refreshes of placeable recordings (R75, R81, R125) -/

/-- The core, origin, alternates and pads that the pass left a placeable recording. -/
def writeCore (c : Cand) (i : Inst) : Inst :=
  { i with origin := c.origin, service := c.service, mux := c.mux, start := c.start, dur := c.dur, alts := c.alts
           prePad := c.prePad, postPad := c.postPad }

/-- Change one recording of the list and put it at the place its core start gives it (R78). -/
def rewriteInst (iid : Nat) (f : Inst → Inst) (s : State) : State :=
  match findInst iid s with
  | none => s
  | some i =>
    modLst (fun l => { l with insts := insertBy instLt (f i) (l.insts.filter (fun j => j.id != iid)) }) s

/-- A recording still placeable, whose booking is still held, takes what the pass left it. -/
def refreshOne (s : State) (c : Cand) : State :=
  match findInst c.pid s with
  | none => s
  | some i => if isPlaceable i.state && bookingHeld i.booking s then rewriteInst c.pid (writeCore c) s else s

/-- The alternates of a running recording (R75). -/
def refreshRunning (s : State) (r : Refresh) : State :=
  match findInst r.iid s with
  | none => s
  | some i =>
    if isRunning i.state && bookingHeld i.booking s then modInst r.iid (fun j => { j with alts := r.alts }) s else s

/-! ## Running recordings (R101, R108, R109) -/

/-- The recording of the snapshot. -/
def snapInst (p : Snapshot) (iid : Nat) : Option Inst := p.insts.find? (fun i => i.id == iid)

/-- Set the window end of a recording that holds a window. -/
def setEnd (we : Nat) (i : Inst) : Inst := { i with window := i.window.map (fun w => { w with we := we }) }

/-- A recording that was running in the snapshot (R109): post-pad, plan priority, and the W_e the pass left it, unless
it is STOPPING or overruns. -/
def writeFixed (p : Snapshot) (w : Work) (b : Booking) (old i : Inst) : Inst :=
  let i1 : Inst := { i with postPad := b.postPad, planPriority := some b.priority, raiseDue := false }
  if old.state = .stopping ∨ i.state = .stopping ∨ old.overrun.isSome = true ∨ i.overrun.isSome = true then i1
  else
    match w.fixed.find? (fun o => o.pid == i.id) with
    | none => i1
    | some o => setEnd (if o.kind = .trimmable then o.to_.getD (winEnd i) else fixedEnd p old) i1

/-- A recording that has started since the snapshot (R108): its post-pad, with a window end lowered as R81 states. -/
def writeStarted (p : Snapshot) (b : Booking) (i : Inst) : Inst :=
  let i1 : Inst := { i with postPad := b.postPad, raiseDue := i.raiseDue || decide (i.postPad < b.postPad) }
  if b.postPad < i.postPad then setEnd (min (winEnd i) (max (paddedEnd i.start i.dur b.postPad) p.now)) i1 else i1

/-- The writes to one running recording whose booking the snapshot and the table hold. A post-pad raised on one that
has started since the snapshot sets the again flag (R108). -/
def writeRunning (p : Snapshot) (w : Work) (s : State) (iid : Nat) : State :=
  match findInst iid s with
  | none => s
  | some i =>
    match snapBooking p i.booking, snapInst p iid with
    | some b, some old =>
      if isRunning i.state && bookingHeld i.booking s then
        if isRunning old.state then modInst iid (writeFixed p w b old) s
        else setDirtyIf (decide (i.postPad < b.postPad)) (modInst iid (writeStarted p b) s)
      else s
    | _, _ => s

/-! ## Plan results (R99, R107) -/

/-- A running recording that has entered its state since the snapshot, be it one it held there too (R107). -/
def enteredSince (p : Snapshot) (i : Inst) : Bool :=
  isRunning i.state && !((snapInst p i.id).any (fun o => o.entries == i.entries))

/-- Its occupancy for the merge test. -/
def liveOcc (i : Inst) : Option Occ :=
  match i.tuner, i.window with
  | some t, some w =>
    some { kind := .firm, pid := i.id, tuner := t, mux := i.mux, from_ := w.ws, to_ := some w.we, priority := 0
           winEnd := w.we, recording := i.state == .recording, coreStart := i.start, coreEnd := i.start + i.dur, mark := none }
  | _, _ => none

/-- The fit test of a new window against the recordings that have started since the snapshot, with the windows already
written counted (R107). -/
def mergeFits (since counted : List Occ) (x : Placed) : Bool :=
  since.all (fun o => !foreign x.tuner x.cand.mux o || separated x.cand.pid x.window o) &&
    countOk x.tuner x.window (since ++ counted)

/-- Core seconds inside a window. -/
def coreIn (c : Cand) (w : Window) : Nat := overlapLen w.ws w.we c.start (c.start + c.dur)

/-- The condition of a verdict that has changed (R132). -/
def verdictCond (iid : Nat) (x : Placed) : Option Condition :=
  let about := fun (bank : BankId) (cls : CondClass) (code : CondCode) =>
    some ({ bank := bank, cls := cls, code := code, iid := some iid, booking := some x.cand.booking } : Condition)
  match x.verdict with
  | .whole => none
  | .trimmed =>
    if coreIn x.cand x.window < coreIn x.cand x.full then about (tunerBank x.tuner) .deferred .coreClipped
    else about .plan .soft .padTrimmed
  | .alternate => about .plan .soft .alternateTaken
  | .partly => about .plan .deferred .partialPlanned
  | .lost => none

/-- The plan results under way: the install, and the windows written so far. -/
structure Merge where
  a : InstallAcc
  counted : List Occ
  deriving DecidableEq, Repr

/-- A placed recording is written (R107), or is a merge conflict. -/
def writePlaced (since : List Occ) (m : Merge) (x : Placed) : Merge :=
  match (idOfPid m.a.ids x.cand.pid).bind (fun iid => findInst iid m.a.s) with
  | none => m
  | some i =>
    if isPlaceable i.state && bookingHeld i.booking m.a.s then
      if mergeFits since m.counted x then
        { a := { m.a with
                 s := modInst i.id (fun j => { j with
                   state := .planned, window := some x.window, tuner := some x.tuner, verdict := some x.verdict
                   planPriority := some x.cand.priority }) m.a.s
                 conds := m.a.conds ++ (if i.verdict = some x.verdict then [] else (verdictCond i.id x).toList) }
          counted := m.counted ++ [placedOcc x] }
      else
        { m with a := { m.a with s := setDirty (modInst i.id (fun j => { j with
          state := .pending, window := none, tuner := none, planPriority := some x.cand.priority }) m.a.s) } }
    else m

/-- A lost recording is written (R107, R132). -/
def writeLost (a : InstallAcc) (x : LostCand) : InstallAcc :=
  match (idOfPid a.ids x.cand.pid).bind (fun iid => findInst iid a.s) with
  | none => a
  | some i =>
    if isPlaceable i.state && bookingHeld i.booking a.s then
      { a with
        s := modInst i.id (fun j => { j with
          state := .clashed, window := none, tuner := none, verdict := some .lost
          planPriority := some x.cand.priority }) a.s
        conds := a.conds ++ (if i.verdict = some .lost then []
          else [condFor .plan (if x.future then .deferred else .hard) .clashLost i]) }
    else a

/-- A recording left out of placement: a PLANNED one becomes CLASHED and keeps its verdict (R99). -/
def writeShort (ids : List (Nat × Nat)) (s : State) (c : Cand) : State :=
  match (idOfPid ids c.pid).bind (fun iid => findInst iid s) with
  | none => s
  | some i =>
    if i.state = .planned ∧ bookingHeld i.booking s = true then
      modInst i.id (fun j => { j with state := .clashed, window := none, tuner := none }) s
    else s

/-! ## Marks (R109) -/

/-- The recording that a mark names, when it is PLANNED at this install (R109), though a later contender displaced it and
it was placed anew (log entry 62). -/
def markTarget (ids : List (Nat × Nat)) (s : State) (mark : Option Nat) : Option Nat :=
  (mark.bind (idOfPid ids)).bind (fun iid => (findInst iid s).bind (fun i =>
    if i.state = .planned then some iid else none))

/-- A booking was deleted during the pass: its snapshot holds it and the table does not (R50, R75). -/
def deletedInPass (p : Snapshot) (bid : Nat) (s : State) : Bool :=
  p.bookings.any (fun b => b.id == bid) && !bookingHeld bid s

/-- The cut marks: written as the pass left them, on the recordings whose overrun portion it displaced, and cleared on
every other (R109), one of a booking deleted before the pass among them. A recording whose booking was deleted during the
pass, and a terminal one, takes no write (R50, R83, R133; log entry 20). -/
def writeCuts (p : Snapshot) (w : Work) (ids : List (Nat × Nat)) (s : State) : State :=
  let cut := fun (i : Inst) =>
    if takenId ids i.id then none
    else markTarget ids s ((w.fixed.find? (fun o => o.pid == i.id)).bind (fun o => o.mark))
  modLst (fun l => { l with
    insts := l.insts.map (fun i =>
      if isTerminal i.state || deletedInPass p i.booking s then i else { i with cutBy := cut i }) }) s

/-- The yield marks of all claims are replaced (R109). -/
def writeYields (p : Snapshot) (w : Work) (ids : List (Nat × Nat)) (s : State) : State :=
  let same := fun (c : Claim) => p.claims.any (fun d =>
    d.id == c.id && d.tuner == c.tuner && d.mux == c.mux && d.priority == c.priority)
  let mark := fun (c : Claim) =>
    if same c then markTarget ids s ((w.claims.find? (fun o => o.pid == c.id)).bind (fun o => o.mark)) else none
  modRun (fun r => { r with claims := r.claims.map (fun c => { c with yieldTo := mark c }) }) s

/-! ## The booking side (R64, R77) -/

/-- Write an EVENT booking's last known event and held marker (R64). -/
def writeUpdate (bid : Nat) (u : Option LastKnown) (s : State) : State :=
  modBkt (fun t => { t with bookings := t.bookings.map (fun b =>
    if b.id == bid then
      match b.part, u with
      | .event k _ _, some l => { b with part := .event k l false }
      | .event k l _, none => { b with part := .event k l true }
      | _, _ => b
    else b) }) s

/-- The booking update of one result, with EVENT_LOST when the held marker was clear (R64). -/
def applyUpdate (a : InstallAcc) (r : BookingResult) : InstallAcc :=
  match r.update, findBooking r.booking a.s with
  | some u, some b =>
    let lost :=
      match u, b.part with
      | none, .event _ _ false => true
      | _, _ => false
    let iid := (a.s.lst.insts.find? (fun i => i.booking == r.booking && !isTerminal i.state)).map (fun i => i.id)
    { a with s := writeUpdate r.booking u a.s
             conds := a.conds ++ (if lost then [planCond .soft .eventLost iid (some r.booking)] else []) }
  | _, _ => a

/-- A spent report, judged against the list as installed (R46, R63, R72). The report itself is the pass's: the last day
of a MANUAL booking is the one the snapshot held, though a BOOK_CHANGE has changed it since (log entry 46). -/
def applySpent (s : State) (r : BookingResult) : State :=
  match r.spent, findBooking r.booking s with
  | true, some b =>
    if b.bstate = .active ∧ s.lst.insts.all (fun i => i.booking != b.id || isTerminal i.state) = true then
      removeSpent b.id (makeSpent b.id s)
    else s
  | _, _ => s

/-! ## The clash list (R134 to R136) -/

/-- What a record says of one occupant, under the ids of the install. -/
structure NamedOcc where
  entry : ClashEntry
  from_ : Nat
  to_ : Option Nat
  held : Bool
  deriving DecidableEq, Repr

/-- A number of the pass is made and held at the install: its creation was made, and its booking is held. -/
def pidHeld (p : Snapshot) (granted : List Creation) (ids : List (Nat × Nat)) (s : State) (pid : Nat) : Bool :=
  if pid < 65536 then (snapInst p pid).any (fun i => bookingHeld i.booking s)
  else (idOfPid ids pid).isSome &&
    ((numbered 0 granted).any (fun kc => creationPid kc.1 == pid && bookingHeld kc.2.booking s))

def nameOcc (heldPid : Nat → Bool) (ids : List (Nat × Nat)) (o : Occ) : NamedOcc :=
  { entry := { isClaim := o.isClaim, id := if o.isClaim then o.pid else (idOfPid ids o.pid).getD o.pid }
    from_ := o.from_, to_ := o.to_, held := o.isClaim || heldPid o.pid }

/-- The order of a blocking list: occupancy start, then id (R134). Entries equal in both, a claim and a recording,
stay as gathered: tuner A's first (R135), and of one tuner in the order of the working plan (log entry 49). -/
def namedLt (a b : NamedOcc) : Bool :=
  decide (a.from_ < b.from_) || (a.from_ == b.from_ && decide (a.entry.id < b.entry.id))

/-- The earliest start of the entries. -/
def earliestStart : List NamedOcc → Nat
  | [] => 0
  | x :: xs => xs.foldl (fun a y => min a y.from_) x.from_

/-- The latest end of the entries; none when one has no end. -/
def latestEnd : List NamedOcc → Option Nat
  | [] => some 0
  | x :: xs =>
    match x.to_, latestEnd xs with
    | some a, some b => some (max a b)
    | _, _ => none

/-- The interval of a record (R135). -/
def clashInterval (full : Window) (kept : List NamedOcc) : Nat × Nat :=
  (max full.ws (earliestStart kept - Config.retuneGap),
    match latestEnd kept with
    | some e => min full.we (e + Config.retuneGap)
    | none => full.we)

/-- A record under the ids of the install; none when it is dropped (R135, R136). -/
def nameRecord (heldPid : Nat → Bool) (ids : List (Nat × Nat)) (r : WorkRec) : Option ClashRec :=
  let kept := (sortBy namedLt (r.blocking.map (nameOcc heldPid ids))).take Config.blockCap
  let span := clashInterval r.full kept
  let blocking := (kept.filter (fun x => x.held)).map (fun x => x.entry)
  let contender := (idOfPid ids r.contender).getD r.contender
  if heldPid r.contender && !blocking.isEmpty then
    some { clashId := 0, from_ := span.1, to_ := span.2, contender := contender, blocking := blocking
           resolution := r.resolution
           losers := (match r.resolution with
             | .displacedOthers => blocking
             | .partly | .lost => [{ isClaim := false, id := contender }]
             | .alternate => []) }
  else none

/-- The order of the records: the interval's start, then the contender (R136). Records equal in both, of a contender
resolved twice, keep the order in which the pass made them (log entry 49). -/
def clashLt (a b : ClashRec) : Bool :=
  decide (a.from_ < b.from_) || (a.from_ == b.from_ && decide (a.contender < b.contender))

/-- The clash list of an install, in order and numbered from 1, and whether more records remain (R136). -/
def clashList (heldPid : Nat → Bool) (ids : List (Nat × Nat)) (rs : List WorkRec) : List ClashRec × Bool :=
  let all := sortBy clashLt (rs.filterMap (nameRecord heldPid ids))
  ((numbered 1 (all.take Config.clashCap)).map (fun kr => { kr.2 with clashId := kr.1 }),
    decide (Config.clashCap < all.length))

/-! ## The change of the plan (R111) -/

/-- What R111 compares of a recording. -/
def planPart (i : Inst) : Option Window × Option Tuner × Option Verdict := (i.window, i.tuner, i.verdict)

/-- The plan has changed: a difference, a creation with a window, or a removal of a window; a discarded outcome is no
removal from the plan (log entry 35), and a creation left LOST, with a verdict and no window, is not counted (log entry
59). -/
def planChanged (before after : State) (created : List Nat) : Bool :=
  after.lst.insts.any (fun i =>
    if created.contains i.id then i.window.isSome
    else before.lst.insts.any (fun o => o.id == i.id && planPart o != planPart i)) ||
  before.lst.insts.any (fun o => !isTerminal o.state && o.window.isSome && (created.contains o.id ||
    !(after.lst.insts.any (fun i => i.id == o.id))))

/-- PLAN_CHANGED, unless one waits unfetched (R111). -/
def postPlanChanged (changed : Bool) (s : State) : State :=
  let waits := s.lnk.notices.any (fun n =>
    match n.body with
    | .planChanged _ => true
    | _ => false)
  if changed && !waits then postNotice (.planChanged s.pln.generation) s else s

/-! ## The hand-off to Run Control (R111, R140, R151, R156) -/

/-- The requests of one PLANNED recording (R140). A window start taken at once from a held wait is taken with the
other requests already reached, at the end of the hand-off; the wait is over, so that start is not late on its account
(R143; log entry 51). -/
def syncPlanned (i : Inst) (s : State) : State :=
  let s1 := ensureDue (.coreEnd i.id) (i.start + i.dur) (withdrawDue (.heldLimit i.id) s)
  ensureDue (.windowStart i.id) (winStart i) (modInst i.id (fun j => { j with startHeld := false }) s1)

/-- The requests of one recording brought into line with the plan as installed (R140, R151). -/
def syncInst (s : State) (iid : Nat) : State :=
  match findInst iid s with
  | none => s
  | some i =>
    match i.state with
    | .pending | .clashed =>
      ensureDue (.coreEnd iid) (i.start + i.dur) (withdrawDues [.windowStart iid, .heldLimit iid]
        (modInst iid (fun j => { j with startHeld := false }) s))
    | .planned => syncPlanned i s
    | .starting | .recording =>
      (match i.stopFixed, i.stopAt with
       | false, some (.at m) =>
         if m = winEnd i then s
         else requestDue (.stopMoment iid) (winEnd i)
           (modInst iid (fun j => { j with stopAt := some (.at (winEnd i)) }) s)
       | _, _ => s)
    | .interrupted =>
      (match i.stopFixed, i.runEnd with
       | false, some m =>
         if m = winEnd i then s
         else
           let s1 := modInst iid (fun j => { j with runEnd := some (winEnd i) }) s
           if (heldDue (.windowClose iid) s).isSome then
             requestDue (.windowClose iid) (winEnd i - Config.startFloor) s1
           else s1
       | _, _ => s)
    | .stopping | .done | .missed | .failed | .cancelled => s

/-- The yield warning of one claim (R156): kept while mark and W_s stay, else withdrawn or requested anew. -/
def syncClaim (before s : State) (c : Claim) : State :=
  let old := (before.run.claims.find? (fun d => d.id == c.id)).bind (fun d => d.yieldTo)
  match c.yieldTo with
  | none => withdrawDue (.yieldWarning c.id) s
  | some iid =>
    let start := fun (x : State) => (findInst iid x).bind (fun i => i.window.map (fun w => w.ws))
    if old = some iid ∧ start before = start s then s
    else requestDue (.yieldWarning c.id) ((start s).getD 0 - 60) s

/-- A request is taken at once when the hand-off has made it at a time already reached (R3; log entry 33). -/
def takeFresh (before : List DueReq) (k : DueKind) (act : State → State) (s : State) : State :=
  match heldDue k s with
  | none => s
  | some d =>
    if d.delivered && !before.contains d then
      match takeDue k s with
      | none => s
      | some s1 => act s1
    else s

/-- The requests of one recording that are taken at once. -/
def takeFreshInst (before : List DueReq) (s : State) (iid : Nat) : State :=
  takeFresh before (.windowClose iid) (takeWindowClose iid)
    (takeFresh before (.stopMoment iid) (enterStopping .stopMoment iid)
      (takeFresh before (.coreEnd iid) (takeCoreEnd iid)
        (takeFresh before (.windowStart iid) (takeWindowStart iid) s)))

/-- The hand-off: requests brought into line, then those already reached taken, yield warnings first (log entry 11). -/
def handOff (before s : State) : State :=
  let ids := idsWhere (fun i => !isTerminal i.state) s
  let s1 := ids.foldl syncInst s
  let s2 := s1.run.claims.foldl (syncClaim before) s1
  let s3 := s2.run.claims.foldl
    (fun acc c => takeFresh before.clk.dues (.yieldWarning c.id) (takeYieldWarning c.id) acc) s2
  ids.foldl (takeFreshInst before.clk.dues) s3

/-! ## The whole install -/

/-- Expansion's results on the recordings: removals, refreshes, creations (R75, R76). R75 and R76 give the three no order;
the removals come first, so that a place they free is taken before a terminal recording is discarded (log entry 64). -/
def applyExpansion (r : PassResult) (cands : List Cand) (s : State) : InstallAcc :=
  let held := r.expansion.results.filter (fun x => bookingHeld x.booking s)
  let s1 := (held.flatMap (fun x => x.removals)).foldl (fun acc iid => removeInst iid acc) s
  let s2 := cands.foldl refreshOne s1
  let s3 := (held.flatMap (fun x => x.refreshes)).foldl refreshRunning s2
  (numbered 0 r.expansion.granted).foldl (createOne cands) { s := s3, ids := [], conds := [] }

/-- The plan results and the writes to running recordings (R99, R107 to R109). -/
def applyPlan (p : Snapshot) (r : PassResult) (a : InstallAcc) : InstallAcc :=
  let s1 := (idsWhere (fun i => isRunning i.state) a.s).foldl (writeRunning p r.work) a.s
  let running := s1.lst.insts.filter (fun i => isRunning i.state)
  let since := (running.filter (enteredSince p)).filterMap liveOcc
  let others := r.work.fixed.filter (fun o =>
    running.any (fun i => i.id == o.pid && !enteredSince p i))
  let m := r.work.placed.foldl (writePlaced since) { a := { a with s := s1 }, counted := others }
  let a2 := r.work.lost.foldl writeLost m.a
  { a2 with s := r.tooShort.foldl (writeShort a2.ids) a2.s }

/-- The marks (R109). -/
def applyMarks (p : Snapshot) (r : PassResult) (a : InstallAcc) : InstallAcc :=
  { a with s := writeYields p r.work a.ids (writeCuts p r.work a.ids a.s) }

/-- The booking side of expansion and its conditions (R70, R74, R77). -/
def applyBookings (r : PassResult) (a : InstallAcc) : InstallAcc :=
  let held := r.expansion.results.filter (fun x => bookingHeld x.booking a.s)
  let a1 := held.foldl applyUpdate a
  { a1 with
    s := held.foldl applySpent a1.s
    conds := a1.conds ++
      ((held.filter (fun x => x.limited)).map (fun x => planCond .soft .expansionLimit none (some x.booking))) ++
      (r.expansion.tableFull.map (fun bid => planCond .deferred .instanceTableFull none (some bid))).toList }

/-- The plan generation rises by one and the clash list is replaced (R110). -/
def renewPlan (p : Snapshot) (r : PassResult) (ids : List (Nat × Nat)) (s : State) : State :=
  let cl := clashList (pidHeld p r.expansion.granted ids s) ids r.work.records
  modPln (fun q => { q with
    generation := (q.generation + 1) % 4294967296, clashes := cl.1, clashMore := cl.2 }) s

/-- The end of an install (R112): the next pass begins in the same event, or the Planner is IDLE. -/
def endPass (s : State) : State :=
  if s.pln.again then
    modPln (fun q => { q with again := false, dirty := false, snapshot := some (snapshotOf s) }) s
  else modPln (fun q => { q with passState := .idle, dirty := false, snapshot := none }) s

/-- The install of a pass (R107 to R114, R132, R136). The pin counts are taken before Run Control's hand-off, an order
that R111 leaves open (log entry 60). -/
def installPass (p : Snapshot) (s : State) : State :=
  let r := planPass p
  let cands := r.work.placed.map (fun x => x.cand) ++ r.work.lost.map (fun x => x.cand) ++ r.tooShort
  let a := applyBookings r (applyMarks p r (applyPlan p r (applyExpansion r cands s)))
  let created := a.ids.map (fun x => x.2)
  let s1 := renewPlan p r a.ids (recomputePins (submitFree a.conds a.s))
  let s2 := handOff s (postPlanChanged (planChanged s s1 created) s1)
  endPass (answerAllHeld (retryStarts s s2))

/-- INSTALL (R97, R107 to R114): taken while a pass is in flight (log entry 6). -/
def execInstall (s : State) : Host.Outcome State Fault Refusal :=
  match s.pln.passState, s.pln.snapshot with
  | .pass, some p => .next (settleOutputs s (installPass p s))
  | _, _ => .next s

end Sys2Proof.Machine
end

