-- ==== Sys2Proof/Machine/Waking.lean ====
section
/-! DEFINITION. The Wake Supervisor (chapter 10): the keepalive, the wake and its timeouts, the reset pulse, HELLO,
STANDBY, CAUSE_CLEAR and RESET_PART. The wake due request itself is kept by Machine/Flags.lean (R184). -/

namespace Sys2Proof.Machine

open Sys2Proof

/-- A condition of the WAKE bank; WAKE_FAILED too carries no booking id (R186; log entry 9). -/
def wakeCond (cls : CondClass) (code : CondCode) (iid : Option Nat) : Condition :=
  { bank := .wake, cls := cls, code := code, iid := iid, booking := none }

/-- A reset pulse is begun, or restarted (R180). -/
def beginPulse (s : State) : State :=
  startDelay .resetPulse Config.pulseUnits (modWsv (fun w => { w with resetOut := true }) s)

/-- The wake timeout is started, or restarted (R185, R186). -/
def startWakeTimeout (s : State) : State := startDelay .wakeTimeout (secs Config.wakeSecs) s

/-- The keepalive interval expires in AWAKE (R183). -/
def takeKeepalive (s : State) : State :=
  if s.wsv.host = .awake then
    let s1 := submit (wakeCond (if runningCount s = 0 then .soft else .hard) .hostHung none) s
    let s2 := startWakeTimeout (beginPulse s1)
    interruptHost (modWsv (fun w => { w with
      host := .waking, attempts := 1, wakeOut := true, reason := .none, standbyWanted := false }) s2)
  else s

/-- KEEPALIVE_EXPIRY (R183, R162). -/
def execKeepaliveExpiry (s : State) : Host.Outcome State Fault Refusal :=
  .next (onDelay .keepalive takeKeepalive s)

/-- The recording whose window start gave the wake due request: the lowest id among those of the earliest planned
window start (R185). -/
def wakeInst (s : State) : Option Nat :=
  match s.lst.earliest with
  | none => none
  | some w => (idsWhere (fun i => i.state == .planned && winStart i == w) s).head?

/-- A wake due begins a wake in STANDBY and SILENT; in AWAKE and WAKING it does nothing (R185). -/
def takeWakeDue (s : State) : State :=
  match s.wsv.host with
  | .standby | .silent =>
    startWakeTimeout (modWsv (fun w => { w with
      host := .waking, attempts := 1, wakeOut := true, silentFloor := none
      reason := (match wakeInst s with
        | some iid => .recording iid
        | none => .none) }) s)
  | .awake | .waking => s

/-- WAKE_DUE (R184, R185). -/
def execWakeDue (s : State) : Host.Outcome State Fault Refusal := .next (onDue .wakeDue takeWakeDue s)

/-- The recording named by a wake reason (R186). -/
def reasonInst : WakeReason → Option Nat
  | .recording iid => some iid
  | .none | .powerOn => none

/-- The wake timeout expires in WAKING (R186). -/
def takeWakeTimeout (s : State) : State :=
  if s.wsv.host = .waking then
    if s.wsv.attempts < 3 then
      startWakeTimeout (beginPulse (modWsv (fun w => { w with attempts := w.attempts + 1 }) s))
    else
      submit (wakeCond .hard .wakeFailed (reasonInst s.wsv.reason))
        (modWsv (fun w => { w with host := .silent, wakeOut := false, silentFloor := some (now s) }) s)
  else s

/-- WAKE_TIMEOUT (R186). -/
def execWakeTimeout (s : State) : Host.Outcome State Fault Refusal :=
  .next (onDelay .wakeTimeout takeWakeTimeout s)

/-- RESET_PULSE_END (R180). -/
def execResetPulseEnd (s : State) : Host.Outcome State Fault Refusal :=
  .next (onDelay .resetPulse (fun t => modWsv (fun w => { w with resetOut := false }) t) s)

/-! ## HELLO (R187 to R189) -/

/-- The Wake Supervisor's part of a HELLO: AWAKE, the outputs and timers set (R187). -/
def helloAwake (s : State) : State :=
  startKeepalive (cancelDelay .wakeTimeout (cancelDelay .resetPulse
    (modWsv (fun w => { w with
      host := .awake, wakeOut := false, resetOut := false, silentFloor := none, standbyWanted := false }) s)))

/-- Run Control's part of a HELLO: a restart interrupts, otherwise the claims are dropped; then the host's work is
taken up (R155, R162, R163, R188). -/
def helloWork (previous : HostState) (running : Nat) (s : State) : State :=
  match previous with
  | .awake =>
    takeUpWork (interruptHost
      (submit (wakeCond (if running = 0 then .soft else .deferred) .hostRestarted none) s))
  | .standby | .waking | .silent => takeUpWork (dropClaims s)

/-- The reply to a HELLO: the counts and the generation as they stand now (R189). -/
def helloView (previous : HostState) (s : State) : HelloView :=
  { causes := s.wsv.causes, previous := previous, reason := s.wsv.reason, attempts := s.wsv.attempts
    cstate := s.clk.cstate, generation := s.pln.generation, placeable := placeableCount s
    running := runningCount s, terminal := terminalCount s, free := Config.instCap - s.lst.insts.length }

/-- After the reply the wake reason is NONE and the attempt count 0 (R187). -/
def helloDone (s : State) : State := modWsv (fun w => { w with reason := .none, attempts := 0 }) s

/-- The starts that still wait are retried before the reply is made (R144, R189). -/
def hello (tag : Byte) (s : State) : State :=
  let previous := s.wsv.host
  let s1 := helloWork previous (runningCount s) (helloAwake s)
  let s2 := retryStarts s s1
  helloDone (answerOk 0x01 tag (.hello (helloView previous s2)) s2)

/-- HELLO (R187 to R189). -/
def execHello (tag : Byte) (payload : List Byte) (s : State) : Host.Outcome State Fault Refusal :=
  .next (settleOutputs s (onMessage 0x01 tag pNone payload (fun _ t => hello tag t) s))

/-! ## STANDBY (R190) -/

/-- An accepted STANDBY (R190). -/
def acceptStandby (s : State) : State :=
  dropClaims (cancelDelay .keepalive (modWsv (fun w => { w with host := .standby, standbyWanted := false }) s))

/-- STANDBY after its payload has been read (R190). -/
def standby (tag : Byte) (s : State) : State :=
  if hostAwake s then
    if standbyTest s then answerOk 0x02 tag .empty (acceptStandby s)
    else
      answer 0x02 tag .standbyDeferred false (.standbyDeferred (runningCount s) s.lst.earliest)
        (modWsv (fun w => { w with standbyWanted := true }) s)
  else refuse 0x02 tag .notAllowed s

/-- STANDBY (R190). -/
def execStandby (tag : Byte) (payload : List Byte) (s : State) : Host.Outcome State Fault Refusal :=
  .next (settle s (onMessage 0x02 tag pNone payload (fun _ t => standby tag t) s))

/-! ## Reset causes and the request of a reset (R192, R193) -/

/-- The empty set of reset causes. -/
def noCauses : Causes := { powerOn := false, warm := false, cold := false }

/-- CAUSE_CLEAR after its payload has been read (R192). -/
def causeClear (tag : Byte) (s : State) : State :=
  answerOk 0x03 tag (.causes s.wsv.causes) (modWsv (fun w => { w with causes := noCauses }) s)

/-- CAUSE_CLEAR (R192). -/
def execCauseClear (tag : Byte) (payload : List Byte) (s : State) : Host.Outcome State Fault Refusal :=
  .next (onMessage 0x03 tag pNone payload (fun _ t => causeClear tag t) s)

/-- The kind of reset a value names (R193; log entry 15). -/
def resetKindOf : Nat → Option ResetKind
  | 0 => some .warm
  | 1 => some .cold
  | _ => none

/-- RESET_PART after its payload has been read (R193). -/
def resetPart (tag : Byte) (n : Nat) (s : State) : State :=
  match resetKindOf n with
  | none => refuse 0x04 tag .badField s
  | some k => modLnk (fun l => { l with reset := .requested k }) (answerOk 0x04 tag .empty s)

/-- RESET_PART (R193): the reset itself acts when its reply has been sent. -/
def execResetPart (tag : Byte) (payload : List Byte) (s : State) : Host.Outcome State Fault Refusal :=
  .next (onMessage 0x04 tag pU8 payload (resetPart tag) s)

end Sys2Proof.Machine
end

