-- ==== Sys2Proof/Machine/Linking.lean ====
section
/-! DEFINITION. The Link Port (chapter 11): NOTICE_FETCH, ACTIONS_GET, the settings, and the events of the line. -/

namespace Sys2Proof.Machine

open Sys2Proof

/-! ## Notices and actions (R203, R205) -/

/-- NOTICE_FETCH after its payload has been read (R203). -/
def noticeFetch (tag : Byte) (s : State) : State :=
  let l := s.lnk
  answerOk 0x08 tag
    (.notices l.overflow (l.notices.length - Config.fetchCap) (l.notices.take Config.fetchCap))
    (modLnk (fun x => { x with notices := x.notices.drop Config.fetchCap, overflow := false }) s)

/-- NOTICE_FETCH (R203). -/
def execNoticeFetch (tag : Byte) (payload : List Byte) (s : State) : Host.Outcome State Fault Refusal :=
  .next (settle s (onMessage 0x08 tag pNone payload (fun _ t => noticeFetch tag t) s))

/-- An entry of the action list (R205). -/
def actionOf (isStop : Bool) (i : Inst) : ActionEntry :=
  { isStop := isStop, iid := i.id, tuner := i.tuner, mux := i.mux, service := i.service
    stopReason := if isStop then i.stopReason else none }

/-- The action list: the stops, then the starts, each in ascending id (R205). -/
def actionList (s : State) : List ActionEntry :=
  let held := s.lnk.actionSet.filterMap (fun iid => findInst iid s)
  (held.filter (fun i => i.state == .stopping)).map (actionOf true) ++
    (held.filter (fun i => i.state == .starting)).map (actionOf false)

/-- ACTIONS_GET after its payload has been read (R205). -/
def actionsGet (tag : Byte) (s : State) : State := answerOk 0x09 tag (.actions (actionList s)) s

/-- ACTIONS_GET (R205): it changes no state. -/
def execActionsGet (tag : Byte) (payload : List Byte) (s : State) : Host.Outcome State Fault Refusal :=
  .next (onMessage 0x09 tag pNone payload (fun _ t => actionsGet tag t) s)

/-! ## Settings (R206, R207) -/

/-- The value of the keepalive code as the settings give it: OFF is 255. -/
def keepCodeNum : Option Nat → Nat
  | some n => n
  | none => 255

/-- The value an item holds (R207). -/
def settingValue (n : Nat) (s : State) : Nat :=
  match n with
  | 1 => s.bkt.defPriority
  | 2 => s.bkt.defPrePad
  | 3 => s.bkt.defPostPad
  | 4 => s.wsv.wakeLead
  | 5 => keepCodeNum s.wsv.keepCode
  | 6 => s.run.gapTol
  | 7 => s.run.abandonLimit
  | _ => s.run.overrunLimit

/-- A written keepalive code (R181, R206). -/
def keepCodeOf (v : Nat) : Option Nat := if v = 255 then none else some (min 7 v)

/-- The value brought into the item's range (11.5). -/
def settingClamp (n v : Nat) : Nat :=
  match n with
  | 1 => max 1 (min 7 v)
  | 2 => min 3600 v
  | 3 => min 7200 v
  | 4 => max 30 (min 900 v)
  | 5 => keepCodeNum (keepCodeOf v)
  | 6 => max 1 (min 255 v)
  | 7 => max 10 (min 900 v)
  | _ => min 14400 v

/-- The keepalive code is written: in AWAKE the interval restarts with the new length or is cancelled (R181). -/
def writeKeepCode (v : Nat) (s : State) : State :=
  startKeepalive (cancelDelay .keepalive (modWsv (fun w => { w with keepCode := keepCodeOf v }) s))

/-- The wake lead is written: the wake due request is replaced at the end of the event, and standby is tested again
(R181, R184, R191). -/
def writeWakeLead (v : Nat) (s : State) : State :=
  retestStandby true (withdrawDue .wakeDue (modWsv (fun w => { w with wakeLead := v }) s))

/-- The abandonment of an open gap is re-timed, and taken at once when the new limit is already reached (R139). -/
def retimeAbandon (t : Tuner) (s : State) : State :=
  if (tunerRun t s).mon = .gap then
    match (tunerRun t s).drop with
    | none => s
    | some d =>
      let s1 := requestDue (.abandon t) (d / 10 + s.run.abandonLimit) s
      match takeDue (.abandon t) s1 with
      | some s2 => takeAbandon t s2
      | none => s1
  else s

/-- An item is handed to its owner with its value in range (R206). An abandon limit already reached on both tuners
abandons tuner A first (R139, R160; log entry 50). -/
def writeSetting (n v : Nat) (s : State) : State :=
  match n with
  | 1 => modBkt (fun b => { b with defPriority := v }) s
  | 2 => modBkt (fun b => { b with defPrePad := v }) s
  | 3 => modBkt (fun b => { b with defPostPad := v }) s
  | 4 => writeWakeLead v s
  | 5 => writeKeepCode v s
  | 6 => modRun (fun r => { r with gapTol := v }) s
  | 7 => retimeAbandon .b (retimeAbandon .a (modRun (fun r => { r with abandonLimit := v }) s))
  | _ => modRun (fun r => { r with overrunLimit := v }) s

/-- An item number outside 1–8, or one that appears twice (R206). -/
def badItems (items : List (Nat × Nat)) : Bool :=
  let ns := items.map (fun x => x.1)
  ns.any (fun n => n == 0 || decide (8 < n)) || ns.eraseDups.length != ns.length

/-- CONFIG_SET after its payload has been read (R206). -/
def configSet (tag : Byte) (items : List (Nat × Nat)) (s : State) : State :=
  if items.isEmpty || decide (8 < items.length) then refuse 0x0A tag .badLength s
  else if badItems items then refuse 0x0A tag .badField s
  else
    let s1 := items.foldl (fun acc x => writeSetting x.1 (settingClamp x.1 x.2) acc) s
    answer 0x0A tag .ok (items.any (fun x => settingClamp x.1 x.2 != x.2))
      (.settings (items.map (fun x => (x.1, settingValue x.1 s1)))) s1

/-- CONFIG_SET (R206). -/
def execConfigSet (tag : Byte) (payload : List Byte) (s : State) : Host.Outcome State Fault Refusal :=
  .next (settle s (onMessage 0x0A tag (pItems payload.length) payload (configSet tag) s))

/-- CONFIG_GET after its payload has been read (R207). -/
def configGet (tag : Byte) (ns : List Nat) (s : State) : State :=
  if 8 < ns.length then refuse 0x0B tag .badLength s
  else if ns.any (fun n => n == 0 || decide (8 < n)) then refuse 0x0B tag .badField s
  else
    let items := if ns.isEmpty then [1, 2, 3, 4, 5, 6, 7, 8] else ns
    answerOk 0x0B tag (.settings (items.map (fun n => (n, settingValue n s)))) s

/-- CONFIG_GET (R207): it changes no state. -/
def execConfigGet (tag : Byte) (payload : List Byte) (s : State) : Host.Outcome State Fault Refusal :=
  .next (onFrame 0x0B tag payload (configGet tag (payload.map (fun b => b.toNat))) s)

/-! ## The line (R196 to R201) -/

/-- The BAD_CHECK reply enters the transmit order and counts among the frames in hand (R198). -/
def answerBadCheck (s : State) : State :=
  modLnk (fun l => { l with inHand := l.inHand + 1 })
    (pushReply { kind := 0xFF, tag := 0, status := .badCheck, clamped := false, againPending := false, body := .empty } s)

/-- BAD_CHECK (R198): a frame whose check differs from the one computed over it; nothing happens when it agrees, or
when the payload is longer than a frame's (log entry 30). -/
def execBadCheck (kind tag : Byte) (payload : List Byte) (check : BitVec 16) (s : State) :
    Host.Outcome State Fault Refusal :=
  if Config.payloadCap < payload.length ∨ check = frameCheck kind tag payload then .next s
  else
    let s1 := frameArrived kind tag payload check s
    if frameRefused s then .next s1 else .next (answerBadCheck s1)

/-- The kind of the reply to a frame of unknown kind (R199). -/
def badKindReply (kind : Byte) : Byte := if kind = 0 ∨ 0x7F ≤ kind.toNat then 0xFE else replyKind kind

/-- The answer to a frame of unknown kind (R199). -/
def answerBadKind (kind tag : Byte) (s : State) : State :=
  pushReply { kind := badKindReply kind, tag := tag, status := .badKind, clamped := false, againPending := false
              body := .empty } s

/-- BAD_KIND (R199): a frame of a kind that the catalogue does not list; nothing happens when it lists the kind (log
entry 30). -/
def execBadKind (kind tag : Byte) (payload : List Byte) (s : State) : Host.Outcome State Fault Refusal :=
  if catalogue.contains kind then .next s
  else .next (onFrame kind tag payload (answerBadKind kind tag) s)

/-- FRAME_DISCARDED_IN_HAND (R199): a frame that arrives while the part takes none; nothing happens when the part would
take it (log entry 30). -/
def execFrameDiscardedInHand (kind tag : Byte) (payload : List Byte) (s : State) : Host.Outcome State Fault Refusal :=
  if Config.payloadCap < payload.length ∨ frameRefused s = false then .next s
  else .next (frameArrived kind tag payload (frameCheck kind tag payload) s)

/-- The receiver discards what it holds and hunts (R196, R197). -/
def toHunt (rx : Rx) : Rx := { rx with rstate := .hunt }

/-- LINE_FRAMING_ERROR (R196): bytes of a frame, then a byte with a line framing error. Nothing happens when the bytes
complete a frame (log entry 30). -/
def execLineFramingError (received : List Byte) (s : State) : Host.Outcome State Fault Refusal :=
  match rxQuiet s.lnk.rx received with
  | none => .next s
  | some rx => .next (modLnk (fun l => { l with rx := toHunt rx }) s)

/-- The 50 ms of the inter-byte timer pass, where the current second holds them (R197; log entry 12). -/
def interByteEnd (s : State) : State :=
  let s1 := startDelay .interByte Config.interByteUnits s
  (takeDelay .interByte s1).getD (cancelDelay .interByte s1)

/-- INTER_BYTE_TIMEOUT (R197): bytes of a frame, then 50 ms without one. Nothing is discarded when the receiver hunts,
for then no timer runs (log entry 30). -/
def execInterByteTimeout (received : List Byte) (s : State) : Host.Outcome State Fault Refusal :=
  match rxQuiet s.lnk.rx received with
  | none => .next s
  | some rx =>
    if rx.rstate = .hunt then .next s
    else .next (interByteEnd (modLnk (fun l => { l with rx := toHunt rx }) s))

/-- The reply of a RESET_PART that was taken (R193). -/
def isResetReply (r : Reply) : Bool := r.kind == 0x84 && r.status == .ok

/-- The reset requested is due when its reply has been sent (R193, R201). -/
def resetAfter (r : Reply) (st : ResetStage) : ResetStage :=
  match st with
  | .requested k => if isResetReply r then .due k else st
  | .none | .due _ => st

/-- REPLY_SENT (R201): the oldest reply has been sent to its last byte and leaves the frames in hand. Nothing happens
when no reply waits, or when a reset is due (log entries 30 and 31). -/
def execReplySent (s : State) : Host.Outcome State Fault Refusal :=
  match s.lnk.tx, s.lnk.reset with
  | [], _ => .next s
  | _ :: _, .due _ => .next s
  | r :: rest, st =>
    .next (modLnk (fun l => { l with
      tx := rest, inHand := l.inHand - 1, txd := replyFrame r, reset := resetAfter r st }) s)

/-- FRAME_LENGTH_EXCEEDS_512 (R196): a sync byte and two length bytes; the frame is discarded when the length exceeds
512, and nothing happens otherwise (log entry 30). -/
def execFrameLengthExceeds512 (high low : Byte) (s : State) : Host.Outcome State Fault Refusal :=
  match rxBytes s.lnk.rx [0x5A, high, low] with
  | (rx, .tooLong) => .next (modLnk (fun l => { l with rx := rx }) s)
  | _ => .next s

end Sys2Proof.Machine
end

