-- ==== Sys2Proof/Machine/Resets.lean ====
section
/-! DEFINITION. The resets of the part: power-on, WARM and COLD (R16, R34, R57, R92, R116, R165, R179, R194, R209). The
commands that wait and the model's counter of free values are kept across every reset. -/

namespace Sys2Proof.Machine

open Sys2Proof

/-- POWER_ON (R194 and the reset rule of every chapter). -/
def execPowerOn (s : State) : Host.Outcome State Fault Refusal :=
  .next { State.reset with free := s.free, pending := s.pending }

/-- The Clock Unit at a COLD or WARM reset: kept, the other blocks' requests dropped (R16). -/
def keepClock (c : Clock) : Clock := { c with dues := [], delays := [] }

/-- The Link Port at a reset; the line has carried what it carried (R209). -/
def resetLink (l : Link) : Link := { freshLink with txd := l.txd }

/-- The Booking Table at a WARM reset: SPENT bookings leave (R57). -/
def warmBookings (t : BookingTable) : BookingTable :=
  { t with bookings := t.bookings.filter (fun b => b.bstate != .spent) }

/-- Run Control at a WARM reset: its three settings are kept (R165). -/
def warmRun (r : RunControl) : RunControl :=
  { freshRun with gapTol := r.gapTol, abandonLimit := r.abandonLimit, overrunLimit := r.overrunLimit }

/-- A gap counter at a WARM reset: the threshold is kept (R179). -/
def warmGap (g : GapCounter) : GapCounter := { g with count := 0, armed := true }

/-- The Condition Log at a WARM reset: the records go, the settings stay (R179). -/
def warmLog (c : CondLog) : CondLog :=
  { tunerA := clearedBank c.tunerA, tunerB := clearedBank c.tunerB, plan := clearedBank c.plan
    wake := clearedBank c.wake, clock := clearedBank c.clock, gapA := warmGap c.gapA, gapB := warmGap c.gapB }

/-- The reset-cause flags with the flag of a requested reset added (R192). -/
def addCause (k : ResetKind) (c : Causes) : Causes :=
  match k with
  | .warm => { c with warm := true }
  | .cold => { c with cold := true }

/-- The Wake Supervisor after a COLD or WARM reset (R194). -/
def resetWake (k : ResetKind) (keep : Option Nat) (lead : Nat) (causes : Causes) : WakeSup :=
  { host := .awake, attempts := 0, reason := .none, silentFloor := none, standbyWanted := false, keepCode := keep
    wakeLead := lead, causes := addCause k causes, wakeOut := false, resetOut := false }

/-- A WARM reset acts (R193): the pass that its bookings ask for begins at once when the clock is set (R116). -/
def warmReset (s : State) : State :=
  let t := warmBookings s.bkt
  beginPass (startKeepalive
    { clk := keepClock s.clk, gst := { recs := [] }, bkt := t, lst := freshList
      pln := { freshPlanner with dirty := !t.bookings.isEmpty }, run := warmRun s.run, cnd := warmLog s.cnd
      wsv := resetWake .warm s.wsv.keepCode s.wsv.wakeLead s.wsv.causes, lnk := resetLink s.lnk
      free := s.free, pending := s.pending })

/-- WARM_RESET: it acts when a WARM reset has been requested and its reply sent (R193; log entry 31). -/
def execWarmReset (s : State) : Host.Outcome State Fault Refusal :=
  if s.lnk.reset = .due .warm then .next (warmReset s) else .next s

/-- A COLD reset acts (R193). -/
def coldReset (s : State) : State :=
  startKeepalive
    { clk := keepClock s.clk, gst := { recs := [] }, bkt := freshBookings, lst := freshList, pln := freshPlanner
      run := freshRun, cnd := freshLog, wsv := resetWake .cold (some 4) 120 s.wsv.causes
      lnk := resetLink s.lnk, free := s.free, pending := s.pending }

/-- COLD_RESET: it acts when a COLD reset has been requested and its reply sent (R193; log entry 31). -/
def execColdReset (s : State) : Host.Outcome State Fault Refusal :=
  if s.lnk.reset = .due .cold then .next (coldReset s) else .next s

end Sys2Proof.Machine
end

