-- ==== Sys2Proof/Machine/Dispatch.lean ====
section
/-! DEFINITION. The dispatch: one arm per command, each a direct call of its meaning. -/

namespace Sys2Proof.Machine

open Sys2Proof

def exec (i : Instr) (s : State) : Host.Outcome State Fault Refusal :=
  match i with
  | .powerOn => Sys2Proof.Machine.execPowerOn s
  | .warmReset => Sys2Proof.Machine.execWarmReset s
  | .coldReset => Sys2Proof.Machine.execColdReset s
  | .crystalSecond => Sys2Proof.Machine.execCrystalSecond s
  | .dayRollover => Sys2Proof.Machine.execDayRollover s
  | .offsetChange => Sys2Proof.Machine.execOffsetChange s
  | .timeSet tag payload => Sys2Proof.Machine.execTimeSet tag payload s
  | .timeGet tag payload => Sys2Proof.Machine.execTimeGet tag payload s
  | .guidePut tag payload => Sys2Proof.Machine.execGuidePut tag payload s
  | .guideDropKeys tag payload => Sys2Proof.Machine.execGuideDropKeys tag payload s
  | .guideDropService tag payload => Sys2Proof.Machine.execGuideDropService tag payload s
  | .eventStatus tag payload => Sys2Proof.Machine.execEventStatus tag payload s
  | .guideGetEvent tag payload => Sys2Proof.Machine.execGuideGetEvent tag payload s
  | .guideGetSummary tag payload => Sys2Proof.Machine.execGuideGetSummary tag payload s
  | .bookEvent tag payload => Sys2Proof.Machine.execBookEvent tag payload s
  | .bookSeries tag payload => Sys2Proof.Machine.execBookSeries tag payload s
  | .bookManual tag payload => Sys2Proof.Machine.execBookManual tag payload s
  | .bookChange tag payload => Sys2Proof.Machine.execBookChange tag payload s
  | .bookSuspend tag payload => Sys2Proof.Machine.execBookSuspend tag payload s
  | .bookResume tag payload => Sys2Proof.Machine.execBookResume tag payload s
  | .bookDelete tag payload => Sys2Proof.Machine.execBookDelete tag payload s
  | .bookGet tag payload => Sys2Proof.Machine.execBookGet tag payload s
  | .bookList tag payload => Sys2Proof.Machine.execBookList tag payload s
  | .historyAdd tag payload => Sys2Proof.Machine.execHistoryAdd tag payload s
  | .historyDropPair tag payload => Sys2Proof.Machine.execHistoryDropPair tag payload s
  | .historyDropSeries tag payload => Sys2Proof.Machine.execHistoryDropSeries tag payload s
  | .historyGet tag payload => Sys2Proof.Machine.execHistoryGet tag payload s
  | .instanceGet tag payload => Sys2Proof.Machine.execInstanceGet tag payload s
  | .planGet tag payload => Sys2Proof.Machine.execPlanGet tag payload s
  | .outcomeTake tag payload => Sys2Proof.Machine.execOutcomeTake tag payload s
  | .clashGet tag payload => Sys2Proof.Machine.execClashGet tag payload s
  | .install => Sys2Proof.Machine.execInstall s
  | .windowStart iid => Sys2Proof.Machine.execWindowStart iid s
  | .coreEnd iid => Sys2Proof.Machine.execCoreEnd iid s
  | .heldStartLimit iid => Sys2Proof.Machine.execHeldStartLimit iid s
  | .stopMoment iid => Sys2Proof.Machine.execStopMoment iid s
  | .overrunCap iid => Sys2Proof.Machine.execOverrunCap iid s
  | .startConfirmTimeout iid => Sys2Proof.Machine.execStartConfirmTimeout iid s
  | .stopConfirmTimeout iid => Sys2Proof.Machine.execStopConfirmTimeout iid s
  | .recReportStarted tag payload => Sys2Proof.Machine.execRecReportStarted tag payload s
  | .recReportStartFailed tag payload => Sys2Proof.Machine.execRecReportStartFailed tag payload s
  | .recReportStopped tag payload => Sys2Proof.Machine.execRecReportStopped tag payload s
  | .viewClaimNew tag payload => Sys2Proof.Machine.execViewClaimNew tag payload s
  | .viewClaimChange tag payload => Sys2Proof.Machine.execViewClaimChange tag payload s
  | .viewRelease tag payload => Sys2Proof.Machine.execViewRelease tag payload s
  | .yieldWarning claim => Sys2Proof.Machine.execYieldWarning claim s
  | .lockGraceEnd tuner => Sys2Proof.Machine.execLockGraceEnd tuner s
  | .lockMonitorTick tuner locked => Sys2Proof.Machine.execLockMonitorTick tuner locked s
  | .lockAbandon tuner => Sys2Proof.Machine.execLockAbandon tuner s
  | .windowClose iid => Sys2Proof.Machine.execWindowClose iid s
  | .keepaliveExpiry => Sys2Proof.Machine.execKeepaliveExpiry s
  | .wakeDue => Sys2Proof.Machine.execWakeDue s
  | .wakeTimeout => Sys2Proof.Machine.execWakeTimeout s
  | .resetPulseEnd => Sys2Proof.Machine.execResetPulseEnd s
  | .hello tag payload => Sys2Proof.Machine.execHello tag payload s
  | .standby tag payload => Sys2Proof.Machine.execStandby tag payload s
  | .causeClear tag payload => Sys2Proof.Machine.execCauseClear tag payload s
  | .resetPart tag payload => Sys2Proof.Machine.execResetPart tag payload s
  | .condRead tag payload => Sys2Proof.Machine.execCondRead tag payload s
  | .condClear tag payload => Sys2Proof.Machine.execCondClear tag payload s
  | .condConfig tag payload => Sys2Proof.Machine.execCondConfig tag payload s
  | .noticeFetch tag payload => Sys2Proof.Machine.execNoticeFetch tag payload s
  | .actionsGet tag payload => Sys2Proof.Machine.execActionsGet tag payload s
  | .configSet tag payload => Sys2Proof.Machine.execConfigSet tag payload s
  | .configGet tag payload => Sys2Proof.Machine.execConfigGet tag payload s
  | .badCheck kind tag payload check => Sys2Proof.Machine.execBadCheck kind tag payload check s
  | .badKind kind tag payload => Sys2Proof.Machine.execBadKind kind tag payload s
  | .frameDiscardedInHand kind tag payload => Sys2Proof.Machine.execFrameDiscardedInHand kind tag payload s
  | .lineFramingError received => Sys2Proof.Machine.execLineFramingError received s
  | .interByteTimeout received => Sys2Proof.Machine.execInterByteTimeout received s
  | .replySent => Sys2Proof.Machine.execReplySent s
  | .frameLengthExceeds512 high low => Sys2Proof.Machine.execFrameLengthExceeds512 high low s

end Sys2Proof.Machine
end

