-- ==== Sys2Proof/Safety.lean ====
section
/-! DEFINITION. The terms in which the statements about the part are made: what a taken frame, a reply and a set dirty
flag do to the state, written out from the rules and not from the operations of the model, and the invariants that
hold of the part between commands. -/

namespace Sys2Proof.Machine

open Sys2Proof

/-! ## Frames, replies and passes -/

/-- A frame with this payload that arrives now is taken: it fits (R195), fewer than eight frames are in hand (R199),
and no reset has been asked for (R193). -/
abbrev Takes (p : List Byte) (s : State) : Prop :=
  p.length ≤ Config.payloadCap ∧ s.lnk.inHand < Config.handCap ∧ s.lnk.reset = .none

/-- The delays with the keepalive interval running anew, when the host is AWAKE and the code is not OFF (R182). -/
def freshKeepalive (s : State) : List DelayReq :=
  match s.wsv.host, s.wsv.keepCode with
  | .awake, some n =>
    s.clk.delays.filter (fun d => d.kind != .keepalive) ++
      [{ kind := .keepalive, left := 5 * 2 ^ n * Config.unitsPerSecond }]
  | _, _ => s.clk.delays

/-- The state in which a frame has just been taken (R196, R199): it fills the receiver's assembly buffer, it is in
hand, and the keepalive interval runs anew. -/
def withFrame (kind tag : Byte) (p : List Byte) (s : State) : State :=
  { s with
    clk := { s.clk with delays := freshKeepalive s }
    lnk := { s.lnk with rx := rxAfter kind tag p (frameCheck kind tag p), inHand := s.lnk.inHand + 1 } }

/-- The state with a reply behind those that wait (R201). -/
def withReply (r : Reply) (s : State) : State := { s with lnk := { s.lnk with tx := s.lnk.tx ++ [r] } }

/-- A reply to the command of a kind: the command's kind with bit 7 set, and its tag (R200). -/
def replyTo (kind tag : Byte) (st : Status) (clamped : Bool) (body : ReplyBody) : Reply :=
  { kind := kind + 0x80, tag := tag, status := st, clamped := clamped, againPending := false, body := body }

/-- The reply OK that raises no flag. -/
def okTo (kind tag : Byte) (body : ReplyBody) : Reply := replyTo kind tag .ok false body

/-- The reply of a refusal: status and flags alone (R200). -/
def refusalTo (kind tag : Byte) (st : Status) : Reply := replyTo kind tag st false .empty

/-- A command that was taken, changed nothing else and was answered. -/
def answered (kind tag : Byte) (p : List Byte) (r : Reply) (s : State) : State := withReply r (withFrame kind tag p s)

/-- The end of an event that has set the Planner's dirty flag (R93, R94): during a pass the again flag is set; while
IDLE a pass begins when the clock is set, with its snapshot taken at the end of the event (R96), and the dirty flag
waits when the clock is UNSET. -/
def askPass (s : State) : State :=
  match s.pln.passState, s.clk.cstate with
  | .pass, _ => { s with pln := { s.pln with again := true } }
  | .idle, .unset => { s with pln := { s.pln with dirty := true } }
  | .idle, _ => { s with pln := { s.pln with passState := .pass, dirty := false, snapshot := some (snapshotOf s) } }

/-- The end of an event that asks for a pass exactly when a condition holds. -/
def askPassIf (b : Bool) (s : State) : State := if b then askPass s else s

/-- The attention output as R204 gives it. -/
def attnOf (l : Link) : Bool := !l.notices.isEmpty || !l.actionSet.isEmpty

/-- The state with the attention output at its level (R204). -/
def withAttn (s : State) : State := { s with lnk := { s.lnk with attn := attnOf s.lnk } }

/-- No recording overruns. -/
abbrev NoOverrun (s : State) : Prop := ∀ i ∈ s.lst.insts, i.overrun = none

/-- The ids of the recordings are distinct (R79). -/
abbrev DistinctIds (s : State) : Prop := (s.lst.insts.map (fun i => i.id)).Nodup

/-- The delay of a kind that is held. -/
def heldDelay (k : DelayKind) (s : State) : Option DelayReq := s.clk.delays.find? (fun d => d.kind == k)

/-- The request of a kind has been delivered and waits to be taken (R3). -/
abbrev Delivered (k : DueKind) (s : State) : Prop := ∃ d ∈ s.clk.dues, d.kind = k ∧ d.delivered = true

/-- The requests without those of a kind. -/
def duesWithout (k : DueKind) (s : State) : List DueReq := s.clk.dues.filter (fun d => d.kind != k)

/-- The delay of a kind ends in the second in which the crystal now is (R4). -/
abbrev Elapses (k : DelayKind) (s : State) : Prop :=
  ∃ d ∈ heldDelay k s, s.clk.sub + d.left < Config.unitsPerSecond

/-- The Planner of `u` is that of `s` after an event that set the dirty flag and left `u` (R93, R94, R96). -/
abbrev PassAsked (s u : State) : Prop := u.pln = (askPass { u with pln := s.pln }).pln

/-- No start waits for a tuner (R144, R163). -/
abbrev NobodyWaits (s : State) : Prop :=
  ∀ i ∈ s.lst.insts, i.state ≠ .interrupted ∧ ¬(i.state = .planned ∧ i.startHeld = true)

/-- The recordings with the one of an id changed. -/
def changedAt (iid : Nat) (f : Inst → Inst) (s : State) : List Inst :=
  s.lst.insts.map (fun i => if i.id = iid then f i else i)

/-- The recording is on neither tuner's list of active recordings (R138). -/
abbrev NotActive (iid : Nat) (s : State) : Prop := iid ∉ s.run.tunerA.active ∧ iid ∉ s.run.tunerB.active

/-! ## What holds between commands -/

/-- What the end of every event leaves (R82 to R84, R94, R184, R204): the two summaries are those of the list, every
terminal recording has its place in the terminal order, the wake due request is the one R184 asks for, the attention
output is at its level, and a dirty flag waits only for the clock. -/
abbrev Settled (s : State) : Prop :=
  s.lst.earliest = earliestPlanned s ∧
  s.lnk.actionSet = actionIds s ∧
  newTerminals s.lst = [] ∧
  (heldDue .wakeDue s).map (fun d => d.time) = wakeTarget s ∧
  s.lnk.attn = attnOf s.lnk ∧
  (s.pln.passState = .idle → s.pln.dirty = true → s.clk.cstate = .unset)

/-- An offset in force or to come: a multiple of 900 within 14 hours of UTC (R5). -/
abbrev OffsetFormed (o : Int) : Prop := -50400 ≤ o ∧ o ≤ 50400 ∧ o % 900 = 0

/-- The Clock Unit's ranges (R1, R5, R9, R15). -/
abbrev ClockKept (s : State) : Prop :=
  s.clk.count ≤ Config.maxTime ∧
  (s.clk.cstate = .unset → s.clk.count = 0) ∧
  s.clk.sub < Config.unitsPerSecond ∧
  -2 ≤ s.clk.slewRem ∧ s.clk.slewRem ≤ 2 ∧
  (s.clk.cstate = .slewing ↔ s.clk.slewRem ≠ 0) ∧
  s.clk.slewPhase < 10 ∧
  OffsetFormed s.clk.offset ∧
  (∀ ch ∈ s.clk.change, OffsetFormed ch.offset) ∧
  (s.clk.changeDue = true → s.clk.change ≠ none)

/-- One bank: an overflow mark and a further count stand only behind a held record, and together (R166, R170). -/
abbrev BankKept (b : Bank) : Prop :=
  b.further ≤ 255 ∧ (b.overflow = true ↔ 0 < b.further) ∧ (b.held = none → b.overflow = false)

/-- The Condition Log's ranges (R166, R170, R172). -/
abbrev LogKept (s : State) : Prop :=
  BankKept s.cnd.tunerA ∧ BankKept s.cnd.tunerB ∧ BankKept s.cnd.plan ∧ BankKept s.cnd.wake ∧ BankKept s.cnd.clock ∧
  s.cnd.gapA.count ≤ 65535 ∧ s.cnd.gapB.count ≤ 65535 ∧
  s.cnd.gapA.threshold ≤ 65535 ∧ s.cnd.gapB.threshold ≤ 65535

/-- The Link Port's counts: every frame in hand is a reply that waits or a held query (R113, R199, R201), eight at
most; four held queries at most, and only during a pass; 48 notices at most (R202). -/
abbrev LinkKept (s : State) : Prop :=
  s.lnk.inHand = s.lnk.tx.length + s.lnk.held.length ∧
  s.lnk.inHand ≤ Config.handCap ∧
  s.lnk.held.length ≤ Config.heldCap ∧
  (s.lnk.held ≠ [] → s.pln.passState = .pass) ∧
  s.lnk.notices.length ≤ Config.noticeCap

/-- The Planner's flags (R93, R94, R96), the generation's range (R110) and the length of the clash list (R136). -/
abbrev PlannerKept (s : State) : Prop :=
  (s.pln.passState = .pass ↔ s.pln.snapshot ≠ none) ∧
  (s.pln.passState = .pass → s.clk.cstate ≠ .unset) ∧
  (s.pln.again = true → s.pln.passState = .pass) ∧
  (s.pln.dirty = true → s.pln.passState = .idle ∧ s.clk.cstate = .unset) ∧
  s.pln.generation < 4294967296 ∧
  s.pln.clashes.length ≤ Config.clashCap

/-- A guide record as R22 accepts it. -/
abbrev RecKept (r : GuideRec) : Prop :=
  1 ≤ r.key.service ∧ 1 ≤ r.mux ∧ Config.minWindow ≤ r.dur ∧ r.dur ≤ Config.maxDur ∧
    r.start + r.dur ≤ Config.maxTime

/-- The Guide Store: in store order, no key twice, 3072 records at most (R17). -/
abbrev GuideKept (s : State) : Prop :=
  s.gst.recs.Pairwise (fun a b => recLt a b = true) ∧
  (s.gst.recs.map (fun r => r.key)).Nodup ∧
  s.gst.recs.length ≤ Config.guideCap ∧
  ∀ r ∈ s.gst.recs, RecKept r

/-- A booking's id and common fields in their ranges (R35, R37). -/
abbrev BookingKept (b : Booking) : Prop :=
  1 ≤ b.id ∧ b.id ≤ Config.bookingCap ∧ 1 ≤ b.priority ∧ b.priority ≤ 7 ∧ b.prePad ≤ 3600 ∧ b.postPad ≤ 7200 ∧
    100 ≤ b.minFraction ∧ b.minFraction ≤ 1000

/-- The Booking Table: in ascending id, each field in range, the history of 512 distinct pairs at most, and the
defaults in range (R35, R37, R38, R52). -/
abbrev BookingsKept (s : State) : Prop :=
  s.bkt.bookings.Pairwise (fun a b => a.id < b.id) ∧
  (∀ b ∈ s.bkt.bookings, BookingKept b) ∧
  s.bkt.history.Nodup ∧ s.bkt.history.length ≤ Config.histCap ∧
  1 ≤ s.bkt.defPriority ∧ s.bkt.defPriority ≤ 7 ∧ s.bkt.defPrePad ≤ 3600 ∧ s.bkt.defPostPad ≤ 7200

/-- The Instance List holds 160 recordings at most, no two with one id, and the next id is an id (R78, R79). -/
abbrev RoomKept (s : State) : Prop :=
  s.lst.insts.length ≤ Config.instCap ∧ DistinctIds s ∧ 1 ≤ s.lst.nextId ∧ s.lst.nextId ≤ 65535

/-- The Instance List in order of core start and then id, with twelve recordings not terminal at most for a booking and
four alternates and four segments at most on each recording (R70, R78, R163; how an install keeps the twelve is the
model's reading, log entry 53). A placeable recording holds no segment and one in STARTING holds three at most, which is what
keeps a STARTED report within four; the snapshot of a pass keeps the bound on the alternates. -/
abbrev ListKept (s : State) : Prop :=
  RoomKept s ∧
  s.lst.insts.Pairwise (fun a b => instLt a b = true) ∧
  (∀ i ∈ s.lst.insts, (s.lst.insts.filter (fun j => j.booking == i.booking && !isTerminal j.state)).length ≤ 12) ∧
  (∀ i ∈ s.lst.insts, i.alts.length ≤ 4 ∧ i.segments.length ≤ Config.segCap ∧
    (isPlaceable i.state = true → i.segments = []) ∧ (i.state = .starting → i.segments.length < Config.segCap)) ∧
  (∀ sn ∈ s.pln.snapshot, ∀ i ∈ sn.insts, i.alts.length ≤ 4)

/-- A PLANNED recording holds a tuner, a verdict other than LOST, a plan priority, and a window of 60 s or more inside
its padded span (R98, R99, R107). -/
abbrev PlannedWell (i : Inst) : Prop :=
  i.tuner ≠ none ∧ i.planPriority ≠ none ∧ i.verdict ≠ none ∧ i.verdict ≠ some .lost ∧
  ∃ w ∈ i.window, w.ws + 60 ≤ w.we ∧ i.start ≤ w.ws + i.prePad ∧ w.we ≤ i.start + i.dur + i.postPad

/-- A PLANNED recording on a tuner, with an instant inside its window. -/
def plannedAt (u : Tuner) (m : Nat) (i : Inst) : Bool :=
  i.state == .planned && i.tuner == some u && decide (winStart i ≤ m) && decide (m < winEnd i)

/-- The plan between commands (R98, R99, R104, R107): every PLANNED recording is planned well; two PLANNED recordings on
one tuner and on different multiplexes are kept apart by the retune gap; and no instant lies in more than four PLANNED
windows of one tuner. What makes an install keep it: every placeable recording has its booking, and a pass in flight
knows it under its id. -/
abbrev PlanKept (s : State) : Prop :=
  RoomKept s ∧
  (∀ i ∈ s.lst.insts, i.id ≤ 65535 ∧ (isPlaceable i.state = true → bookingHeld i.booking s = true)) ∧
  (∀ sn ∈ s.pln.snapshot, (sn.insts.map (fun i => i.id)).Nodup ∧ (∀ j ∈ sn.insts, j.id ≤ 65535) ∧
    ∀ i ∈ s.lst.insts, isPlaceable i.state = true →
      ∃ j ∈ sn.insts, j.id = i.id ∧ j.booking = i.booking ∧ isPlaceable j.state = true) ∧
  (∀ i ∈ s.lst.insts, i.state = .planned → PlannedWell i) ∧
  (∀ i ∈ s.lst.insts, ∀ j ∈ s.lst.insts, i.state = .planned → j.state = .planned → i.id ≠ j.id →
    i.tuner = j.tuner → i.mux ≠ j.mux → winEnd i + 4 ≤ winStart j ∨ winEnd j + 4 ≤ winStart i) ∧
  (∀ u m, (s.lst.insts.filter (plannedAt u m)).length ≤ 4)

/-- A tuner run record: four recordings at most, a multiplex exactly when it is not idle (R138), and a drop time while
the monitor counts a drop or a gap (R158). -/
abbrev TunerKept (r : TunerRun) : Prop :=
  r.active.length ≤ Config.tunerCap ∧ (r.active = [] ↔ r.mux = none) ∧
    (r.mon = .dropping ∨ r.mon = .gap → r.drop ≠ none) ∧ (r.mon = .off → r.drop = none)

/-- Run Control's tuners and settings (R138, R139, R158). -/
abbrev TunersKept (s : State) : Prop :=
  TunerKept s.run.tunerA ∧ TunerKept s.run.tunerB ∧
  1 ≤ s.run.gapTol ∧ s.run.gapTol ≤ 255 ∧ 10 ≤ s.run.abandonLimit ∧ s.run.abandonLimit ≤ 900 ∧
  s.run.overrunLimit ≤ 14400

/-- The Wake Supervisor: the wake output is high in WAKING alone, the silent floor is held in SILENT alone, the standby
wanted flag in AWAKE alone, the attempt count as R185 to R187 leave it, the settings in range (R180 to R190); and the
claims: two at most with distinct ids, priorities up to 7, and none but in AWAKE (R154, R155). -/
abbrev HostKept (s : State) : Prop :=
  (s.wsv.wakeOut = true ↔ s.wsv.host = .waking) ∧
  (s.wsv.silentFloor ≠ none ↔ s.wsv.host = .silent) ∧
  (s.wsv.standbyWanted = true → s.wsv.host = .awake) ∧
  (s.wsv.host = .waking → 1 ≤ s.wsv.attempts) ∧ s.wsv.attempts ≤ 3 ∧
  30 ≤ s.wsv.wakeLead ∧ s.wsv.wakeLead ≤ 900 ∧
  (∀ n ∈ s.wsv.keepCode, n ≤ 7) ∧
  (∀ c ∈ s.run.claims, (c.id = 1 ∨ c.id = 2) ∧ 1 ≤ c.mux ∧ c.priority ≤ 7) ∧
  (s.run.claims.map (fun c => c.id)).Nodup ∧
  (s.run.claims ≠ [] → s.wsv.host = .awake)

end Sys2Proof.Machine
end

