-- ==== Sys2Proof/Certificates/Slice0/Obligations.lean ====
section
/-! DEFINITION. The statements about the part, each with the rules of spec/ that it formalises. -/

open Sys2Proof Sys2Proof.Machine

/-! ## The queue, and that every command completes -/

/-- One step takes the command at the front of the queue; on an empty queue the part idles (the model's choice, log
entry 1). -/
def Obligations.StepRunsFrontCommand : Prop :=
  (∀ (c : Instr) (s : State) (rest : List Instr),
    step { s with pending := c :: rest } = exec c { s with pending := rest }) ∧
  (∀ s : State, step { s with pending := [] } = .next { s with pending := [] })

/-- Every command answers a next state, in every state: the model reads so from the rules, which name no command that
ends the part (log entry 43). It leaves the queue as it found it: the queue is the model's own (log entry 1). -/
def Obligations.EveryCommandCompletesAndKeepsTheQueue : Prop :=
  ∀ (c : Instr) (s : State), ∃ t, exec c s = .next t ∧ t.pending = s.pending

/-! ## Resets (R16, R34, R57, R92, R116, R165, R179, R192, R194, R209) -/

/-- What power-on leaves, block by block. -/
def Obligations.PowerOnValues : Prop :=
  ∀ s : State, ∃ t, exec .powerOn s = .next t ∧
    t.clk.count = 0 ∧ t.clk.cstate = .unset ∧ t.clk.slewRem = 0 ∧ t.clk.slewPhase = 0 ∧ t.clk.sub = 0 ∧
    t.clk.offset = 0 ∧ t.clk.change = none ∧ t.clk.nextMidnight = none ∧ t.clk.dues = [] ∧
    t.gst.recs = [] ∧
    t.bkt.bookings = [] ∧ t.bkt.history = [] ∧ t.bkt.defPriority = 4 ∧ t.bkt.defPrePad = 120 ∧
    t.bkt.defPostPad = 300 ∧
    t.lst.insts = [] ∧ t.lst.nextId = 1 ∧ t.lst.terminalOrder = [] ∧ t.lst.earliest = none ∧
    t.pln.passState = .idle ∧ t.pln.dirty = false ∧ t.pln.again = false ∧ t.pln.generation = 0 ∧
    t.pln.clashes = [] ∧ t.pln.snapshot = none ∧
    (∀ u : Tuner, (tunerRun u t).mux = none ∧ (tunerRun u t).active = [] ∧ (tunerRun u t).mon = .off ∧
      (tunerRun u t).tol = 0 ∧ (tunerRun u t).drop = none ∧ (tunerRun u t).grace = none) ∧
    t.run.claims = [] ∧ t.run.gapTol = 20 ∧ t.run.abandonLimit = 120 ∧ t.run.overrunLimit = 10800 ∧
    (∀ b : BankId, (bankAt b t.cnd).held = none ∧ (bankAt b t.cnd).overflow = false ∧
      (bankAt b t.cnd).further = 0 ∧
      (bankAt b t.cnd).mask = { soft := false, deferred := false, hard := false } ∧
      (bankAt b t.cnd).enable = { soft := false, deferred := true, hard := true }) ∧
    (∀ u : Tuner, gapAt u t.cnd = { count := 0, threshold := 0, armed := true }) ∧
    t.wsv = { host := .waking, attempts := 1, reason := .powerOn, silentFloor := none, standbyWanted := false,
              keepCode := some 4, wakeLead := 120, causes := { powerOn := true, warm := false, cold := false },
              wakeOut := true, resetOut := false } ∧
    t.clk.delays = [{ kind := .wakeTimeout, left := 180 * 163840 }] ∧
    t.lnk.rx.rstate = .hunt ∧ t.lnk.inHand = 0 ∧ t.lnk.tx = [] ∧ t.lnk.held = [] ∧ t.lnk.notices = [] ∧
    t.lnk.overflow = false ∧ t.lnk.actionSet = [] ∧ t.lnk.attn = false

/-- The keepalive delay that a COLD or WARM reset starts (R194). -/
def keepaliveAfterReset (code : Option Nat) : List DelayReq :=
  match code with
  | some n => [{ kind := .keepalive, left := 5 * 2 ^ n * Config.unitsPerSecond }]
  | none => []

/-- A WARM reset that has been requested and whose reply has been sent keeps bookings, history, settings and clock,
empties the guide, the instances, the plan and the link, and asks for a pass when a booking remains. A COLD reset keeps
the clock and nothing else of the schedule and settings. Without such a request the two commands do nothing (the model's
reading, log entry 31). The empty assembly buffer and the low lock inputs after a reset, which no rule gives, are the
model's choice (log entry 16). -/
def Obligations.ResetsKeepWhatTheirRulesKeep : Prop :=
  (∀ s : State, s.lnk.reset = .due .warm →
    let kept := s.bkt.bookings.filter (fun b => b.bstate != .spent)
    exec .warmReset s = .next (askPassIf (!kept.isEmpty)
      { clk := { s.clk with dues := [], delays := keepaliveAfterReset s.wsv.keepCode }
        gst := { recs := [] }
        bkt := { s.bkt with bookings := kept }
        lst := { insts := [], nextId := 1, terminalOrder := [], earliest := none }
        pln := { passState := .idle, dirty := false, again := false, generation := 0, snapshot := none,
                 clashes := [], clashMore := false }
        run := { tunerA := idleTuner, tunerB := idleTuner, claims := [], gapTol := s.run.gapTol,
                 abandonLimit := s.run.abandonLimit, overrunLimit := s.run.overrunLimit }
        cnd := { tunerA := { s.cnd.tunerA with held := none, overflow := false, further := 0 }
                 tunerB := { s.cnd.tunerB with held := none, overflow := false, further := 0 }
                 plan := { s.cnd.plan with held := none, overflow := false, further := 0 }
                 wake := { s.cnd.wake with held := none, overflow := false, further := 0 }
                 clock := { s.cnd.clock with held := none, overflow := false, further := 0 }
                 gapA := { s.cnd.gapA with count := 0, armed := true }
                 gapB := { s.cnd.gapB with count := 0, armed := true } }
        wsv := { host := .awake, attempts := 0, reason := .none, silentFloor := none, standbyWanted := false,
                 keepCode := s.wsv.keepCode, wakeLead := s.wsv.wakeLead,
                 causes := { s.wsv.causes with warm := true }, wakeOut := false, resetOut := false }
        lnk := { rx := idleRx, inHand := 0, tx := [], held := [], notices := [], overflow := false,
                 actionSet := [], attn := false, reset := .none, txd := s.lnk.txd }
        free := s.free
        pending := s.pending })) ∧
  (∀ s : State, s.lnk.reset ≠ .due .warm → exec .warmReset s = .next s) ∧
  (∀ s : State, s.lnk.reset = .due .cold →
    exec .coldReset s = .next
      { clk := { s.clk with dues := [], delays := [{ kind := .keepalive, left := 80 * Config.unitsPerSecond }] }
        gst := { recs := [] }
        bkt := { bookings := [], history := [], defPriority := 4, defPrePad := 120, defPostPad := 300 }
        lst := { insts := [], nextId := 1, terminalOrder := [], earliest := none }
        pln := { passState := .idle, dirty := false, again := false, generation := 0, snapshot := none,
                 clashes := [], clashMore := false }
        run := { tunerA := idleTuner, tunerB := idleTuner, claims := [], gapTol := 20, abandonLimit := 120,
                 overrunLimit := 10800 }
        cnd := { tunerA := freshBank, tunerB := freshBank, plan := freshBank, wake := freshBank,
                 clock := freshBank, gapA := freshGap, gapB := freshGap }
        wsv := { host := .awake, attempts := 0, reason := .none, silentFloor := none, standbyWanted := false,
                 keepCode := some 4, wakeLead := 120, causes := { s.wsv.causes with cold := true },
                 wakeOut := false, resetOut := false }
        lnk := { rx := idleRx, inHand := 0, tx := [], held := [], notices := [], overflow := false,
                 actionSet := [], attn := false, reset := .none, txd := s.lnk.txd }
        free := s.free
        pending := s.pending }) ∧
  (∀ s : State, s.lnk.reset ≠ .due .cold → exec .coldReset s = .next s)

/-! ## The Clock Unit -/

/-- A crystal second changes the Clock Unit alone: the sub-second phase is 0, every delay has run on to the end of the
second (R4; the model's choice, log entry 4), and the count moves as R1 and R9 state; when it moves, the requests reached
are delivered (R3), a rollover is raised when a midnight has been passed (R14) and the offset-change event when the change
time has (R15). That these events wait, marked, to be taken as commands of their own is the model's choice (log entry
3). -/
def Obligations.CrystalSecondMovesTheCount : Prop :=
  ∀ s : State, ∃ t, exec .crystalSecond s = .next t ∧
    t = { s with clk := t.clk } ∧
    t.clk.sub = 0 ∧ t.clk.offset = s.clk.offset ∧ t.clk.change = s.clk.change ∧
    t.clk.nextMidnight = s.clk.nextMidnight ∧
    t.clk.delays = s.clk.delays.map (fun d => { d with left := d.left - (Config.unitsPerSecond - s.clk.sub) }) ∧
    (s.clk.cstate = .unset → t.clk.count = s.clk.count ∧ t.clk.cstate = .unset ∧ t.clk.dues = s.clk.dues ∧
      t.clk.slewRem = s.clk.slewRem ∧ t.clk.rollovers = s.clk.rollovers) ∧
    (s.clk.cstate = .running → t.clk.count = min 4294967295 (s.clk.count + 1) ∧ t.clk.cstate = .running ∧
      t.clk.slewRem = s.clk.slewRem) ∧
    (s.clk.cstate = .slewing → s.clk.slewPhase < 9 → t.clk.count = min 4294967295 (s.clk.count + 1) ∧
      t.clk.slewPhase = s.clk.slewPhase + 1 ∧ t.clk.slewRem = s.clk.slewRem ∧ t.clk.cstate = .slewing) ∧
    (s.clk.cstate = .slewing → 9 ≤ s.clk.slewPhase → 0 < s.clk.slewRem →
      t.clk.count = min 4294967295 (s.clk.count + 2) ∧ t.clk.slewPhase = 0 ∧ t.clk.slewRem = s.clk.slewRem - 1 ∧
      t.clk.cstate = (if s.clk.slewRem = 1 then .running else .slewing)) ∧
    (s.clk.cstate = .slewing → 9 ≤ s.clk.slewPhase → s.clk.slewRem < 0 →
      t.clk.count = s.clk.count ∧ t.clk.slewPhase = 0 ∧ t.clk.slewRem = s.clk.slewRem + 1 ∧
      t.clk.cstate = (if s.clk.slewRem = -1 then .running else .slewing)) ∧
    (s.clk.cstate = .running ∨ (s.clk.cstate = .slewing ∧ (s.clk.slewPhase < 9 ∨ 0 < s.clk.slewRem)) →
      t.clk.dues = s.clk.dues.map (fun d => { d with delivered := d.delivered || decide (d.time ≤ t.clk.count) }) ∧
      t.clk.rollovers =
        (if s.clk.count / 86400 < t.clk.count / 86400 then s.clk.rollovers + 1 else s.clk.rollovers) ∧
      (∀ ch ∈ s.clk.change, t.clk.changeDue = (s.clk.changeDue || decide (ch.time ≤ t.clk.count))))

/-- The SOFT condition OFFSET_CHANGED of the CLOCK bank (R10, R15). -/
def offsetChanged : Condition :=
  { bank := .clock, cls := .soft, code := .offsetChanged, iid := none, booking := none }

/-- A raised day rollover is taken: the next midnight is requested, the ended records that no pin holds leave the
guide (R32), and the Planner is asked for a pass (R14); nothing else changes. The offset-change event: the new offset
comes into force, the pending change is gone, OFFSET_CHANGED is submitted when the offset differs, and in either case a
pass is asked for (R15). An event that has not been raised or has not fallen due does nothing (the model's choice, log
entry 2). -/
def Obligations.RolloverAndOffsetChangeAreTaken : Prop :=
  (∀ s : State, Settled s → GuideKept s → NoOverrun s → 0 < s.clk.rollovers →
    ∃ t, exec .dayRollover s = .next t ∧
      t.clk = { s.clk with rollovers := s.clk.rollovers - 1
                           nextMidnight := some ((s.clk.count / 86400 + 1) * 86400) } ∧
      t.gst.recs = s.gst.recs.filter (fun r => !(decide (r.start + r.dur ≤ s.clk.count) && r.pins == 0)) ∧
      (s.pln.passState = .idle → s.clk.cstate ≠ .unset → t.pln.passState = .pass ∧ t.pln.dirty = false) ∧
      (s.pln.passState = .idle → s.clk.cstate = .unset → t.pln.passState = .idle ∧ t.pln.dirty = true) ∧
      (s.pln.passState = .pass → t.pln = { s.pln with again := true }) ∧
      t.bkt = s.bkt ∧ t.lst = s.lst ∧ t.run = s.run ∧ t.cnd = s.cnd ∧ t.wsv = s.wsv ∧ t.lnk = s.lnk) ∧
  (∀ s : State, s.clk.rollovers = 0 → exec .dayRollover s = .next s) ∧
  (∀ (s : State) (ch : OffsetChange), Settled s → s.clk.changeDue = true → s.clk.change = some ch →
    let s1 : State := { s with clk := { s.clk with offset := ch.offset, change := none, changeDue := false } }
    exec .offsetChange s = .next (askPass (withAttn (if ch.offset = s.clk.offset then s1 else submit offsetChanged s1)))) ∧
  (∀ s : State, s.clk.changeDue = false → exec .offsetChange s = .next s)

/-- The SOFT condition TIME_STEPPED of the CLOCK bank (R7). -/
def timeStepped : Condition := { bank := .clock, cls := .soft, code := .timeStepped, iid := none, booking := none }

/-- TIME_SET: the change time is judged first (R5); then the count is set, stepped or slewed (R6 to R8), and the offset
and the pending change are replaced in form (R5, R10). A first setting and a forward step deliver the requests reached
(R3, R6, R7), and a forward step past a midnight raises one rollover (R14). A step submits TIME_STEPPED and a change of
the offset OFFSET_CHANGED, both at the count set; when both are submitted, in either order (R10). That the requests
reached and the rollover wait, marked, to be taken as commands of their own, and that a backward step leaves the marks
as they stand, is the model's choice (log entry 3). The second part is about a TIME_SET that does not reach the change
that was pending, and a TIME_SET that reaches it is left out. -/
def Obligations.TimeSetSetsStepsOrSlews : Prop :=
  ∀ (s : State) (tag : Byte) (p : List Byte) (m : TimeSetMsg), Settled s → Takes p s → parseAll pTimeSet p = .ok m →
    (∀ ch, m.change = some ch → ch.time ≤ m.time →
      exec (.timeSet tag p) s = .next (answered 0x10 tag p (refusalTo 0x10 tag .badField) s)) ∧
    ((∀ ch ∈ m.change, m.time < ch.time) → s.clk.changeDue = false →
      (∀ ch ∈ s.clk.change, m.time < ch.time ∧ s.clk.count < ch.time) →
      let form := fun (o : Int) => max (-50400) (min 50400 (Int.tdiv o 900 * 900))
      let change := m.change.map (fun ch => { ch with offset := form ch.offset })
      let diff : Int := Int.ofNat m.time - Int.ofNat s.clk.count
      let big := s.clk.cstate = .unset ∨ 2 < diff.natAbs
      let step := s.clk.cstate ≠ .unset ∧ 2 < diff.natAbs
      let reached := fun (c : Nat) =>
        s.clk.dues.map (fun d => { d with delivered := d.delivered || decide (d.time ≤ c) })
      let moved := fun (t : State) => { s with clk := { s.clk with count := t.clk.count } }
      ∃ t, exec (.timeSet tag p) s = .next t ∧
        (big → t.clk.count = m.time ∧ t.clk.sub = 0 ∧ t.clk.cstate = .running ∧ t.clk.slewRem = 0) ∧
        (¬ big → t.clk.count = s.clk.count ∧ t.clk.sub = s.clk.sub ∧ t.clk.slewRem = diff ∧
          t.clk.cstate = (if diff = 0 then .running else .slewing) ∧ (diff ≠ 0 → t.clk.slewPhase = 0)) ∧
        (s.clk.cstate = .unset → t.clk.nextMidnight = some ((m.time / 86400 + 1) * 86400) ∧
          t.clk.rollovers = s.clk.rollovers ∧ t.clk.dues = reached m.time) ∧
        (step → s.clk.count < m.time → t.clk.nextMidnight = s.clk.nextMidnight ∧ t.clk.dues = reached m.time ∧
          t.clk.rollovers =
            (if s.clk.count / 86400 < m.time / 86400 then s.clk.rollovers + 1 else s.clk.rollovers)) ∧
        (step → m.time < s.clk.count → t.clk.nextMidnight = some ((m.time / 86400 + 1) * 86400) ∧
          t.clk.dues = s.clk.dues ∧ t.clk.rollovers = s.clk.rollovers) ∧
        (¬ big → t.clk.nextMidnight = s.clk.nextMidnight ∧ t.clk.dues = s.clk.dues ∧
          t.clk.rollovers = s.clk.rollovers) ∧
        (step → form m.offset = s.clk.offset → t.cnd = (submit timeStepped (moved t)).cnd) ∧
        (¬ step → form m.offset ≠ s.clk.offset → t.cnd = (submit offsetChanged (moved t)).cnd) ∧
        (step → form m.offset ≠ s.clk.offset → t.cnd = (submit timeStepped (submit offsetChanged (moved t))).cnd ∨
          t.cnd = (submit offsetChanged (submit timeStepped (moved t))).cnd) ∧
        t.clk.offset = form m.offset ∧ t.clk.change = change ∧
        t.clk.delays = freshKeepalive s ∧
        t.lnk.tx = s.lnk.tx ++ [replyTo 0x10 tag .ok
          (decide (form m.offset ≠ m.offset) || decide (change ≠ m.change))
          (.timeSet
            (if s.clk.cstate = .unset then .set else if 2 < diff.natAbs then .stepped
              else if diff = 0 then .unchanged else .slewing)
            t.clk.count t.clk.cstate)] ∧
        t.gst = s.gst ∧ t.bkt = s.bkt ∧ t.lst = s.lst ∧ t.run = s.run ∧
        t.wsv = { s.wsv with standbyWanted := t.wsv.standbyWanted } ∧
        (s.clk.cstate = .unset ∨ 2 < diff.natAbs ∨ form m.offset ≠ s.clk.offset ∨ change ≠ s.clk.change → PassAsked s t) ∧
        (s.clk.cstate ≠ .unset → diff.natAbs ≤ 2 → form m.offset = s.clk.offset → change = s.clk.change →
          t.pln = s.pln ∧ t.cnd = s.cnd))

/-! ## Reading: nothing changes but the frames in hand, the keepalive and the reply -/

/-- TIME_GET and the two forms of GUIDE_GET (R11, R12, R33). -/
def Obligations.ClockAndGuideReads : Prop :=
  (∀ (s : State) (tag : Byte), Takes [] s →
    exec (.timeGet tag []) s = .next (answered 0x11 tag [] (okTo 0x11 tag
      (.timeGet s.clk.count s.clk.cstate s.clk.slewRem s.clk.offset s.clk.change (s.clk.count / 86400)
        (Int.fdiv (Int.ofNat s.clk.count + s.clk.offset) 86400))) s)) ∧
  (∀ (s : State) (tag : Byte), Takes [] s →
    exec (.guideGetSummary tag []) s = .next (answered 0x1B tag [] (okTo 0x1B tag
      (.guideSummary s.gst.recs.length (3072 - s.gst.recs.length)
        (s.gst.recs.filter (fun r => decide (0 < r.pins))).length
        (s.gst.recs.head?.bind (fun a => s.gst.recs.getLast?.map (fun b => (a.start, b.start)))))) s)) ∧
  (∀ (s : State) (tag : Byte) (p : List Byte) (k : EventKey), Takes p s → parseAll pKey p = .ok k →
    (∀ r, recOf k s.gst.recs = some r →
      exec (.guideGetEvent tag p) s = .next (answered 0x1B tag p (okTo 0x1B tag (.guideRec r)) s)) ∧
    (recOf k s.gst.recs = none →
      exec (.guideGetEvent tag p) s = .next (answered 0x1B tag p (refusalTo 0x1B tag .notFound) s)))

/-- The recordings of a booking whose state a test selects. -/
def countOf (bid : Nat) (f : InstState → Bool) (s : State) : Nat :=
  (s.lst.insts.filter (fun i => i.booking == bid && f i.state)).length

/-- BOOK_GET, BOOK_LIST and HISTORY_GET (R51, R56). That the next id to ask for in a BOOK_LIST reply is the id of the
first booking held after the last one returned is the model's choice (log entry 65); R51 says only when the reply carries
one. That a HISTORY_GET reads a page of six places of the history, of which it returns the entries of the series named,
with the next index behind the page, is the model's reading (log entry 27); its first index is that of the first entry
returned, and the index asked where none is returned. -/
def Obligations.BookingAndHistoryReads : Prop :=
  (∀ (s : State) (tag : Byte) (p : List Byte) (n : Nat), Takes p s → parseAll pU8 p = .ok n →
    (∀ b, findBooking n s = some b →
      exec (.bookGet tag p) s = .next (answered 0x27 tag p (okTo 0x27 tag
        (.booking b (countOf b.id (fun st => !isTerminal st) s) (countOf b.id isTerminal s))) s)) ∧
    (findBooking n s = none →
      exec (.bookGet tag p) s = .next (answered 0x27 tag p (refusalTo 0x27 tag .notFound) s))) ∧
  (∀ (s : State) (tag : Byte) (p : List Byte) (n : Nat), Takes p s → parseAll pU8 p = .ok n →
    (n = 0 ∨ 128 < n →
      exec (.bookList tag p) s = .next (answered 0x28 tag p (refusalTo 0x28 tag .badField) s)) ∧
    (1 ≤ n → n ≤ 128 →
      let found := s.bkt.bookings.filter (fun b => decide (n ≤ b.id))
      exec (.bookList tag p) s = .next (answered 0x28 tag p (okTo 0x28 tag
        (.bookList s.bkt.bookings.length
          ((found.take 32).map (fun b =>
            { id := b.id, part := b.part, bstate := b.bstate, priority := b.priority
              nonTerminal := countOf b.id (fun st => !isTerminal st) s, terminal := countOf b.id isTerminal s }))
          ((found.drop 32).head?.map (fun b => b.id)))) s))) ∧
  (∀ (s : State) (tag : Byte) (p : List Byte) (n : Nat) (r : Option Ref), Takes p s →
    parseAll pHistGet p = .ok (n, r) →
    (s.bkt.history.length < n →
      exec (.historyGet tag p) s = .next (answered 0x2E tag p (refusalTo 0x2E tag .badField) s)) ∧
    (n ≤ s.bkt.history.length →
      let page := (s.bkt.history.drop n).take 6
      let shown := fun (e : HistEntry) => r.all (fun x => e.series == x)
      exec (.historyGet tag p) s = .next (answered 0x2E tag p (okTo 0x2E tag
        (.historyGet s.bkt.history.length
          (if page.any shown then n + (page.takeWhile (fun e => !shown e)).length else n)
          (page.filter shown)
          (if n + 6 < s.bkt.history.length then some (n + 6) else none))) s)))

/-- A bank as COND_READ reports it: a tuner's with its gap counter (R175). -/
def bankView (s : State) : BankId → BankView
  | .tunerA => { id := .tunerA, bank := s.cnd.tunerA, gap := some s.cnd.gapA }
  | .tunerB => { id := .tunerB, bank := s.cnd.tunerB, gap := some s.cnd.gapB }
  | .plan => { id := .plan, bank := s.cnd.plan, gap := none }
  | .wake => { id := .wake, bank := s.cnd.wake, gap := none }
  | .clock => { id := .clock, bank := s.cnd.clock, gap := none }

/-- INSTANCE_GET, ACTIONS_GET, COND_READ and CONFIG_GET (R89, R205, R175, R207). The refusal of INSTANCE_GET carries
AGAIN_PENDING as its replies do (R200; the model's reading, log entry 44). -/
def Obligations.InstanceActionLogAndSettingReads : Prop :=
  (∀ (s : State) (tag : Byte) (p : List Byte) (n : Nat), Takes p s → parseAll pU16 p = .ok n →
    (∀ i, findInst n s = some i →
      exec (.instanceGet tag p) s = .next (answered 0x30 tag p
        { okTo 0x30 tag (.recording i s.pln.generation) with againPending := s.pln.again } s)) ∧
    (findInst n s = none →
      exec (.instanceGet tag p) s = .next (answered 0x30 tag p
        { refusalTo 0x30 tag .notFound with againPending := s.pln.again } s))) ∧
  (∀ (s : State) (tag : Byte), Takes [] s →
    let held := s.lnk.actionSet.filterMap (fun k => findInst k s)
    exec (.actionsGet tag []) s = .next (answered 0x09 tag [] (okTo 0x09 tag (.actions
      ((held.filter (fun i => i.state == .stopping)).map (fun i =>
        { isStop := true, iid := i.id, tuner := i.tuner, mux := i.mux, service := i.service
          stopReason := i.stopReason }) ++
      (held.filter (fun i => i.state == .starting)).map (fun i =>
        { isStop := false, iid := i.id, tuner := i.tuner, mux := i.mux, service := i.service
          stopReason := none })))) s)) ∧
  (∀ (s : State) (tag b : Byte), Takes [b] s →
    (b = 255 → exec (.condRead tag [b]) s = .next (answered 0x40 tag [b] (okTo 0x40 tag (.condRead
      [bankView s .tunerA, bankView s .tunerB, bankView s .plan, bankView s .wake, bankView s .clock])) s)) ∧
    (∀ k : BankId, b.toNat = bankNum k → exec (.condRead tag [b]) s =
      .next (answered 0x40 tag [b] (okTo 0x40 tag (.condRead [bankView s k])) s)) ∧
    (5 ≤ b.toNat → b ≠ 255 →
      exec (.condRead tag [b]) s = .next (answered 0x40 tag [b] (refusalTo 0x40 tag .badField) s))) ∧
  (∀ (s : State) (tag : Byte), Takes [] s →
    exec (.configGet tag []) s = .next (answered 0x0B tag [] (okTo 0x0B tag (.settings
      [(1, s.bkt.defPriority), (2, s.bkt.defPrePad), (3, s.bkt.defPostPad), (4, s.wsv.wakeLead),
       (5, s.wsv.keepCode.getD 255), (6, s.run.gapTol), (7, s.run.abandonLimit), (8, s.run.overrunLimit)])) s))

/-- The state with a query behind those that are held (R113). -/
def withHeld (q : HeldQuery) (s : State) : State := { s with lnk := { s.lnk with held := s.lnk.held ++ [q] } }

/-- PLAN_GET and CLASH_GET: refused while the clock is UNSET, answered at once while IDLE, held during a pass while
fewer than four are held, and refused with BUSY when four are (R90, R91, R113, R137). The refusals carry AGAIN_PENDING as
the replies do (R200; the model's reading, log entry 44), and CLOCK_UNSET comes before BAD_FIELD where a query fails both
(the model's choice, log entry 13). -/
def Obligations.PlanQueriesAnsweredHeldOrBusy : Prop :=
  (∀ (s : State) (tag : Byte) (p : List Byte) (a b n : Nat), Takes p s → parseAll pPlanGet p = .ok (a, b, n) →
    let found := sortBy selectionLt (s.lst.insts.filter (selectedBy a b))
    (s.clk.cstate = .unset →
      exec (.planGet tag p) s = .next (answered 0x31 tag p
        { refusalTo 0x31 tag .clockUnset with againPending := s.pln.again } s)) ∧
    (s.clk.cstate ≠ .unset → b ≤ a →
      exec (.planGet tag p) s = .next (answered 0x31 tag p
        { refusalTo 0x31 tag .badField with againPending := s.pln.again } s)) ∧
    (s.clk.cstate ≠ .unset → a < b → s.pln.passState = .idle → n ≤ found.length →
      exec (.planGet tag p) s = .next (answered 0x31 tag p { okTo 0x31 tag
        (.plan s.pln.generation found.length n (if n + 24 < found.length then some (n + 24) else none)
          ((found.drop n).take 24)) with againPending := s.pln.again } s)) ∧
    (s.clk.cstate ≠ .unset → a < b → s.pln.passState = .idle → found.length < n →
      exec (.planGet tag p) s = .next (answered 0x31 tag p
        { refusalTo 0x31 tag .badField with againPending := s.pln.again } s)) ∧
    (s.clk.cstate ≠ .unset → a < b → s.pln.passState = .pass → s.lnk.held.length < 4 →
      exec (.planGet tag p) s = .next (withHeld { tag := tag, query := .plan a b n } (withFrame 0x31 tag p s))) ∧
    (s.clk.cstate ≠ .unset → a < b → s.pln.passState = .pass → 4 ≤ s.lnk.held.length →
      exec (.planGet tag p) s = .next (answered 0x31 tag p
        { refusalTo 0x31 tag .busy with againPending := s.pln.again } s))) ∧
  (∀ (s : State) (tag : Byte) (p : List Byte) (n : Nat), Takes p s → parseAll pU8 p = .ok n →
    let cs := s.pln.clashes
    (s.clk.cstate = .unset →
      exec (.clashGet tag p) s = .next (answered 0x33 tag p
        { refusalTo 0x33 tag .clockUnset with againPending := s.pln.again } s)) ∧
    (s.clk.cstate ≠ .unset → cs.length < n →
      exec (.clashGet tag p) s = .next (answered 0x33 tag p
        { refusalTo 0x33 tag .badField with againPending := s.pln.again } s)) ∧
    (s.clk.cstate ≠ .unset → n ≤ cs.length → s.pln.passState = .idle →
      exec (.clashGet tag p) s = .next (answered 0x33 tag p { okTo 0x33 tag
        (.clashes s.pln.generation cs.length s.pln.clashMore n ((cs.drop n).take 6)
          (if n + 6 < cs.length then some (n + 6) else none)) with againPending := s.pln.again } s)) ∧
    (s.clk.cstate ≠ .unset → n ≤ cs.length → s.pln.passState = .pass → s.lnk.held.length < 4 →
      exec (.clashGet tag p) s = .next (withHeld { tag := tag, query := .clash n } (withFrame 0x33 tag p s))) ∧
    (s.clk.cstate ≠ .unset → n ≤ cs.length → s.pln.passState = .pass → 4 ≤ s.lnk.held.length →
      exec (.clashGet tag p) s = .next (answered 0x33 tag p
        { refusalTo 0x33 tag .busy with againPending := s.pln.again } s)))

/-! ## The Guide Store -/

/-- The state with other guide records. -/
def withRecs (recs : List GuideRec) (s : State) : State := { s with gst := { recs := recs } }

/-- GUIDE_PUT of one entry (R21 to R27), while no recording overruns: refused while the clock is UNSET; ignored when a
test of R22 holds; inserted, with its pins counted; or the record of its key replaced, keeping its pins; and in a full
store dealt with by capacity eviction. A pass is asked for when the change is relevant: by a condition of R27, or because
an airing enters, by an insertion or by a replacement of a record that was none of the episode before, that a booking
with nothing to record waits for (R62: no recordings, its source not eligible, no later eligible airing held; that R62 adds
to R27's four conditions, and at what moment the wait is judged, is the model's reading, log entry 57). -/
def Obligations.GuidePutIgnoresInsertsOrReplaces : Prop :=
  ∀ (s : State) (tag : Byte) (p : List Byte) (e : GuideEntry), Settled s → NoOverrun s → Takes p s →
    parseAll pGuidePut p = .ok [e] → (∀ n ∈ e.status, n < 5) →
    let status := e.status.bind runStatusOf
    (s.clk.cstate = .unset →
      exec (.guidePut tag p) s = .next (answered 0x18 tag p (refusalTo 0x18 tag .clockUnset) s)) ∧
    (s.clk.cstate ≠ .unset → entryIgnored s.clk.count e = true →
      exec (.guidePut tag p) s = .next (answered 0x18 tag p
        (okTo 0x18 tag (.guidePut 0 0 0 1 s.gst.recs.length)) s)) ∧
    (s.clk.cstate ≠ .unset → entryIgnored s.clk.count e = false → recOf e.key s.gst.recs = none →
      s.gst.recs.length < 3072 →
      let r : GuideRec := { key := e.key, mux := e.mux, start := e.start, dur := e.dur, series := e.series
                            episode := e.episode, status := status.getD .undefined
                            pins := (s.lst.insts.filter (fun i => !isTerminal i.state &&
                              (i.origin == .event e.key || i.alts.contains e.key))).length }
      exec (.guidePut tag p) s = .next (askPassIf (relevantEntry s r) (answered 0x18 tag p
        (okTo 0x18 tag (.guidePut 1 0 0 0 (s.gst.recs.length + 1)))
        (withRecs (insertBy recLt r s.gst.recs) s)))) ∧
    (∀ old, s.clk.cstate ≠ .unset → entryIgnored s.clk.count e = false → recOf e.key s.gst.recs = some old →
      let r : GuideRec := { old with mux := e.mux, start := e.start, dur := e.dur, series := e.series
                                     episode := e.episode, status := status.getD old.status }
      let recs := insertBy recLt r (s.gst.recs.filter (fun x => x.key != e.key))
      exec (.guidePut tag p) s = .next (askPassIf
        (decide ((r.mux, r.start, r.dur, r.series, r.episode) ≠ (old.mux, old.start, old.dur, old.series, old.episode))
          && relevantChange s old r)
        (answered 0x18 tag p (okTo 0x18 tag (.guidePut 0 1 0 0 recs.length)) (withRecs recs s)))) ∧
    (∀ v, s.clk.cstate ≠ .unset → entryIgnored s.clk.count e = false → recOf e.key s.gst.recs = none →
      3072 ≤ s.gst.recs.length → latestUnpinned s.gst.recs = some v →
      let r : GuideRec := { key := e.key, mux := e.mux, start := e.start, dur := e.dur, series := e.series
                            episode := e.episode, status := status.getD .undefined
                            pins := (s.lst.insts.filter (fun i => !isTerminal i.state &&
                              (i.origin == .event e.key || i.alts.contains e.key))).length }
      let kept := s.gst.recs.filter (fun x => x.key != v.key)
      let recs := insertBy recLt r kept
      (v.start ≤ e.start → exec (.guidePut tag p) s = .next (answered 0x18 tag p
        (okTo 0x18 tag (.guidePut 0 0 0 1 s.gst.recs.length)) s)) ∧
      (e.start < v.start → exec (.guidePut tag p) s = .next (askPassIf
        (relevantRec s v || relevantEntry (withRecs kept s) r)
        (answered 0x18 tag p (okTo 0x18 tag (.guidePut 1 0 1 0 recs.length)) (withRecs recs s)))))

/-- GUIDE_DROP of one key and of one service (R27, R29, R30), while no recording overruns. -/
def Obligations.GuideDropRemovesAndAsks : Prop :=
  (∀ (s : State) (tag : Byte) (p : List Byte) (k : EventKey), Settled s → NoOverrun s → Takes p s →
    parseAll pGuideDrop p = .ok (.keys [k]) →
    let recs := s.gst.recs.filter (fun x => x.key != k)
    (∀ r, recOf k s.gst.recs = some r →
      exec (.guideDropKeys tag p) s = .next (askPassIf (relevantRec s r) (answered 0x19 tag p
        (okTo 0x19 tag (.guideDrop 1 0 recs.length)) (withRecs recs s)))) ∧
    (recOf k s.gst.recs = none →
      exec (.guideDropKeys tag p) s = .next (answered 0x19 tag p
        (okTo 0x19 tag (.guideDrop 0 1 s.gst.recs.length)) s))) ∧
  (∀ (s : State) (tag : Byte) (p : List Byte) (v : Nat), Settled s → NoOverrun s → Takes p s →
    parseAll pGuideDrop p = .ok (.service v) →
    let gone := s.gst.recs.filter (fun x => x.key.service == v)
    let recs := s.gst.recs.filter (fun x => x.key.service != v)
    (v ≠ 0 → exec (.guideDropService tag p) s = .next (askPassIf (gone.any (relevantRec s)) (answered 0x19 tag p
        (okTo 0x19 tag (.guideDrop gone.length 0 recs.length)) (withRecs recs s)))) ∧
    (v = 0 → exec (.guideDropService tag p) s = .next (answered 0x19 tag p (refusalTo 0x19 tag .badField) s)))

/-- EVENT_STATUS (R31), while no recording overruns: the record of the key takes the status, the reply carries the one
held before, and no pass is asked for; an undefined status or an unknown key changes nothing. That an undefined status
with an unknown key is refused with BAD_FIELD is the model's choice (log entry 13). -/
def Obligations.EventStatusSetsTheStatus : Prop :=
  ∀ (s : State) (tag : Byte) (p : List Byte) (k : EventKey) (n : Nat), Settled s → NoOverrun s → Takes p s →
    parseAll pEventStatus p = .ok (k, n) →
    (5 ≤ n → exec (.eventStatus tag p) s = .next (answered 0x1A tag p (refusalTo 0x1A tag .badField) s)) ∧
    (n < 5 → recOf k s.gst.recs = none →
      exec (.eventStatus tag p) s = .next (answered 0x1A tag p (refusalTo 0x1A tag .notFound) s)) ∧
    (∀ st r, runStatusNum st = n → recOf k s.gst.recs = some r →
      exec (.eventStatus tag p) s = .next (answered 0x1A tag p (okTo 0x1A tag (.runStatus r.status))
        (withRecs (s.gst.recs.map (fun x => if x.key = k then { x with status := st } else x)) s)))

/-! ## The Booking Table and the episode history -/

/-- The record an add command makes (R37, R39). -/
def madeBooking (n : Nat) (part : BookingPart) (c : CommonMsg) (t : BookingTable) : Booking :=
  { id := n, part := part, bstate := .active
    priority := (c.priority.map (fun v => max 1 (min 7 v))).getD t.defPriority
    prePad := (c.prePad.map (fun v => min 3600 v)).getD t.defPrePad
    postPad := (c.postPad.map (fun v => min 7200 v)).getD t.defPostPad
    follow := c.follow.getD false
    minFraction := (c.minFraction.map (fun v => max 100 (min 1000 v))).getD 500 }

/-- A common field is outside its range (R37). -/
def outOfRange (c : CommonMsg) : Bool :=
  c.priority.any (fun v => v == 0 || decide (7 < v)) || c.prePad.any (fun v => decide (3600 < v)) ||
    c.postPad.any (fun v => decide (7200 < v)) || c.minFraction.any (fun v => decide (v < 100) || decide (1000 < v))

/-- What an add command that has passed its own checks does (R39): EXISTS with the id of the booking it would
duplicate, FULL, or the booking made under the lowest free id, a pass asked for. -/
def Added (kind tag : Byte) (p : List Byte) (c : Instr) (dup : Option Booking) (part : BookingPart) (m : CommonMsg)
    (s : State) : Prop :=
  (∀ b, dup = some b →
    exec c s = .next (answered kind tag p (replyTo kind tag .alreadyExists false (.bookingId b.id)) s)) ∧
  (dup = none → lowestFree s = none → exec c s = .next (answered kind tag p (refusalTo kind tag .full) s)) ∧
  (∀ n, dup = none → lowestFree s = some n →
    exec c s = .next (askPass (answered kind tag p (replyTo kind tag .ok (outOfRange m) (.bookingId n))
      { s with bkt := { s.bkt with bookings := insertBy bookingLt (madeBooking n part m s.bkt) s.bkt.bookings } })))

/-- A MANUAL kind part that passes the tests of R42. -/
abbrev GoodManual (m : ManualPart) : Prop :=
  1 ≤ m.service ∧ 1 ≤ m.mux ∧ m.t0 < 86400 ∧ 60 ≤ m.dur ∧ m.dur ≤ 86400 ∧ m.mask ≠ 0 ∧ m.mask.toNat < 128 ∧
    -1 ≤ m.firstDay ∧ m.firstDay ≤ 49710 ∧ ∀ d ∈ m.lastDay, -1 ≤ d ∧ d ≤ 49710 ∧ m.firstDay ≤ d

/-- BOOK_EVENT, BOOK_SERIES and BOOK_MANUAL (R37, R39 to R42). -/
def Obligations.AddCommandsBook : Prop :=
  (∀ (s : State) (tag : Byte) (p : List Byte) (k : EventKey) (m : CommonMsg), Settled s → Takes p s →
    parseAll pBookEvent p = .ok (k, m) →
    (k.service = 0 → exec (.bookEvent tag p) s = .next (answered 0x20 tag p (refusalTo 0x20 tag .badField) s)) ∧
    (k.service ≠ 0 → recOf k s.gst.recs = none →
      exec (.bookEvent tag p) s = .next (answered 0x20 tag p (refusalTo 0x20 tag .notFound) s)) ∧
    (∀ r, k.service ≠ 0 → recOf k s.gst.recs = some r →
      Added 0x20 tag p (.bookEvent tag p) (bookingOfKey k s)
        (.event k { mux := r.mux, start := r.start, dur := r.dur, series := r.series, episode := r.episode } false)
        m s)) ∧
  (∀ (s : State) (tag : Byte) (p : List Byte) (m : BookSeriesMsg), Settled s → Takes p s →
    parseAll pBookSeries p = .ok m →
    (m.ref.length = 0 ∨ 32 < m.ref.length ∨ m.scope = some 0 →
      exec (.bookSeries tag p) s = .next (answered 0x21 tag p (refusalTo 0x21 tag .badField) s)) ∧
    (1 ≤ m.ref.length → m.ref.length ≤ 32 → m.scope ≠ some 0 →
      Added 0x21 tag p (.bookSeries tag p) (bookingOfSeries m.ref m.scope s)
        (.series m.ref m.scope (m.newOnly.getD true)) m.common s)) ∧
  (∀ (s : State) (tag : Byte) (p : List Byte) (m : ManualPart) (c : CommonMsg), Settled s → Takes p s →
    parseAll pBookManual p = .ok (m, c) →
    (¬ GoodManual m → exec (.bookManual tag p) s = .next (answered 0x22 tag p (refusalTo 0x22 tag .badField) s)) ∧
    (GoodManual m → Added 0x22 tag p (.bookManual tag p) none (.manual m) c s))

/-- The state with one booking changed. -/
def withBooking (n : Nat) (f : Booking → Booking) (s : State) : State :=
  { s with bkt := { s.bkt with bookings := s.bkt.bookings.map (fun b => if b.id = n then f b else b) } }

/-- A MANUAL booking with a changed kind part; the other kinds allow no field of it (R43). -/
def manualWritten (f : ManualPart → ManualPart) (b : Booking) : Option Booking :=
  match b.part with
  | .manual m => some { b with part := .manual (f m) }
  | _ => none

/-- A booking with one field written, a common field clamped into its range (R37, R43); none where its kind does not
allow the field. -/
def fieldWritten (b : Booking) : ChangeField → Option Booking
  | .priority v => some { b with priority := max 1 (min 7 v) }
  | .prePad v => some { b with prePad := min 3600 v }
  | .postPad v => some { b with postPad := min 7200 v }
  | .follow v => some { b with follow := v }
  | .minFraction v => some { b with minFraction := max 100 (min 1000 v) }
  | .newOnly v =>
    match b.part with
    | .series r sc _ => some { b with part := .series r sc v }
    | _ => none
  | .service v => manualWritten (fun m => { m with service := v }) b
  | .mux v => manualWritten (fun m => { m with mux := v }) b
  | .t0 v => manualWritten (fun m => { m with t0 := v }) b
  | .dur v => manualWritten (fun m => { m with dur := v }) b
  | .mask v => manualWritten (fun m => { m with mask := v }) b
  | .firstDay v => manualWritten (fun m => { m with firstDay := v }) b
  | .lastDay v => manualWritten (fun m => { m with lastDay := v }) b
  | .refused => none

/-- The value of a common field lies outside its range (R37). -/
def valueClamped : ChangeField → Bool
  | .priority v => v == 0 || decide (7 < v)
  | .prePad v => decide (3600 < v)
  | .postPad v => decide (7200 < v)
  | .minFraction v => decide (v < 100) || decide (1000 < v)
  | _ => false

/-- BOOK_CHANGE of one field, each of the thirteen (R42, R43): unknown ids and SPENT bookings are refused, and so are a
field that the kind does not allow and a MANUAL field after which the kind part would fail a test of R42; otherwise the
field is written, a common field clamped, and a pass is asked for when the value held has changed. -/
def Obligations.BookChangeWritesOneField : Prop :=
  ∀ (s : State) (tag : Byte) (p : List Byte) (n : Nat) (f : ChangeField), Settled s → Takes p s →
    parseAll pBookChange p = .ok (n, [f]) →
    (findBooking n s = none →
      exec (.bookChange tag p) s = .next (answered 0x23 tag p (refusalTo 0x23 tag .notFound) s)) ∧
    (∀ b, findBooking n s = some b →
      (b.bstate = .spent →
        exec (.bookChange tag p) s = .next (answered 0x23 tag p (refusalTo 0x23 tag .notAllowed) s)) ∧
      (b.bstate ≠ .spent → fieldWritten b f = none →
        exec (.bookChange tag p) s = .next (answered 0x23 tag p (refusalTo 0x23 tag .badField) s)) ∧
      (∀ b' m, b.bstate ≠ .spent → fieldWritten b f = some b' → b'.part = .manual m → ¬ GoodManual m →
        exec (.bookChange tag p) s = .next (answered 0x23 tag p (refusalTo 0x23 tag .badField) s)) ∧
      (∀ b', b.bstate ≠ .spent → fieldWritten b f = some b' → (∀ m, b'.part = .manual m → GoodManual m) →
        exec (.bookChange tag p) s = .next (askPassIf (decide (b' ≠ b)) (answered 0x23 tag p
          (replyTo 0x23 tag .ok (valueClamped f) .empty) (withBooking n (fun _ => b') s)))))

/-- BOOK_SUSPEND and BOOK_RESUME move a booking between ACTIVE and SUSPENDED and ask for a pass; the reply carries the
state held before; a booking already there is left alone, and unknown and SPENT ones are refused (R45). -/
def Obligations.SuspendAndResumeMoveABooking : Prop :=
  ∀ (s : State) (tag : Byte) (p : List Byte) (n : Nat), Settled s → Takes p s → parseAll pU8 p = .ok n →
    (findBooking n s = none →
      exec (.bookSuspend tag p) s = .next (answered 0x24 tag p (refusalTo 0x24 tag .notFound) s) ∧
      exec (.bookResume tag p) s = .next (answered 0x25 tag p (refusalTo 0x25 tag .notFound) s)) ∧
    (∀ b, findBooking n s = some b →
      (b.bstate = .spent →
        exec (.bookSuspend tag p) s = .next (answered 0x24 tag p (refusalTo 0x24 tag .notAllowed) s) ∧
        exec (.bookResume tag p) s = .next (answered 0x25 tag p (refusalTo 0x25 tag .notAllowed) s)) ∧
      (b.bstate = .active →
        exec (.bookSuspend tag p) s = .next (askPass (answered 0x24 tag p (okTo 0x24 tag (.bookState .active))
          (withBooking n (fun x => { x with bstate := .suspended }) s))) ∧
        exec (.bookResume tag p) s = .next (answered 0x25 tag p (okTo 0x25 tag (.bookState .active)) s)) ∧
      (b.bstate = .suspended →
        exec (.bookSuspend tag p) s = .next (answered 0x24 tag p (okTo 0x24 tag (.bookState .suspended)) s) ∧
        exec (.bookResume tag p) s = .next (askPass (answered 0x25 tag p (okTo 0x25 tag (.bookState .suspended))
          (withBooking n (fun x => { x with bstate := .active }) s)))))

/-- The record of a recording that enters STOPPING (R148): the reason is written, the window end lowered to now when now
lies inside the window, and the stop moment and the overrun are gone. `entries` is the model's own count of the running
states entered (log entry 52). -/
def stopped (reason : StopReason) (t : Nat) (j : Inst) : Inst :=
  { j with
    state := .stopping, stopReason := some reason, overrun := none, stopAt := none, stopFixed := false
    entries := j.entries + 1
    window := j.window.map (fun w => if w.ws < t ∧ t < w.we then { w with we := t } else w) }

/-- A recording of a deleted booking after the deletion at a time (R49). -/
def deletedAt (t : Nat) (i : Inst) : Inst :=
  match i.state with
  | .pending | .planned | .clashed | .starting => finished .cancelled .deleted none t i
  | .recording => stopped .cancelled t i
  | .interrupted => finished .done .deleted none t i
  | .stopping | .done | .missed | .failed | .cancelled => i

/-- BOOK_DELETE (R48, R49): the booking leaves the table and each of its recordings is dealt with by its state: a
placeable and a STARTING one are CANCELLED, an INTERRUPTED one is DONE, all three with cause DELETED, a RECORDING one goes
to STOPPING with its confirm timeout, and the others stand; every recording of another booking stands as it stood. The
reply carries the counts, those that have ended leave their tuner, and a pass is asked for. An unknown id is refused. No
gap is open, and no recording of another booking waits for a tuner. -/
def Obligations.BookDeleteDealsWithEveryState : Prop :=
  ∀ (s : State) (tag : Byte) (p : List Byte) (n : Nat), Settled s → Takes p s → parseAll pU8 p = .ok n →
    (findBooking n s = none →
      exec (.bookDelete tag p) s = .next (answered 0x26 tag p (refusalTo 0x26 tag .notFound) s)) ∧
    ((findBooking n s).isSome = true → DistinctIds s → (∀ t, (tunerRun t s).mon ≠ .gap) →
      (∀ i ∈ s.lst.insts, i.booking ≠ n → i.state ≠ .interrupted ∧ ¬ (i.state = .planned ∧ i.startHeld = true)) →
      let cancels := fun (st : InstState) => isPlaceable st || st == .starting
      let ends := fun (k : Nat) => s.lst.insts.any (fun i => i.id == k && i.booking == n &&
        (cancels i.state || i.state == .interrupted))
      ∃ t, exec (.bookDelete tag p) s = .next t ∧
        t.bkt = { s.bkt with bookings := s.bkt.bookings.filter (fun b => b.id != n) } ∧
        t.lst.insts = s.lst.insts.map (fun i => if i.booking = n then deletedAt s.clk.count i else i) ∧
        t.lnk.tx = s.lnk.tx ++ [okTo 0x26 tag (.bookDelete (countOf n cancels s) (countOf n (· == .recording) s)
          (countOf n (· == .interrupted) s))] ∧
        (∀ x, (tunerRun x t).active = (tunerRun x s).active.filter (fun k => !ends k)) ∧
        (∀ i ∈ s.lst.insts, i.booking = n → i.state = .recording →
          heldDelay (.stopConfirm i.id) t = some { kind := .stopConfirm i.id, left := 30 * Config.unitsPerSecond }) ∧
        (∀ i ∈ s.lst.insts, i.booking = n → i.state = .starting → heldDelay (.startConfirm i.id) t = none) ∧
        PassAsked s t ∧ t.gst = s.gst ∧ t.cnd = s.cnd ∧ t.run.claims = s.run.claims)

/-- The state with another episode history. -/
def withHistory (h : List HistEntry) (s : State) : State := { s with bkt := { s.bkt with history := h } }

/-- The insertion of a pair into the history, the same for every source (R53): a pair already held changes nothing and
sets no dirty flag, a new one is appended, and in a full history it takes the place of the oldest; HISTORY_ADD, which
inserts its pair in this way; and HISTORY_DROP, which removes one pair or every entry of one series and asks for a pass
when it removed one (R55). -/
def Obligations.HistoryPairsInsertedAndRemoved : Prop :=
  (∀ (s : State) (e : HistEntry),
    (e ∈ s.bkt.history → insertHistory e s = (s, .duplicate, none)) ∧
    (e ∉ s.bkt.history → s.bkt.history.length < 512 →
      insertHistory e s = (setDirty (withHistory (s.bkt.history ++ [e]) s), .added, none)) ∧
    (∀ old rest, e ∉ s.bkt.history → s.bkt.history.length = 512 → s.bkt.history = old :: rest →
      insertHistory e s = (setDirty (withHistory (rest ++ [e]) s), .addedReplacingOldest, some old))) ∧
  (∀ (s : State) (tag : Byte) (p : List Byte) (e : HistEntry), Settled s → Takes p s → parseAll pHistEntry p = .ok e →
    (32 < e.series.length ∨ e.episode.length = 0 ∨ 32 < e.episode.length →
      exec (.historyAdd tag p) s = .next (answered 0x2C tag p (refusalTo 0x2C tag .badField) s)) ∧
    (e.series.length ≤ 32 → 1 ≤ e.episode.length → e.episode.length ≤ 32 →
      (e ∈ s.bkt.history →
        exec (.historyAdd tag p) s = .next (answered 0x2C tag p
          (okTo 0x2C tag (.historyAdd .duplicate none)) s)) ∧
      (e ∉ s.bkt.history → s.bkt.history.length < 512 →
        exec (.historyAdd tag p) s = .next (askPass (answered 0x2C tag p
          (okTo 0x2C tag (.historyAdd .added none)) (withHistory (s.bkt.history ++ [e]) s)))) ∧
      (∀ old rest, e ∉ s.bkt.history → s.bkt.history.length = 512 → s.bkt.history = old :: rest →
        exec (.historyAdd tag p) s = .next (askPass (answered 0x2C tag p
          (okTo 0x2C tag (.historyAdd .addedReplacingOldest (some old))) (withHistory (rest ++ [e]) s)))))) ∧
  (∀ (s : State) (tag : Byte) (p : List Byte) (e : HistEntry), Settled s → Takes p s →
    parseAll pHistDrop p = .ok (.pair e) →
    let kept := s.bkt.history.filter (fun x => x != e)
    (32 < e.series.length ∨ e.episode.length = 0 ∨ 32 < e.episode.length →
      exec (.historyDropPair tag p) s = .next (answered 0x2D tag p (refusalTo 0x2D tag .badField) s)) ∧
    (e.series.length ≤ 32 → 1 ≤ e.episode.length → e.episode.length ≤ 32 →
      exec (.historyDropPair tag p) s = .next (askPassIf (decide (e ∈ s.bkt.history)) (answered 0x2D tag p
        (okTo 0x2D tag (.historyDrop (s.bkt.history.length - kept.length) kept.length)) (withHistory kept s))))) ∧
  (∀ (s : State) (tag : Byte) (p : List Byte) (r : Ref), Settled s → Takes p s →
    parseAll pHistDrop p = .ok (.series r) →
    let kept := s.bkt.history.filter (fun x => x.series != r)
    (32 < r.length →
      exec (.historyDropSeries tag p) s = .next (answered 0x2D tag p (refusalTo 0x2D tag .badField) s)) ∧
    (r.length ≤ 32 →
      exec (.historyDropSeries tag p) s = .next (askPassIf (s.bkt.history.any (fun x => x.series == r))
        (answered 0x2D tag p (okTo 0x2D tag (.historyDrop (s.bkt.history.length - kept.length) kept.length))
          (withHistory kept s)))))

/-! ## The Instance List and the install -/

/-- OUTCOME_TAKE (R88, R47): a terminal recording leaves the list and the terminal order with its outcome in the
reply, a SPENT booking that no recording carries any longer leaves the table, and no pass is asked for. -/
def Obligations.OutcomeTakeFreesThePlace : Prop :=
  ∀ (s : State) (tag : Byte) (p : List Byte) (n : Nat), Settled s → Takes p s → parseAll pU16 p = .ok n →
    (findInst n s = none →
      exec (.outcomeTake tag p) s = .next (answered 0x32 tag p (refusalTo 0x32 tag .notFound) s)) ∧
    (∀ i, findInst n s = some i →
      (isTerminal i.state = false →
        exec (.outcomeTake tag p) s = .next (answered 0x32 tag p (refusalTo 0x32 tag .notAllowed) s)) ∧
      (isTerminal i.state = true → DistinctIds s →
        let insts := s.lst.insts.filter (fun j => j.id != n)
        let bookings := if insts.any (fun j => j.booking == i.booking) then s.bkt.bookings
          else s.bkt.bookings.filter (fun b => !(b.id == i.booking && b.bstate == .spent))
        exec (.outcomeTake tag p) s = .next (answered 0x32 tag p (okTo 0x32 tag (.outcome i))
          { s with
            lst := { s.lst with insts := insts, terminalOrder := s.lst.terminalOrder.filter (fun k => k != n) }
            bkt := { s.bkt with bookings := bookings } })))

/-- An install (R110, R112, R114, R19): the generation rises by one and wraps, the clash list holds 32 records at most,
every held query is answered in arrival order and none is left, no record of the guide changes but in its pins, and the
Planner is IDLE with no snapshot or, when the again flag stood, in the next pass. That INSTALL may come at any moment of a
pass, and does nothing while IDLE, is the model's choice (log entry 6). -/
def Obligations.InstallRenewsThePlan : Prop :=
  (∀ s sn, s.pln.passState = .pass → s.pln.snapshot = some sn →
    ∃ t, exec .install s = .next t ∧
      t.pln.generation = (s.pln.generation + 1) % 4294967296 ∧
      t.pln.clashes.length ≤ 32 ∧
      t.pln.dirty = false ∧ t.pln.again = false ∧
      (s.pln.again = true → t.pln.passState = .pass) ∧
      (t.pln.passState = .idle ↔ t.pln.snapshot = none) ∧
      t.lnk.held = [] ∧
      (∃ rs, t.lnk.tx = s.lnk.tx ++ rs ∧ rs.map (fun r => r.tag) = s.lnk.held.map (fun q => q.tag)) ∧
      t.lnk.inHand = s.lnk.inHand ∧
      t.gst.recs.map (fun r => { r with pins := 0 }) = s.gst.recs.map (fun r => { r with pins := 0 }) ∧
      t.clk.count = s.clk.count ∧ t.clk.cstate = s.clk.cstate ∧ t.clk.offset = s.clk.offset ∧
      t.clk.delays.filter (fun d => d.kind == .keepalive) = s.clk.delays.filter (fun d => d.kind == .keepalive) ∧
      t.wsv = { s.wsv with standbyWanted := t.wsv.standbyWanted }) ∧
  (∀ s : State, s.pln.passState = .idle → exec .install s = .next s)

/-- The untrimmed window of an event under a booking's pads in a pass at a time (R98). -/
def paddedWindow (t : Nat) (r : GuideRec) (b : Booking) : Window :=
  { ws := max (r.start - b.prePad) (t + 5), we := min 4294967295 (r.start + r.dur + b.postPad) }

/-- What an install writes to the plan (R62, R73, R76, R98, R105 to R109). A first pass over one EVENT booking and its one
event creates the recording, PLANNED whole on tuner A with the padded window, and makes its requests. No claim yields but
one that still stands as the snapshot had it, and no cut mark stands on a live recording, be its booking held or deleted
before the pass, but on one that overran in the snapshot (one of a booking deleted during the pass takes no write: log
entry 20). In a plan kept so far, every PLANNED recording starts 5 s or more after the snapshot's now and carries its
booking's priority of the snapshot, and a booking SUSPENDED in the snapshot is left no placeable recording. The
`entries` of a new recording are the model's own (log entry 52). -/
def Obligations.InstallWritesThePlan : Prop :=
  (∀ (s : State) (sn : Snapshot) (b : Booking) (k : EventKey) (l : LastKnown) (held : Bool) (r : GuideRec),
    s.pln.passState = .pass → s.pln.snapshot = some sn → sn.bookings = [b] → s.bkt.bookings = [b] →
    b.part = .event k l held → b.bstate = .active → sn.guide = [r] → r.key = k → sn.insts = [] → s.lst.insts = [] →
    sn.claims = [] → s.run.claims = [] → sn.now + 60 < r.start + r.dur →
    let w := paddedWindow sn.now r b
    w.ws + 60 ≤ w.we → s.clk.count < w.ws →
    ∃ t, exec .install s = .next t ∧
      t.lst.insts = [{ id := s.lst.nextId, booking := b.id, origin := .event k, episode := r.episode
                       service := k.service, mux := r.mux, start := r.start, dur := r.dur, prePad := b.prePad
                       postPad := b.postPad, window := some w, tuner := some .a, verdict := some .whole
                       planPriority := some b.priority, state := .planned, alts := [], segments := []
                       gapTenths := 0, stopReason := none, overrun := none, cutBy := none, startHeld := false
                       runEnd := none, outcome := none, stopAt := none, stopFixed := false, raiseDue := false
                       entries := 0 }] ∧
      t.lst.nextId = (if s.lst.nextId = 65535 then 1 else s.lst.nextId + 1) ∧
      (heldDue (.windowStart s.lst.nextId) t).map (fun d => d.time) = some w.ws ∧
      (heldDue (.coreEnd s.lst.nextId) t).map (fun d => d.time) = some (r.start + r.dur) ∧
      (s.lnk.notices = [] → ∃ n ∈ t.lnk.notices,
        n.body = .planChanged ((s.pln.generation + 1) % 4294967296)) ∧
      t.cnd = s.cnd) ∧
  (∀ (s t : State) (sn : Snapshot), s.pln.passState = .pass → s.pln.snapshot = some sn → exec .install s = .next t →
    (∀ c ∈ t.run.claims, c.yieldTo ≠ none → ∃ d ∈ sn.claims,
      d.id = c.id ∧ d.tuner = c.tuner ∧ d.mux = c.mux ∧ d.priority = c.priority) ∧
    (∀ i ∈ t.lst.insts, isTerminal i.state = false →
      findBooking i.booking t ≠ none ∨ (∀ b ∈ sn.bookings, b.id ≠ i.booking) → i.cutBy ≠ none →
      ∃ j ∈ sn.insts, j.id = i.id ∧ j.overrun ≠ none)) ∧
  (∀ (s t : State) (sn : Snapshot), PlanKept s → s.pln.passState = .pass → s.pln.snapshot = some sn →
    (sn.bookings.map (fun b => b.id)).Nodup → exec .install s = .next t →
    (∀ i ∈ t.lst.insts, i.state = .planned → sn.now + 5 ≤ winStart i ∧
      ∀ b ∈ sn.bookings, b.id = i.booking → i.planPriority = some b.priority) ∧
    (∀ b ∈ sn.bookings, b.bstate = .suspended → ∀ i ∈ t.lst.insts, i.booking = b.id → isPlaceable i.state = false))

/-! ## Run Control: from plan to start -/

/-- The parts of the state that no start, miss or stop of a recording writes. -/
abbrev OtherPartsKept (s u : State) : Prop :=
  u.gst = s.gst ∧ u.bkt = s.bkt ∧ u.run.claims = s.run.claims ∧ u.clk.count = s.clk.count ∧
    u.clk.cstate = s.clk.cstate ∧ u.clk.offset = s.clk.offset ∧ u.lnk.held = s.lnk.held ∧
    u.wsv = { s.wsv with standbyWanted := u.wsv.standbyWanted }

/-- A recording has become MISSED (R83, R141): the outcome is written, the others stand as they stood, the HARD
condition is submitted, OUTCOME_READY is posted where the queue has room, and a pass is asked for. That OUTCOME_READY is
posted before the notice of the condition, and so takes the last free place, is the model's choice (log entry 11). The
yield warning of a claim marked to yield to it is withdrawn (R83; how R156 is read beside it: log entry 19). -/
abbrev BecameMissed (n : Nat) (i : Inst) (cause : Cause) (bank : BankId) (s u : State) : Prop :=
  u.lst.insts = changedAt n (finished .missed cause none s.clk.count) s ∧
  (n ∉ s.lst.terminalOrder → u.lst.terminalOrder = s.lst.terminalOrder ++ [n]) ∧
  u.cnd = (submit { bank := bank, cls := .hard, code := .missed, iid := some n, booking := some i.booking } s).cnd ∧
  (s.lnk.notices.length < 48 →
    ({ body := .outcomeReady .missed n i.booking, time := s.clk.count } : Notice) ∈ u.lnk.notices) ∧
  u.lnk.tx = s.lnk.tx ∧
  (∀ c ∈ s.run.claims, c.yieldTo = some n → heldDue (.yieldWarning c.id) u = none) ∧
  PassAsked s u ∧ OtherPartsKept s u

/-- The record of a recording that enters STARTING (R143): its tuner and its stop moment are written. `entries` is the
model's own count of the running states entered (log entry 52). -/
def started (t : Tuner) (stop : Nat) (j : Inst) : Inst :=
  { j with
    state := .starting, tuner := some t, startHeld := false, runEnd := none, stopAt := some (.at stop)
    stopFixed := false, entries := j.entries + 1 }

/-- A recording has entered STARTING on a tuner with a stop moment (R138, R143): it is active there, its confirm timeout
runs, its stop is requested, and the host is told. -/
abbrev HasStarted (n : Nat) (t : Tuner) (mux stop : Nat) (s u : State) : Prop :=
  tunerRun t u = { tunerRun t s with active := (tunerRun t s).active ++ [n], mux := some mux } ∧
  tunerRun (otherTuner t) u = tunerRun (otherTuner t) s ∧
  heldDelay (.startConfirm n) u = some { kind := .startConfirm n, left := 30 * Config.unitsPerSecond } ∧
  (heldDue (.stopMoment n) u).map (fun d => d.time) = some stop ∧
  n ∈ u.lnk.actionSet ∧ u.lnk.attn = true ∧ u.lnk.tx = s.lnk.tx

/-- The window start of a PLANNED recording (R142, R143): at or past the held-start limit it becomes MISSED (the order of
its notices is log entry 11's); with the host not AWAKE its start is held; with the host AWAKE and its tuner free it enters
STARTING there. -/
def Obligations.WindowStartStartsHoldsOrMisses : Prop :=
  ∀ (s : State) (n : Nat) (i : Inst) (w : Window) (t : Tuner), Settled s → DistinctIds s → NotActive n s →
    Delivered (.windowStart n) s → findInst n s = some i → i.state = .planned → i.window = some w →
    i.tuner = some t → (tunerRun t s).mon ≠ .gap →
    let limit := min (w.we - 60) (i.start + i.dur)
    (limit ≤ s.clk.count →
      ∃ u, exec (.windowStart n) s = .next u ∧ BecameMissed n i .notStarted (tunerBank t) s u) ∧
    (s.clk.count < limit → s.wsv.host ≠ .awake →
      ∃ u, exec (.windowStart n) s = .next u ∧
        u.lst.insts = changedAt n (fun j => { j with startHeld := true }) s ∧
        (heldDue (.heldLimit n) u).map (fun d => d.time) = some limit ∧
        u.run = s.run ∧ u.cnd = s.cnd ∧ u.pln = s.pln ∧ u.lnk = s.lnk ∧ u.wsv = s.wsv ∧ OtherPartsKept s u) ∧
    (s.clk.count < limit → s.wsv.host = .awake → freeFor t i s = true →
      (∀ j ∈ s.lst.insts, j.cutBy ≠ some n) → (∀ c ∈ s.run.claims, c.yieldTo ≠ some n) →
      (s.clk.count ≤ w.ws ∨ s.clk.count ≤ i.start) →
      ∃ u, exec (.windowStart n) s = .next u ∧
        u.lst.insts = changedAt n (started t w.we) s ∧ HasStarted n t i.mux w.we s u ∧
        u.lnk.notices = s.lnk.notices ∧ u.cnd = s.cnd ∧ u.pln = s.pln ∧ u.wsv = s.wsv ∧ OtherPartsKept s u)

/-- The state without viewing claims. -/
def withoutClaims (s : State) : State := { s with run := { s.run with claims := [] } }

/-- A window start that leads to a start attempt: the recording is PLANNED, its window start has fallen due before the
held-start limit, the host is AWAKE, no gap is open, and no other start waits. -/
abbrev Attempts (n : Nat) (i : Inst) (w : Window) (t : Tuner) (s : State) : Prop :=
  Settled s ∧ DistinctIds s ∧ NotActive n s ∧ Delivered (.windowStart n) s ∧ findInst n s = some i ∧
  i.state = .planned ∧ i.startHeld = false ∧ i.window = some w ∧ i.tuner = some t ∧
  (∀ x, (tunerRun x s).mon ≠ .gap) ∧ s.clk.count < min (w.we - 60) (i.start + i.dur) ∧ s.wsv.host = .awake ∧
  NobodyWaits s

/-- The record of a recording whose start waits (R144). -/
def waiting (j : Inst) : Inst := { j with startHeld := true }

/-- A condition about a recording, to the bank of a tuner. Its booking id, which the rules that submit these conditions do
not name, is the model's choice (log entry 9), but for that of MISSED (R141). -/
def tunerCond (t : Tuner) (cls : CondClass) (code : CondCode) (i : Inst) : Condition :=
  { bank := tunerBank t, cls := cls, code := code, iid := some i.id, booking := some i.booking }

/-- The active recordings among the obstacles of a recording on a tuner: those on another multiplex, and every one when
four are active (R144). -/
def obstacles (t : Tuner) (i : Inst) (s : State) : List Inst :=
  ((tunerRun t s).active.filterMap (fun k => findInst k s)).filter (fun j =>
    decide (j.mux ≠ i.mux) || decide (4 ≤ (tunerRun t s).active.length))

/-- The claims among them. -/
def claimObstacles (t : Tuner) (i : Inst) (s : State) : List Claim :=
  s.run.claims.filter (fun c => decide (c.tuner = t) && decide (c.mux ≠ i.mux))

/-- An obstacle that a recording may cut: RECORDING on another multiplex past its window, of lower plan priority (R144). -/
abbrev Cuttable (i j : Inst) (s : State) : Prop :=
  j.state = .recording ∧ j.mux ≠ i.mux ∧ winEnd j ≤ s.clk.count ∧ planPrio j < planPrio i

/-- A start attempt on a tuner that is not free, with no handover arranged (R144): it waits while every obstacle is
STOPPING; else it goes to the other tuner when that is free; else it cuts an overrun, or revokes a claim, of lower
priority; else it waits. The third case is stated for one obstacle alone. The booking ids of TUNER_SWAPPED and
OVERRUN_CUT are the model's choice (log entry 9). -/
def Obligations.BusyTunerStartWaitsSwapsOrCuts : Prop :=
  ∀ (s : State) (n : Nat) (i : Inst) (w : Window) (t : Tuner), Attempts n i w t s → freeFor t i s = false →
    (∀ j ∈ s.lst.insts, j.cutBy ≠ some n) → (∀ c ∈ s.run.claims, c.yieldTo ≠ some n) →
    let limit := min (w.we - 60) (i.start + i.dur)
    let other := otherTuner t
    let stopping := (∀ j ∈ obstacles t i s, j.state = .stopping) ∧ claimObstacles t i s = []
    let waits := ∃ u, exec (.windowStart n) s = .next u ∧ u.lst.insts = changedAt n waiting s ∧
      (heldDue (.heldLimit n) u).map (fun d => d.time) = some limit ∧
      u.run = s.run ∧ u.cnd = s.cnd ∧ u.pln = s.pln ∧ u.lnk = s.lnk ∧ u.wsv = s.wsv ∧ OtherPartsKept s u
    (stopping → waits) ∧
    (¬ stopping → freeFor other i s = true → s.clk.count ≤ w.ws ∨ s.clk.count ≤ i.start →
      ∃ u, exec (.windowStart n) s = .next u ∧ u.lst.insts = changedAt n (started other w.we) s ∧
        HasStarted n other i.mux w.we s u ∧ u.cnd = (submit (tunerCond other .soft .tunerSwapped i) s).cnd ∧
        PassAsked s u ∧ OtherPartsKept s u) ∧
    (∀ j, freeFor other i s = false → obstacles t i s = [j] → claimObstacles t i s = [] → Cuttable i j s →
      ∃ u, exec (.windowStart n) s = .next u ∧
        u.lst.insts = s.lst.insts.map (fun k => if k.id = j.id then stopped .overrunCut s.clk.count k
          else if k.id = n then waiting k else k) ∧
        heldDelay (.stopConfirm j.id) u = some { kind := .stopConfirm j.id, left := 30 * Config.unitsPerSecond } ∧
        (heldDue (.heldLimit n) u).map (fun d => d.time) = some limit ∧
        (∀ x, (tunerRun x u).active = (tunerRun x s).active) ∧
        u.cnd = (submit (tunerCond t .deferred .overrunCut j) s).cnd ∧
        (j.overrun ≠ none → PassAsked s u) ∧ u.lnk.tx = s.lnk.tx ∧ OtherPartsKept s u) ∧
    (∀ c, freeFor other i s = false → obstacles t i s = [] → (tunerRun t s).active.length < 4 →
      claimObstacles t i s = [c] → c.priority < planPrio i → s.clk.count ≤ w.ws ∨ s.clk.count ≤ i.start →
      ∃ u, exec (.windowStart n) s = .next u ∧ u.lst.insts = changedAt n (started t w.we) s ∧
        HasStarted n t i.mux w.we s u ∧ u.run.claims = s.run.claims.filter (fun x => x.id != c.id) ∧
        heldDue (.yieldWarning c.id) u = none ∧
        (s.lnk.notices.length < 48 →
          ({ body := .claimRevoked c.id n, time := s.clk.count } : Notice) ∈ u.lnk.notices) ∧
        PassAsked s u ∧ u.cnd = s.cnd ∧ u.bkt = s.bkt ∧ u.gst = s.gst) ∧
    (¬ stopping → freeFor other i s = false →
      (∃ j ∈ obstacles t i s, ¬ Cuttable i j s) ∨ (∃ c ∈ claimObstacles t i s, planPrio i ≤ c.priority) → waits)

/-- Late starts, the handovers a plan has arranged, and the start that a tuner's last stop lets go (R143, R144): a start
after W_s and after S submits START_LATE; a recording whose cut mark names the one that starts is sent to STOPPING with
OVERRUN_CUT, and the start waits for it; a claim whose yield mark names it is revoked, and it starts; and when the last
recording that stood in the way has stopped, the start that waited is made, late when S has passed. The booking ids of
START_LATE and OVERRUN_CUT are the model's choice (log entry 9). -/
def Obligations.LateStartsHandoversAndRetries : Prop :=
  (∀ (s : State) (n : Nat) (i : Inst) (w : Window) (t : Tuner), Attempts n i w t s → freeFor t i s = true →
    (∀ j ∈ s.lst.insts, j.cutBy ≠ some n) → (∀ c ∈ s.run.claims, c.yieldTo ≠ some n) →
    w.ws < s.clk.count → i.start < s.clk.count →
    ∃ u, exec (.windowStart n) s = .next u ∧ u.lst.insts = changedAt n (started t w.we) s ∧
      HasStarted n t i.mux w.we s u ∧ u.cnd = (submit (tunerCond t .deferred .startLate i) s).cnd ∧
      u.pln = s.pln ∧ OtherPartsKept s u) ∧
  (∀ (s : State) (n : Nat) (i : Inst) (w : Window) (t : Tuner) (j : Inst), Attempts n i w t s →
    findInst j.id s = some j → j.state = .recording → j.tuner = some t → j.cutBy = some n → j.mux ≠ i.mux →
    (∀ x ∈ s.lst.insts, x.cutBy = some n → x.id = j.id) → (tunerRun t s).active = [j.id] →
    (∀ c ∈ s.run.claims, c.yieldTo ≠ some n ∧ (c.tuner = t → c.mux = i.mux)) →
    ∃ u, exec (.windowStart n) s = .next u ∧
      u.lst.insts = s.lst.insts.map (fun k => if k.id = j.id then stopped .overrunCut s.clk.count k
        else if k.id = n then waiting k else k) ∧
      heldDelay (.stopConfirm j.id) u = some { kind := .stopConfirm j.id, left := 30 * Config.unitsPerSecond } ∧
      (heldDue (.heldLimit n) u).map (fun d => d.time) = some (min (w.we - 60) (i.start + i.dur)) ∧
      (∀ x, (tunerRun x u).active = (tunerRun x s).active) ∧
      u.cnd = (submit (tunerCond t .deferred .overrunCut j) s).cnd ∧ u.lnk.tx = s.lnk.tx ∧ OtherPartsKept s u) ∧
  (∀ (s : State) (n : Nat) (i : Inst) (w : Window) (t : Tuner) (c : Claim), Attempts n i w t s →
    s.run.claims = [c] → c.tuner = t → c.yieldTo = some n → freeFor t i (withoutClaims s) = true →
    (∀ j ∈ s.lst.insts, j.cutBy ≠ some n) → s.clk.count ≤ w.ws ∨ s.clk.count ≤ i.start →
    ∃ u, exec (.windowStart n) s = .next u ∧ u.lst.insts = changedAt n (started t w.we) s ∧
      HasStarted n t i.mux w.we s u ∧ u.run.claims = [] ∧ heldDue (.yieldWarning c.id) u = none ∧
      (s.lnk.notices.length < 48 →
        ({ body := .claimRevoked c.id n, time := s.clk.count } : Notice) ∈ u.lnk.notices) ∧
      PassAsked s u ∧ u.cnd = s.cnd ∧ u.bkt = s.bkt ∧ u.gst = s.gst) ∧
  (∀ (s : State) (tag : Byte) (p : List Byte) (n : Nat) (i : Inst) (w : Window) (t : Tuner) (j : Inst), Settled s →
    DistinctIds s → Takes p s → parseAll pReport p = .ok (j.id, .stopped) → s.wsv.host = .awake →
    findInst j.id s = some j → j.state = .stopping → j.stopReason ≠ some .abandoned → j.tuner = some t →
    (tunerRun t s).active = [j.id] → j.id ∉ (tunerRun (otherTuner t) s).active →
    (∀ x, (tunerRun x s).mon ≠ .gap) →
    findInst n s = some i → i.state = .planned → i.startHeld = true → i.window = some w → i.tuner = some t →
    (∀ k ∈ s.lst.insts, k.id ≠ n → k.state ≠ .interrupted ∧ ¬ (k.state = .planned ∧ k.startHeld = true)) →
    (∀ k ∈ s.lst.insts, k.cutBy ≠ some n) → (∀ c ∈ s.run.claims, c.yieldTo ≠ some n ∧ (c.tuner = t → c.mux = i.mux)) →
    ∃ u, exec (.recReportStopped tag p) s = .next u ∧
      u.lst.insts = s.lst.insts.map (fun k => if k.id = j.id then finished .done .reportedStop none s.clk.count k
        else if k.id = n then started t w.we k else k) ∧
      (tunerRun t u).active = [n] ∧ (tunerRun t u).mux = some i.mux ∧
      heldDelay (.startConfirm n) u = some { kind := .startConfirm n, left := 30 * Config.unitsPerSecond } ∧
      (heldDue (.stopMoment n) u).map (fun d => d.time) = some w.we ∧ heldDue (.heldLimit n) u = none ∧
      u.cnd = (if i.start < s.clk.count then submit (tunerCond t .deferred .startLate i) s else s).cnd ∧
      u.lnk.tx = s.lnk.tx ++ [okTo 0x38 tag (.report .done)] ∧ u.run.claims = s.run.claims ∧ u.gst = s.gst)

/-- The core end of a placeable recording makes it MISSED with NOT_STARTED, but for a PLANNED one whose start is held;
that one becomes MISSED with HELD_TOO_LONG at its held-start limit (R141). The order of its notices is log entry 11's. -/
def Obligations.CoreEndAndHeldLimitMiss : Prop :=
  ∀ (s : State) (n : Nat) (i : Inst), Settled s → DistinctIds s → NotActive n s → findInst n s = some i →
    (∀ t, i.tuner = some t → (tunerRun t s).mon ≠ .gap) →
    (Delivered (.coreEnd n) s → i.state = .pending ∨ i.state = .clashed →
      ∃ u, exec (.coreEnd n) s = .next u ∧ BecameMissed n i .notStarted .plan s u) ∧
    (∀ t, Delivered (.coreEnd n) s → i.state = .planned → i.startHeld = false → i.tuner = some t →
      ∃ u, exec (.coreEnd n) s = .next u ∧ BecameMissed n i .notStarted (tunerBank t) s u) ∧
    (Delivered (.coreEnd n) s → i.state = .planned → i.startHeld = true →
      exec (.coreEnd n) s = .next { s with clk := { s.clk with dues := duesWithout (.coreEnd n) s } }) ∧
    (∀ t, Delivered (.heldLimit n) s → i.state = .planned → i.startHeld = true → i.tuner = some t →
      ∃ u, exec (.heldStartLimit n) s = .next u ∧ BecameMissed n i .heldTooLong (tunerBank t) s u)

/-- The core end of a STARTING or RECORDING recording begins an overrun when its booking follows running status, the
overrun limit is not 0 and the origin is RUNNING or PAUSING; otherwise nothing changes (R152). A later status that is
neither ends the overrun: the stop moment is fixed at now plus the post-pad, no later than the cap (R153). -/
def Obligations.OverrunBeginsAndEnds : Prop :=
  (∀ (s : State) (n : Nat) (i : Inst), Settled s → DistinctIds s → Delivered (.coreEnd n) s → findInst n s = some i →
    i.state = .starting ∨ i.state = .recording →
    let cap := min 4294967295 (i.start + i.dur + s.run.overrunLimit)
    (∀ b k r, findBooking i.booking s = some b → b.follow = true → 0 < s.run.overrunLimit → i.origin = .event k →
      recOf k s.gst.recs = some r → r.status = .running ∨ r.status = .pausing →
      ∃ u, exec (.coreEnd n) s = .next u ∧
        u.lst.insts = changedAt n (fun j => { j with
          overrun := some cap, stopAt := some .opened, stopFixed := false }) s ∧
        heldDue (.stopMoment n) u = none ∧ (heldDue (.overrunCap n) u).map (fun d => d.time) = some cap ∧
        PassAsked s u ∧ u.run = s.run ∧ u.cnd = s.cnd ∧ u.lnk = s.lnk ∧ OtherPartsKept s u) ∧
    ((∀ b, findBooking i.booking s = some b → b.follow = false) ∨ s.run.overrunLimit = 0 ∨
      (∀ k r, i.origin = .event k → recOf k s.gst.recs = some r → r.status ≠ .running ∧ r.status ≠ .pausing) →
      exec (.coreEnd n) s = .next { s with clk := { s.clk with dues := duesWithout (.coreEnd n) s } })) ∧
  (∀ (s : State) (n : Nat) (i : Inst) (tag : Byte) (p : List Byte) (k : EventKey) (st : RunStatus) (r : GuideRec)
      (cap : Nat), Settled s → DistinctIds s → Takes p s → parseAll pEventStatus p = .ok (k, runStatusNum st) →
    recOf k s.gst.recs = some r → r.status ≠ st → st ≠ .running → st ≠ .pausing →
    findInst n s = some i → i.state = .recording → i.origin = .event k → i.overrun = some cap →
    (∀ j ∈ s.lst.insts, j.id ≠ n → j.overrun = none) →
    s.clk.count < min (s.clk.count + i.postPad) cap →
    ∃ u, exec (.eventStatus tag p) s = .next u ∧
      u.lst.insts = changedAt n (fun j => { j with
        overrun := none, stopAt := some (.at (min (s.clk.count + i.postPad) cap)), stopFixed := true }) s ∧
      (heldDue (.stopMoment n) u).map (fun d => d.time) = some (min (s.clk.count + i.postPad) cap) ∧
      heldDue (.overrunCap n) u = none ∧ PassAsked s u ∧ u.run = s.run ∧ u.cnd = s.cnd ∧ u.bkt = s.bkt ∧
      u.gst.recs = s.gst.recs.map (fun x => if x.key = k then { x with status := st } else x) ∧
      u.lnk.tx = s.lnk.tx ++ [okTo 0x1A tag (.runStatus r.status)])

/-! ## Run Control: stops, confirm timeouts and reports -/

/-- A stop moment and an overrun cap send a RECORDING recording to STOPPING (R148, R151, R153); a stop moment does
nothing to one in STARTING, whose STARTED report will stop it, and a cap then becomes its fixed stop moment (the model's
choice, log entry 38). -/
def Obligations.StopMomentAndCapStop : Prop :=
  ∀ (s : State) (n : Nat) (i : Inst) (t : Tuner), Settled s → DistinctIds s → findInst n s = some i →
    i.tuner = some t → (tunerRun t s).mon ≠ .gap →
    (∀ c, (c = .stopMoment n ∧ Delivered (.stopMoment n) s ∨ c = .overrunCap n ∧ Delivered (.overrunCap n) s) →
      i.state = .recording →
      ∃ u, exec c s = .next u ∧
        u.lst.insts = changedAt n (stopped .stopMoment s.clk.count) s ∧
        heldDelay (.stopConfirm n) u = some { kind := .stopConfirm n, left := 30 * Config.unitsPerSecond } ∧
        heldDue (.stopMoment n) u = none ∧ heldDue (.overrunCap n) u = none ∧
        n ∈ u.lnk.actionSet ∧ u.lnk.attn = true ∧
        (i.overrun = none → u.pln = s.pln) ∧ (i.overrun ≠ none → PassAsked s u) ∧
        (∀ x, (tunerRun x u).active = (tunerRun x s).active) ∧
        u.cnd = s.cnd ∧ u.lnk.tx = s.lnk.tx ∧ u.lnk.notices = s.lnk.notices ∧ OtherPartsKept s u) ∧
    (Delivered (.stopMoment n) s → i.state = .starting →
      exec (.stopMoment n) s = .next { s with clk := { s.clk with dues := duesWithout (.stopMoment n) s } }) ∧
    (∀ cap, Delivered (.overrunCap n) s → i.state = .starting → i.overrun = some cap →
      ∃ u, exec (.overrunCap n) s = .next u ∧
        u.lst.insts = changedAt n (fun j => { j with
          overrun := none, stopAt := some (.at cap), stopFixed := true }) s ∧
        PassAsked s u ∧ u.run = s.run ∧ u.cnd = s.cnd ∧ u.lnk = s.lnk ∧ OtherPartsKept s u)

/-- The condition START_FAILED of a recording on a tuner: DEFERRED when it holds a future alternate at now, HARD
otherwise (R145, R147). Its booking id is the model's choice (log entry 9). -/
def startFailed (t : Tuner) (i : Inst) (s : State) : Condition :=
  { bank := tunerBank t
    cls := if i.alts.any (fun k => (recOf k s.gst.recs).any (fun r => decide (s.clk.count + 60 < r.start + r.dur)))
      then .deferred else .hard
    code := .startFailed, iid := some i.id, booking := some i.booking }

/-- A recording leaves the active recordings of its tuner, which goes idle with the last of them (R138). -/
abbrev LeftTuner (n : Nat) (t : Tuner) (s u : State) : Prop :=
  (tunerRun t u).active = (tunerRun t s).active.filter (fun k => k != n) ∧
  ((tunerRun t u).active = [] → (tunerRun t u).mux = none) ∧
  (tunerRun (otherTuner t) u).active = (tunerRun (otherTuner t) s).active

/-- The Booking Table after it has been handed a recording that ended DONE (R46, R54): while the booking is held, the
pair of the recording's episode enters the history (R53) when the recorded fraction is 900 or more, and an EVENT booking
becomes SPENT. -/
def doneTable (i : Inst) (s : State) : BookingTable :=
  match findBooking i.booking s with
  | none => s.bkt
  | some b =>
    let series := match b.part with
      | .event _ last _ => last.series.getD []
      | .series r _ _ => r
      | .manual _ => []
    let added := fun (e : HistEntry) =>
      if e ∈ s.bkt.history then s.bkt.history
      else (if s.bkt.history.length < 512 then s.bkt.history else s.bkt.history.drop 1) ++ [e]
    { s.bkt with
      history := match i.episode with
        | some ep => if 900 ≤ recordedFraction i then added { series := series, episode := ep } else s.bkt.history
        | none => s.bkt.history
      bookings := match b.part with
        | .event _ _ _ => s.bkt.bookings.map (fun x => if x.id = b.id then { x with bstate := .spent } else x)
        | .series _ _ _ | .manual _ => s.bkt.bookings }

/-- A recording has ended DONE, with this record (R46, R53, R54, R95): the Booking Table has been handed it, and a pass is
asked for when a pair has entered the history or the recording was in overrun, and not otherwise. -/
abbrev HandedDone (done : Inst) (i : Inst) (s u : State) : Prop :=
  u.bkt = doneTable done s ∧
  (u.bkt.history ≠ s.bkt.history ∨ i.overrun ≠ none → PassAsked s u) ∧
  (u.bkt.history = s.bkt.history → i.overrun = none → u.pln = s.pln)

/-- The start confirm timeout makes a STARTING recording FAILED with START_UNCONFIRMED; the stop confirm timeout ends a
STOPPING one, FAILED when it was abandoned and DONE otherwise, with STOP_UNCONFIRMED logged (R145, R149); one that ends
DONE is handed to the Booking Table (R46, R54). The booking ids of START_FAILED and STOP_UNCONFIRMED are the model's
choice (log entry 9). -/
def Obligations.ConfirmTimeoutsEnd : Prop :=
  ∀ (s : State) (n : Nat) (i : Inst) (t : Tuner), Settled s → DistinctIds s → NobodyWaits s → findInst n s = some i →
    i.tuner = some t → (tunerRun t s).mon ≠ .gap → n ∈ (tunerRun t s).active → n ∉ (tunerRun (otherTuner t) s).active →
    (Elapses (.startConfirm n) s → i.state = .starting →
      ∃ u, exec (.startConfirmTimeout n) s = .next u ∧
        u.lst.insts = changedAt n (finished .failed .startUnconfirmed none s.clk.count) s ∧
        u.cnd = (submit (startFailed t i s) s).cnd ∧ LeftTuner n t s u ∧ n ∉ u.lnk.actionSet ∧
        u.lnk.tx = s.lnk.tx ∧ PassAsked s u ∧ OtherPartsKept s u) ∧
    (Elapses (.stopConfirm n) s → i.state = .stopping →
      ∃ u, exec (.stopConfirmTimeout n) s = .next u ∧
        u.lst.insts = changedAt n (if i.stopReason = some .abandoned
          then finished .failed .abandoned none s.clk.count else finished .done .stopUnconfirmed none s.clk.count) s ∧
        u.cnd = (submit { bank := tunerBank t, cls := .soft, code := .stopUnconfirmed, iid := some n
                          booking := some i.booking } s).cnd ∧
        (i.stopReason = some .abandoned → u.bkt = s.bkt ∧ PassAsked s u) ∧
        (i.stopReason ≠ some .abandoned →
          HandedDone (finished .done .stopUnconfirmed none s.clk.count i) i s u) ∧
        LeftTuner n t s u ∧ n ∉ u.lnk.actionSet ∧ u.lnk.tx = s.lnk.tx ∧ u.gst = s.gst ∧
        u.run.claims = s.run.claims ∧ u.clk.count = s.clk.count)

/-- The part gave up on the recording before a report came (R150). -/
abbrev GaveUp (i : Inst) : Prop :=
  i.state = .cancelled ∨ isTerminal i.state = true ∧
    ∃ o ∈ i.outcome, o.cause = .startUnconfirmed ∨ o.cause = .stopUnconfirmed ∨ o.cause = .deleted

/-- A STARTED report opens a segment from now and makes a STARTING recording RECORDING, or STOPPING at once when its
stop moment has passed; the lock monitor of its tuner is armed when it is OFF (R146). Every other STARTED report is
refused (R150). -/
def Obligations.StartedReportRecords : Prop :=
  ∀ (s : State) (tag : Byte) (p : List Byte) (n : Nat), Settled s → DistinctIds s → Takes p s →
    parseAll pReport p = .ok (n, .started) →
    (findInst n s = none →
      exec (.recReportStarted tag p) s = .next (answered 0x38 tag p (refusalTo 0x38 tag .notFound) s)) ∧
    (∀ i, findInst n s = some i →
      (GaveUp i → exec (.recReportStarted tag p) s = .next (answered 0x38 tag p (refusalTo 0x38 tag .tooLate) s)) ∧
      (¬ GaveUp i → i.state ≠ .starting →
        exec (.recReportStarted tag p) s = .next (answered 0x38 tag p (refusalTo 0x38 tag .notAllowed) s)) ∧
      (∀ t, i.state = .starting → i.outcome = none → i.tuner = some t → (tunerRun t s).mon ≠ .gap →
        let recording := fun (j : Inst) =>
          { j with
            state := .recording, segments := j.segments ++ [{ start := s.clk.count, stop := none }]
            entries := j.entries + 1 }
        (i.stopAt = some .opened ∨ (∃ m, i.stopAt = some (.at m) ∧ s.clk.count < m) →
          ∃ u, exec (.recReportStarted tag p) s = .next u ∧
            u.lst.insts = changedAt n recording s ∧
            heldDelay (.startConfirm n) u = none ∧ n ∉ u.lnk.actionSet ∧
            ((tunerRun t s).mon = .off → (tunerRun t s).grace = none →
              (tunerRun t u).grace = some (s.clk.count + 5) ∧ (tunerRun t u).mon = .off ∧
              (heldDue (.graceEnd t) u).map (fun d => d.time) = some (s.clk.count + 5)) ∧
            ((tunerRun t s).mon ≠ .off → u.run = s.run) ∧
            (∀ x, (tunerRun x u).active = (tunerRun x s).active) ∧
            u.lnk.tx = s.lnk.tx ++ [okTo 0x38 tag (.report .recording)] ∧
            u.cnd = s.cnd ∧ u.pln = s.pln ∧ OtherPartsKept s u) ∧
        (∀ m, i.stopAt = some (.at m) → m ≤ s.clk.count →
          ∃ u, exec (.recReportStarted tag p) s = .next u ∧
            u.lst.insts = changedAt n (fun j => stopped .stopMoment s.clk.count (recording j)) s ∧
            n ∈ u.lnk.actionSet ∧
            u.lnk.tx = s.lnk.tx ++ [okTo 0x38 tag (.report .stopping)] ∧ u.cnd = s.cnd ∧
            OtherPartsKept s u)))

/-- A START_FAILED report makes a STARTING recording FAILED with the host's reason (R147); a reason of 0 is refused. A
STOPPED report ends a STOPPING recording as its stop reason gives, and makes a RECORDING one DONE with HOST_STOP and,
when it comes before the stop moment, STOPPED_EARLY (R149). One that ends DONE is handed to the Booking Table: its EVENT
booking becomes SPENT, and from 900 per-mille its pair enters the history (R46, R53, R54). The booking ids of START_FAILED
and STOPPED_EARLY are the model's choice (log entry 9). -/
def Obligations.FailedAndStoppedReportsEnd : Prop :=
  ∀ (s : State) (tag : Byte) (p : List Byte) (n : Nat) (i : Inst) (t : Tuner), Settled s → DistinctIds s →
    NobodyWaits s → Takes p s → findInst n s = some i → i.outcome = none → i.tuner = some t →
    (tunerRun t s).mon ≠ .gap → n ∈ (tunerRun t s).active → n ∉ (tunerRun (otherTuner t) s).active →
    (parseAll pReport p = .ok (n, .startFailed 0) →
      exec (.recReportStartFailed tag p) s = .next (answered 0x38 tag p (refusalTo 0x38 tag .badField) s)) ∧
    (∀ c, parseAll pReport p = .ok (n, .startFailed c) → c ≠ 0 → i.state = .starting →
      ∃ u, exec (.recReportStartFailed tag p) s = .next u ∧
        u.lst.insts = changedAt n (finished .failed .startFailed (some c) s.clk.count) s ∧
        u.cnd = (submit (startFailed t i s) s).cnd ∧ LeftTuner n t s u ∧ n ∉ u.lnk.actionSet ∧
        heldDelay (.startConfirm n) u = none ∧
        u.lnk.tx = s.lnk.tx ++ [okTo 0x38 tag (.report .failed)] ∧ PassAsked s u ∧ OtherPartsKept s u) ∧
    (parseAll pReport p = .ok (n, .stopped) → i.state = .stopping →
      ∃ u, exec (.recReportStopped tag p) s = .next u ∧
        u.lst.insts = changedAt n (if i.stopReason = some .abandoned
          then finished .failed .abandoned none s.clk.count else finished .done .reportedStop none s.clk.count) s ∧
        LeftTuner n t s u ∧ n ∉ u.lnk.actionSet ∧ heldDelay (.stopConfirm n) u = none ∧
        u.lnk.tx = s.lnk.tx ++ [okTo 0x38 tag
          (.report (if i.stopReason = some .abandoned then .failed else .done))] ∧
        (i.stopReason = some .abandoned → u.bkt = s.bkt ∧ PassAsked s u) ∧
        (i.stopReason ≠ some .abandoned → HandedDone (finished .done .reportedStop none s.clk.count i) i s u) ∧
        u.cnd = s.cnd ∧ u.gst = s.gst ∧ u.run.claims = s.run.claims ∧ u.clk.count = s.clk.count) ∧
    (parseAll pReport p = .ok (n, .stopped) → i.state = .recording →
      ∃ u, exec (.recReportStopped tag p) s = .next u ∧
        u.lst.insts = changedAt n (finished .done .hostStop none s.clk.count) s ∧
        LeftTuner n t s u ∧
        u.lnk.tx = s.lnk.tx ++ [okTo 0x38 tag (.report .done)] ∧
        HandedDone (finished .done .hostStop none s.clk.count i) i s u ∧
        ((i.stopAt = some .opened ∨ ∃ m, i.stopAt = some (.at m) ∧ s.clk.count < m) →
          u.cnd = (submit { bank := tunerBank t, cls := .deferred, code := .stoppedEarly, iid := some n
                            booking := some i.booking } s).cnd) ∧
        ((∃ m, i.stopAt = some (.at m) ∧ m ≤ s.clk.count) → u.cnd = s.cnd) ∧
        u.gst = s.gst ∧ u.run.claims = s.run.claims ∧ u.clk.count = s.clk.count)

/-! ## Run Control: claims, monitors and the window close -/

/-- The state with other claims. -/
def withClaims (cs : List Claim) (s : State) : State := { s with run := { s.run with claims := cs } }

/-- The state with the requests of a kind withdrawn. -/
def withoutDue (k : DueKind) (s : State) : State := { s with clk := { s.clk with dues := duesWithout k s } }

/-- A claim or a tuner's multiplex stands in the way of a claim (R154). -/
abbrev ClaimBlocked (self : Option Nat) (t : Tuner) (mux : Nat) (s : State) : Prop :=
  (∃ m ∈ (tunerRun t s).mux, m ≠ mux) ∨ ∃ c ∈ s.run.claims, c.tuner = t ∧ c.mux ≠ mux ∧ some c.id ≠ self

/-- VIEW_CLAIM and VIEW_RELEASE (R154, R155): the checks in their order, for a new claim and for a change; the new claim
under the lowest free id with its priority clamped, the change that removes a yield mark and its warning, and the release.
Nothing waits for a tuner. -/
def Obligations.ClaimsTakenChangedReleased : Prop :=
  (∀ (s : State) (tag : Byte) (p : List Byte) (m : ClaimMsg), Settled s → Takes p s → parseAll pClaim p = .ok m →
    (m.tuner ≠ 0 ∧ m.tuner ≠ 1) ∨ m.mux = 0 →
    (m.claim = none →
      exec (.viewClaimNew tag p) s = .next (answered 0x39 tag p (refusalTo 0x39 tag .badField) s)) ∧
    (m.claim ≠ none →
      exec (.viewClaimChange tag p) s = .next (answered 0x39 tag p (refusalTo 0x39 tag .badField) s))) ∧
  (∀ (s : State) (tag : Byte) (p : List Byte) (m : ClaimMsg) (t : Tuner), Settled s → Takes p s →
    parseAll pClaim p = .ok m → m.claim = none → m.tuner = tunerNum t → m.mux ≠ 0 →
    (s.wsv.host ≠ .awake →
      exec (.viewClaimNew tag p) s = .next (answered 0x39 tag p (refusalTo 0x39 tag .notAllowed) s)) ∧
    (s.wsv.host = .awake → ClaimBlocked none t m.mux s →
      exec (.viewClaimNew tag p) s = .next (answered 0x39 tag p (refusalTo 0x39 tag .notAllowed) s)) ∧
    (s.wsv.host = .awake → ¬ ClaimBlocked none t m.mux s →
      (∃ c ∈ s.run.claims, c.id = 1) → (∃ c ∈ s.run.claims, c.id = 2) →
      exec (.viewClaimNew tag p) s = .next (answered 0x39 tag p (refusalTo 0x39 tag .full) s)) ∧
    (∀ n, s.wsv.host = .awake → ¬ ClaimBlocked none t m.mux s →
      (n = 1 ∧ (∀ c ∈ s.run.claims, c.id ≠ 1) ∨
        n = 2 ∧ (∃ c ∈ s.run.claims, c.id = 1) ∧ ∀ c ∈ s.run.claims, c.id ≠ 2) →
      exec (.viewClaimNew tag p) s = .next (askPass (answered 0x39 tag p
        (replyTo 0x39 tag .ok (decide (7 < m.priority)) (.claim n t))
        (withClaims (insertBy claimLt
          { id := n, tuner := t, mux := m.mux, priority := min 7 m.priority, yieldTo := none } s.run.claims) s))))) ∧
  (∀ (s : State) (tag : Byte) (p : List Byte) (m : ClaimMsg) (t : Tuner) (n : Nat), Settled s → NobodyWaits s →
    Takes p s → parseAll pClaim p = .ok m → m.claim = some n → m.tuner = tunerNum t → m.mux ≠ 0 →
    (s.wsv.host ≠ .awake →
      exec (.viewClaimChange tag p) s = .next (answered 0x39 tag p (refusalTo 0x39 tag .notAllowed) s)) ∧
    (s.wsv.host = .awake → (∀ c ∈ s.run.claims, c.id ≠ n) →
      exec (.viewClaimChange tag p) s = .next (answered 0x39 tag p (refusalTo 0x39 tag .notFound) s)) ∧
    (∀ old, s.wsv.host = .awake → s.run.claims.find? (fun c => c.id == n) = some old →
      (ClaimBlocked (some n) t m.mux s →
        exec (.viewClaimChange tag p) s = .next (answered 0x39 tag p (refusalTo 0x39 tag .notAllowed) s)) ∧
      (¬ ClaimBlocked (some n) t m.mux s →
        let reply := replyTo 0x39 tag .ok (decide (7 < m.priority)) (.claim n t)
        let same := old.tuner = t ∧ old.mux = m.mux ∧ old.priority = min 7 m.priority
        (same → exec (.viewClaimChange tag p) s = .next (answered 0x39 tag p reply s)) ∧
        (¬ same → exec (.viewClaimChange tag p) s = .next (askPass (answered 0x39 tag p reply
          (withoutDue (.yieldWarning n) (withClaims (s.run.claims.map (fun c => if c.id = n then
            { c with tuner := t, mux := m.mux, priority := min 7 m.priority, yieldTo := none } else c)) s))))))) ) ∧
  (∀ (s : State) (tag : Byte) (p : List Byte) (n : Nat), Settled s → NobodyWaits s → Takes p s →
    parseAll pU8 p = .ok n →
    ((∀ c ∈ s.run.claims, c.id ≠ n) →
      exec (.viewRelease tag p) s = .next (answered 0x3A tag p (refusalTo 0x3A tag .notFound) s)) ∧
    ((∃ c ∈ s.run.claims, c.id = n) →
      exec (.viewRelease tag p) s = .next (askPass (answered 0x3A tag p (okTo 0x3A tag .empty)
        (withoutDue (.yieldWarning n) (withClaims (s.run.claims.filter (fun c => c.id != n)) s))))))

/-- A notice behind those that wait, or the overflow flag when 48 wait (R202). -/
def withNotice (b : NoticeBody) (s : State) : State :=
  if s.lnk.notices.length < 48 then
    { s with lnk := { s.lnk with notices := s.lnk.notices ++ [{ body := b, time := s.clk.count }] } }
  else { s with lnk := { s.lnk with overflow := true } }

/-- The state with the run record of a tuner changed. -/
def withTuner (t : Tuner) (f : TunerRun → TunerRun) (s : State) : State :=
  match t with
  | .a => { s with run := { s.run with tunerA := f s.run.tunerA } }
  | .b => { s with run := { s.run with tunerB := f s.run.tunerB } }

/-- The state with another bank or gap counter in the Condition Log. -/
def withBank (k : BankId) (f : Bank → Bank) (s : State) : State := { s with cnd := setBank k (f (bankAt k s.cnd)) s.cnd }
def withGap (t : Tuner) (f : GapCounter → GapCounter) (s : State) : State :=
  { s with cnd := setGap t (f (gapAt t s.cnd)) s.cnd }

/-- A recording but for its gap tenths. -/
def uncharged (i : Inst) : Inst := { i with gapTenths := 0 }

/-- A recording that is RECORDING on a tuner. -/
abbrev RecordingOn (t : Tuner) (i : Inst) : Prop := i.state = .recording ∧ i.tuner = some t

/-- The tenths of a gap, from its drop time up to a monitor time, that lie inside a recording's core and inside its open
segment (R159). -/
def gapShare (drop upTo : Nat) (i : Inst) : Nat :=
  match i.segments.find? (fun g => g.stop.isNone) with
  | none => 0
  | some g => min upTo (10 * (i.start + i.dur)) - max drop (max (10 * i.start) (10 * g.start))

/-- A recording charged with its share of a gap (R159). The sum stays within ten times the core duration (R164; how the
model keeps it so: log entry 32). -/
def gapCharged (drop upTo : Nat) (i : Inst) : Inst :=
  if gapShare drop upTo i = 0 then i
  else { i with gapTenths := min (10 * i.dur) (i.gapTenths + gapShare drop upTo i) }

/-- The advance of a tuner bank's gap counter by a closed gap, with the threshold test (R172, R173). -/
def gapAdvanced (t : Tuner) (s : State) : State :=
  let g := gapAt t s.cnd
  if g.count < 65535 ∧ g.count + 1 = g.threshold ∧ g.armed = true then
    withNotice (.threshold (tunerBank t) g.threshold)
      (withGap t (fun g => { g with count := g.count + 1, armed := false }) s)
  else withGap t (fun g => { g with count := min 65535 (g.count + 1) }) s

/-- The condition SIGNAL_GAP of a tuner (R159), without a booking id (the model's choice, log entry 9). -/
def signalGap (t : Tuner) (named : Option Nat) : Condition :=
  { bank := tunerBank t, cls := .deferred, code := .signalGap, iid := named, booking := none }

/-- The recording that SIGNAL_GAP names (R159): one that was charged for the gap, at its close or when it left RECORDING
before, and none when none was. Which of several is free (log entry 9). -/
abbrev NamesCharged (t : Tuner) (drop upTo : Nat) (s : State) (named : Option Nat) : Prop :=
  let charged := fun (n : Nat) => n ∈ (tunerRun t s).charged ∨
    ∃ i ∈ s.lst.insts, i.id = n ∧ RecordingOn t i ∧ gapShare drop upTo i ≠ 0
  (∀ n, named = some n → charged n) ∧ (named = none → ∀ n, ¬ charged n)

/-- The lock monitor (R157 to R159): the grace end makes it WATCHING when a recording is RECORDING on its tuner, and
leaves it OFF otherwise; at a tick it acts by its state and the lock input, and the tick delay runs anew. A tick that
closes a gap charges each recording RECORDING on the tuner with its share, advances the gap counter, posting THRESHOLD
when it comes to the threshold while armed, and submits SIGNAL_GAP (R159, R172, R173; the cap on the charges is log entry
32's, the recording named and the booking id are log entry 9's); no other tick changes a recording or posts a notice. -/
def Obligations.LockMonitorWatches : Prop :=
  (∀ (s : State) (t : Tuner), Settled s → Delivered (.graceEnd t) s →
    ((∃ i ∈ s.lst.insts, i.state = .recording ∧ i.tuner = some t) →
      ∃ u, exec (.lockGraceEnd t) s = .next u ∧
        u.run = (withTuner t (fun r => { r with mon := .watching, grace := none }) s).run ∧
        heldDelay (.lockTick t) u = some { kind := .lockTick t, left := Config.tickUnits } ∧
        u = { s with run := u.run, clk := { s.clk with dues := duesWithout (.graceEnd t) s
                                                       delays := u.clk.delays } }) ∧
    ((∀ i ∈ s.lst.insts, ¬ (i.state = .recording ∧ i.tuner = some t)) →
      exec (.lockGraceEnd t) s =
        .next (withoutDue (.graceEnd t) (withTuner t (fun r => { r with grace := none }) s)))) ∧
  (∀ (s : State) (t : Tuner) (low : Bool) (d : DelayReq), Settled s → heldDelay (.lockTick t) s = some d →
    s.clk.sub + d.left < Config.unitsPerSecond →
    let r := tunerRun t s
    let time := 10 * s.clk.count + 10 * (s.clk.sub + d.left) / Config.unitsPerSecond
    ∃ u, exec (.lockMonitorTick t (!low)) s = .next u ∧
      (r.mon = .watching → low = false → tunerRun t u = { r with lockPin := true } ∧ u.cnd = s.cnd) ∧
      (r.mon = .watching → low = true →
        tunerRun t u = { r with lockPin := false, mon := .dropping, drop := some time, tol := s.run.gapTol } ∧
        u.cnd = s.cnd) ∧
      (r.mon = .dropping → low = false →
        tunerRun t u = { r with lockPin := true, mon := .watching, drop := none } ∧ u.cnd = s.cnd) ∧
      (r.mon = .dropping → low = true → 2 ≤ r.tol →
        tunerRun t u = { r with lockPin := false, tol := r.tol - 1 } ∧ u.cnd = s.cnd) ∧
      (∀ t0, r.mon = .dropping → low = true → r.tol ≤ 1 → r.drop = some t0 →
        tunerRun t u = { r with lockPin := false, mon := .gap, tol := 0 } ∧ u.cnd = s.cnd ∧
        (heldDue (.abandon t) u).map (fun x => x.time) = some (t0 / 10 + s.run.abandonLimit)) ∧
      (r.mon = .gap → low = true → tunerRun t u = { r with lockPin := false } ∧ u.cnd = s.cnd) ∧
      (r.mon = .gap → low = false →
        tunerRun t u = { r with lockPin := true, mon := .watching, drop := none, charged := [] } ∧
        heldDue (.abandon t) u = none ∧
        (gapAt t u.cnd).count = min 65535 ((gapAt t s.cnd).count + 1)) ∧
      (r.mon ≠ .off → heldDelay (.lockTick t) u = some { kind := .lockTick t, left := Config.tickUnits }) ∧
      tunerRun (otherTuner t) u = tunerRun (otherTuner t) s ∧
      u.pln = s.pln ∧ u.bkt = s.bkt ∧ u.gst = s.gst ∧ u.wsv = s.wsv ∧ u.lnk.tx = s.lnk.tx ∧
      u.clk.count = s.clk.count ∧
      u.lst.insts.map uncharged = s.lst.insts.map uncharged ∧
      (∀ t0, r.mon = .gap → low = false → r.drop = some t0 → DistinctIds s →
        u.lst.insts = s.lst.insts.map (fun i => if RecordingOn t i then gapCharged t0 time i else i) ∧
        ∃ named, NamesCharged t t0 time s named ∧
          u.cnd = (submit (signalGap t named) (gapAdvanced t s)).cnd ∧
          u.lnk = (withAttn (submit (signalGap t named) (gapAdvanced t s))).lnk) ∧
      (¬ (r.mon = .gap ∧ low = false) → u.lst = s.lst ∧ u.lnk = s.lnk))

/-- The condition LOCK_ABANDONED of a tuner (R160), without instance and booking ids (the model's choice, log entry 9). -/
def lockAbandoned (t : Tuner) : Condition :=
  { bank := tunerBank t, cls := .hard, code := .lockAbandoned, iid := none, booking := none }

/-- The abandonment of a tuner in GAP (R160): every recording RECORDING on it goes to STOPPING with ABANDONED, the others
stand as they stood, the monitor is OFF, the tuner's gap counter has advanced, and a pass is asked for. The gap is closed
first, at now, as in the statement above: the charges, THRESHOLD and SIGNAL_GAP (R159, R172, R173; log entries 9 and 32),
and LOCK_ABANDONED follows. A monitor that is not in GAP takes no abandonment. -/
def Obligations.LockAbandonStopsTheTuner : Prop :=
  ∀ (s : State) (t : Tuner), Settled s → DistinctIds s → Delivered (.abandon t) s →
    ((tunerRun t s).mon = .gap →
      ∃ u, exec (.lockAbandon t) s = .next u ∧
        u.lst.insts.map uncharged = s.lst.insts.map (fun i => uncharged (if i.state = .recording ∧ i.tuner = some t
          then stopped .abandoned s.clk.count i else i)) ∧
        (tunerRun t u).mon = .off ∧ (tunerRun t u).tol = 0 ∧ (tunerRun t u).drop = none ∧
        (tunerRun t u).grace = none ∧ (tunerRun t u).active = (tunerRun t s).active ∧
        heldDelay (.lockTick t) u = none ∧
        tunerRun (otherTuner t) u = tunerRun (otherTuner t) s ∧
        (gapAt t u.cnd).count = min 65535 ((gapAt t s.cnd).count + 1) ∧
        PassAsked s u ∧ u.lnk.tx = s.lnk.tx ∧ OtherPartsKept s u ∧
        (∀ i ∈ s.lst.insts, RecordingOn t i →
          heldDelay (.stopConfirm i.id) u = some { kind := .stopConfirm i.id, left := 30 * Config.unitsPerSecond }) ∧
        (∀ t0, (tunerRun t s).drop = some t0 →
          let time := 10 * s.clk.count + 10 * s.clk.sub / Config.unitsPerSecond
          u.lst.insts = s.lst.insts.map (fun i => if RecordingOn t i
            then stopped .abandoned s.clk.count (gapCharged t0 time i) else i) ∧
          ∃ named, NamesCharged t t0 time s named ∧
            let v := submit (lockAbandoned t) (submit (signalGap t named) (gapAdvanced t s))
            u.cnd = v.cnd ∧ u.lnk.notices = v.lnk.notices ∧ u.lnk.overflow = v.lnk.overflow)) ∧
    ((tunerRun t s).mon ≠ .gap → exec (.lockAbandon t) s = .next (withoutDue (.abandon t) s))

/-- A yield warning that falls due posts TUNER_YIELD for a claim that still holds its mark (R156), and does nothing to
one that holds none. The window close of a waiting resume makes the INTERRUPTED recording DONE with WINDOW_CLOSED (R163),
and it is handed to the Booking Table (R46, R54). -/
def Obligations.YieldWarningPostsAndWindowCloseEnds : Prop :=
  (∀ (s : State) (n : Nat) (c : Claim), Settled s → Delivered (.yieldWarning n) s →
    s.run.claims.find? (fun x => x.id == n) = some c →
    (∀ iid, c.yieldTo = some iid →
      exec (.yieldWarning n) s =
        .next (withAttn (withNotice (.tunerYield n iid c.tuner) (withoutDue (.yieldWarning n) s)))) ∧
    (c.yieldTo = none → exec (.yieldWarning n) s = .next (withoutDue (.yieldWarning n) s))) ∧
  (∀ (s : State) (n : Nat) (i : Inst), Settled s → DistinctIds s → NotActive n s → Delivered (.windowClose n) s →
    findInst n s = some i → (∀ t, i.tuner = some t → (tunerRun t s).mon ≠ .gap) →
    (i.state = .interrupted →
      ∃ u, exec (.windowClose n) s = .next u ∧
        u.lst.insts = changedAt n (finished .done .windowClosed none s.clk.count) s ∧
        HandedDone (finished .done .windowClosed none s.clk.count i) i s u ∧
        (∀ x, (tunerRun x u).active = (tunerRun x s).active) ∧ u.cnd = s.cnd ∧ u.lnk.tx = s.lnk.tx ∧
        (s.lnk.notices.length < 48 →
          ({ body := .outcomeReady .done n i.booking, time := s.clk.count } : Notice) ∈ u.lnk.notices) ∧
        u.gst = s.gst ∧ u.run.claims = s.run.claims ∧ u.clk.count = s.clk.count) ∧
    (i.state ≠ .interrupted → exec (.windowClose n) s = .next (withoutDue (.windowClose n) s)))

/-! ## The Wake Supervisor -/

/-- A recording is in the hands of the host: STARTING, RECORDING or STOPPING. -/
abbrev WithHost (i : Inst) : Prop := i.state = .starting ∨ i.state = .recording ∨ i.state = .stopping

/-- A recording after a failure of the host at a time (R162): STARTING and RECORDING become INTERRUPTED with their open
segment closed and a run end, which is the window end, the stop moment that the end of an overrun has fixed, or now when
it was in overrun; STOPPING ends; all else of a recording, its tuner and window among it, stands as it stood. `entries` is
the model's own count of the running states entered (log entry 52). -/
def lostAt (t : Nat) (i : Inst) : Inst :=
  match i.state with
  | .starting | .recording =>
    { closeSegments t i with
      state := .interrupted, overrun := none, stopAt := none, entries := i.entries + 1
      stopFixed := i.stopFixed || i.overrun.isSome
      runEnd := if i.overrun ≠ none then some t else
        match i.stopFixed, i.stopAt with
        | true, some (.at m) => some m
        | _, _ => some (winEnd i) }
  | .stopping =>
    if i.stopReason = some .abandoned then finished .failed .abandoned none t i else finished .done .hostLost none t i
  | .pending | .planned | .clashed | .interrupted | .done | .missed | .failed | .cancelled => i

/-- The keepalive expires in AWAKE (R183, R155, R162): HOST_HUNG is logged by the running count, a reset pulse and a wake
begin, the claims go, the monitors turn OFF, and no recording is left STARTING, RECORDING or STOPPING: the first two are
INTERRUPTED, keeping their tuner, window and segments, the third has ended; they hold no request and no delay, and the
tuners on which nothing else is active go idle. A STOPPING recording that ends DONE is handed to the Booking Table (R46,
R54), stated for one at a time. `entries` is the model's own (log entry 52). -/
def Obligations.KeepaliveExpiryWakesAndInterrupts : Prop :=
  ∀ s : State, Settled s → DistinctIds s → (∀ t, (tunerRun t s).mon ≠ .gap) → Elapses .keepalive s →
    s.wsv.host = .awake →
    ∃ u, exec .keepaliveExpiry s = .next u ∧
      u.wsv = { s.wsv with host := .waking, attempts := 1, wakeOut := true, reason := .none, standbyWanted := false
                           resetOut := true } ∧
      heldDelay .keepalive u = none ∧
      heldDelay .wakeTimeout u = some { kind := .wakeTimeout, left := 180 * Config.unitsPerSecond } ∧
      heldDelay .resetPulse u = some { kind := .resetPulse, left := Config.pulseUnits } ∧
      u.cnd = (submit { bank := .wake, cls := if runningCount s = 0 then .soft else .hard, code := .hostHung
                        iid := none, booking := none } s).cnd ∧
      u.run.claims = [] ∧ (∀ t, (tunerRun t u).mon = .off ∧ (tunerRun t u).grace = none) ∧
      u.lst.insts = s.lst.insts.map (lostAt s.clk.count) ∧
      (∀ t, (∀ k ∈ (tunerRun t s).active, ∃ i ∈ s.lst.insts, i.id = k ∧ WithHost i) →
        ((tunerRun t s).active = [] → (tunerRun t s).mux = none) →
        (tunerRun t u).active = [] ∧ (tunerRun t u).mux = none) ∧
      (∀ i ∈ s.lst.insts, WithHost i →
        (∀ k ∈ [DueKind.coreEnd i.id, .stopMoment i.id, .overrunCap i.id, .heldLimit i.id, .windowClose i.id],
          heldDue k u = none) ∧
        heldDelay (.startConfirm i.id) u = none ∧ heldDelay (.stopConfirm i.id) u = none) ∧
      ((∀ i ∈ s.lst.insts, i.state ≠ .stopping) → u.bkt = s.bkt) ∧
      (∀ i ∈ s.lst.insts, i.state = .stopping → (∀ j ∈ s.lst.insts, j.state = .stopping → j.id = i.id) →
        u.bkt = if i.stopReason = some .abandoned then s.bkt else doneTable (lostAt s.clk.count i) s) ∧
      (s.run.claims ≠ [] ∨ (∃ i ∈ s.lst.insts, WithHost i ∧ i.overrun ≠ none) ∨
        (∃ i ∈ s.lst.insts, i.state = .stopping ∧ i.stopReason = some .abandoned) ∨
        u.bkt.history ≠ s.bkt.history → PassAsked s u) ∧
      u.lnk.tx = s.lnk.tx ∧ u.gst = s.gst ∧ u.clk.count = s.clk.count

/-- A wake due begins a wake in STANDBY or SILENT, naming the recording of the earliest planned window start (R185); the
wake timeout pulses the reset output twice and then gives the host up as SILENT (R186); the end of a pulse releases the
output (R180). That WAKE_FAILED carries no booking id is the model's choice (log entry 9). -/
def Obligations.WakeAttemptsAndSilence : Prop :=
  (∀ (s : State) (n w : Nat), Settled s → Delivered .wakeDue s → s.wsv.host = .standby ∨ s.wsv.host = .silent →
    s.lst.earliest = some w → (∃ i ∈ s.lst.insts, i.id = n ∧ i.state = .planned ∧ winStart i = w) →
    (∀ i ∈ s.lst.insts, i.state = .planned → winStart i = w → n ≤ i.id) →
    ∃ u, exec .wakeDue s = .next u ∧
      u.wsv = { s.wsv with host := .waking, attempts := 1, wakeOut := true, silentFloor := none
                           reason := .recording n } ∧
      heldDelay .wakeTimeout u = some { kind := .wakeTimeout, left := 180 * Config.unitsPerSecond } ∧
      heldDue .wakeDue u = none ∧
      u = { s with wsv := u.wsv, clk := { s.clk with dues := u.clk.dues, delays := u.clk.delays } }) ∧
  (∀ s : State, Settled s → Elapses .wakeTimeout s → s.wsv.host = .waking →
    (s.wsv.attempts < 3 →
      ∃ u, exec .wakeTimeout s = .next u ∧
        u.wsv = { s.wsv with attempts := s.wsv.attempts + 1, resetOut := true } ∧
        heldDelay .wakeTimeout u = some { kind := .wakeTimeout, left := 180 * Config.unitsPerSecond } ∧
        heldDelay .resetPulse u = some { kind := .resetPulse, left := Config.pulseUnits } ∧
        u = { s with wsv := u.wsv, clk := { s.clk with sub := u.clk.sub, delays := u.clk.delays } }) ∧
    (3 ≤ s.wsv.attempts →
      ∃ u, exec .wakeTimeout s = .next u ∧
        u.wsv = { s.wsv with host := .silent, wakeOut := false, silentFloor := some s.clk.count } ∧
        heldDelay .wakeTimeout u = none ∧
        u.cnd = (submit { bank := .wake, cls := .hard, code := .wakeFailed
                          iid := match s.wsv.reason with
                            | .recording n => some n
                            | _ => none
                          booking := none } s).cnd ∧
        (∀ w, s.lst.earliest = some w → s.clk.count < w →
          (heldDue .wakeDue u).map (fun d => d.time) = some (w - s.wsv.wakeLead)) ∧
        u.gst = s.gst ∧ u.bkt = s.bkt ∧ u.lst = s.lst ∧ u.run = s.run ∧ u.pln = s.pln ∧ u.lnk.tx = s.lnk.tx)) ∧
  (∀ s : State, Settled s → Elapses .resetPulse s →
    ∃ u, exec .resetPulseEnd s = .next u ∧ u.wsv = { s.wsv with resetOut := false } ∧
      heldDelay .resetPulse u = none ∧
      u = { s with wsv := u.wsv, clk := { s.clk with sub := u.clk.sub, delays := u.clk.delays } })

/-- The state of the Wake Supervisor that a HELLO leaves (R187). -/
def afterHello (w : WakeSup) : WakeSup :=
  { w with host := .awake, wakeOut := false, resetOut := false, silentFloor := none, standbyWanted := false
           reason := .none, attempts := 0 }

/-- HELLO in every host state (R187 to R189), when no recording is running and no start is held: the host is AWAKE, the
outputs are released, the timers ended, the claims dropped, and the reply carries what was held. A HELLO while AWAKE logs
HOST_RESTARTED. The next statement is about a HELLO that finds work. -/
def Obligations.HelloMakesTheHostAwake : Prop :=
  ∀ (s : State) (tag : Byte), Settled s → Takes [] s → (∀ t, (tunerRun t s).mon ≠ .gap) →
    (∀ i ∈ s.lst.insts, isRunning i.state = false ∧ ¬ (i.state = .planned ∧ i.startHeld = true)) →
    ∃ u, exec (.hello tag []) s = .next u ∧
      u.wsv = afterHello s.wsv ∧ u.run.claims = [] ∧
      heldDelay .wakeTimeout u = none ∧ heldDelay .resetPulse u = none ∧
      (∀ n, s.wsv.keepCode = some n → heldDelay .keepalive u =
        some { kind := .keepalive, left := 5 * 2 ^ n * Config.unitsPerSecond }) ∧
      (s.wsv.host ≠ .awake → u.cnd = s.cnd) ∧
      (s.wsv.host = .awake → u.cnd = (submit { bank := .wake, cls := .soft, code := .hostRestarted, iid := none
                                               booking := none } s).cnd) ∧
      u.lnk.tx = s.lnk.tx ++ [okTo 0x01 tag (.hello
        { causes := s.wsv.causes, previous := s.wsv.host, reason := s.wsv.reason, attempts := s.wsv.attempts
          cstate := s.clk.cstate, generation := s.pln.generation, placeable := placeableCount s, running := 0
          terminal := terminalCount s, free := 160 - s.lst.insts.length })] ∧
      (s.run.claims ≠ [] → PassAsked s u) ∧ (s.run.claims = [] → u.pln = s.pln) ∧
      u.lst = s.lst ∧ u.bkt = s.bkt ∧ u.gst = s.gst ∧ heldDue .wakeDue u = none

/-- HOST_RESTARTED, DEFERRED when a recording was running and SOFT when none was (R187). -/
def restarted (cls : CondClass) : Condition :=
  { bank := .wake, cls := cls, code := .hostRestarted, iid := none, booking := none }

/-- A recording has taken up work at a HELLO: it is in STARTING on its tuner with a stop moment. -/
abbrev TakenUp (n : Nat) (t : Tuner) (mux stop : Nat) (u : State) : Prop :=
  (tunerRun t u).active = [n] ∧ (tunerRun t u).mux = some mux ∧
  heldDelay (.startConfirm n) u = some { kind := .startConfirm n, left := 30 * Config.unitsPerSecond } ∧
  (heldDue (.stopMoment n) u).map (fun d => d.time) = some stop ∧ n ∈ u.lnk.actionSet

/-- HELLO with work to take up (R162, R163, R187, R188), stated of one recording at a time, with nothing else running or
held. A resume of an INTERRUPTED recording is refused when its run end is 5 s away or less, or its four segments are used,
and starts it otherwise. A restart of the host interrupts what runs first, with HOST_RESTARTED DEFERRED: a STOPPING
recording ends, one in overrun ends, and one that was STARTING or RECORDING is judged at once as a resume with its window
end as its run end. A held start begins late, or is MISSED when its held-start limit is 5 s away or less. A recording that
ends DONE is handed to the Booking Table (R46, R54). The booking ids of RESUME_LIMIT and START_LATE are the model's choice
(log entry 9). -/
def Obligations.HelloTakesUpWork : Prop :=
  ∀ (s : State) (tag : Byte) (n : Nat) (i : Inst) (t : Tuner) (w : Window), Settled s → DistinctIds s → Takes [] s →
    (∀ x, (tunerRun x s).mon ≠ .gap) → findInst n s = some i → i.tuner = some t → i.window = some w →
    (∀ j ∈ s.lst.insts, j.id ≠ n → isRunning j.state = false ∧ ¬ (j.state = .planned ∧ j.startHeld = true)) →
    let after := fun (f : Inst → Inst) (u : State) =>
      exec (.hello tag []) s = .next u ∧ u.wsv = afterHello s.wsv ∧ u.run.claims = [] ∧
      u.lst.insts = changedAt n f s ∧ u.gst = s.gst ∧
      u.bkt = (if (f i).state = .done then doneTable (f i) s else s.bkt) ∧
      ∃ v, u.lnk.tx = s.lnk.tx ++ [okTo 0x01 tag (.hello v)] ∧ v.previous = s.wsv.host ∧
        v.running = runningCount u ∧ v.placeable = placeableCount u ∧ v.terminal = terminalCount u
    let now := s.clk.count
    (∀ e, s.wsv.host ≠ .awake → i.state = .interrupted → i.runEnd = some e →
      (∀ x, (tunerRun x s).active = []) →
      (e ≤ now + 5 → ∃ u, after (finished .done .windowClosed none now) u ∧ u.cnd = s.cnd) ∧
      (now + 5 < e → 4 ≤ i.segments.length →
        ∃ u, after (finished .failed .resumeLimit none now) u ∧ PassAsked s u ∧
          u.cnd = (submit (tunerCond t .hard .resumeLimit i) s).cnd) ∧
      (now + 5 < e → i.segments.length < 4 →
        ∃ u, after (fun j => { started t e j with stopFixed := j.stopFixed }) u ∧ TakenUp n t i.mux e u ∧
          u.cnd = s.cnd)) ∧
    (s.wsv.host = .awake → (tunerRun t s).active = [n] → (tunerRun (otherTuner t) s).active = [] →
      let s1 := submit (restarted .deferred) s
      (i.state = .stopping →
        ∃ u, after (if i.stopReason = some .abandoned then finished .failed .abandoned none now
          else finished .done .hostLost none now) u ∧ u.cnd = s1.cnd) ∧
      (i.state = .recording → i.overrun ≠ none →
        ∃ u, after (fun j => finished .done .windowClosed none now { j with entries := j.entries + 1 }) u ∧
          PassAsked s u ∧ u.cnd = s1.cnd) ∧
      (i.state = .starting ∨ i.state = .recording → i.overrun = none → i.stopFixed = false →
        (w.we ≤ now + 5 →
          ∃ u, after (fun j => finished .done .windowClosed none now { j with entries := j.entries + 1 }) u ∧
            u.cnd = s1.cnd) ∧
        (now + 5 < w.we → 4 ≤ i.segments.length →
          ∃ u, after (fun j => finished .failed .resumeLimit none now { j with entries := j.entries + 1 }) u ∧
            PassAsked s u ∧ u.cnd = (submit (tunerCond t .hard .resumeLimit i) s1).cnd) ∧
        (now + 5 < w.we → i.segments.length < 4 →
          ∃ u, after (fun j => started t w.we { closeSegments now j with entries := j.entries + 1 }) u ∧
            TakenUp n t i.mux w.we u ∧ u.cnd = s1.cnd))) ∧
    (i.state = .planned → i.startHeld = true → (∀ x, (tunerRun x s).active = []) →
      let s1 := if s.wsv.host = .awake then submit (restarted .soft) s else s
      let limit := min (w.we - 60) (i.start + i.dur)
      (now + 5 < limit →
        ∃ u, after (started t w.we) u ∧ TakenUp n t i.mux w.we u ∧ heldDue (.heldLimit n) u = none ∧
          u.cnd = (if i.start < now then submit (tunerCond t .deferred .startLate i) s1 else s1).cnd) ∧
      (limit ≤ now + 5 →
        ∃ u, after (finished .missed .heldTooLong none now) u ∧ PassAsked s u ∧
          u.cnd = (submit (tunerCond t .hard .missed i) s1).cnd))

/-- The standby test (R190). -/
abbrev StandbyClear (s : State) : Prop :=
  (∀ i ∈ s.lst.insts, isRunning i.state = false) ∧ ∀ w ∈ s.lst.earliest, s.clk.count + s.wsv.wakeLead + 60 ≤ w

/-- STANDBY (R190): refused while the host is not AWAKE; accepted when the test passes, with the keepalive cancelled, the
claims dropped and the wake due request made; deferred otherwise, with what stood in the way in the reply. -/
def Obligations.StandbyAcceptedOrDeferred : Prop :=
  ∀ (s : State) (tag : Byte), Settled s → Takes [] s →
    (s.wsv.host ≠ .awake →
      exec (.standby tag []) s = .next (answered 0x02 tag [] (refusalTo 0x02 tag .notAllowed) s)) ∧
    (s.wsv.host = .awake → StandbyClear s →
      ∃ u, exec (.standby tag []) s = .next u ∧
        u.wsv = { s.wsv with host := .standby, standbyWanted := false } ∧ u.run.claims = [] ∧
        heldDelay .keepalive u = none ∧
        (heldDue .wakeDue u).map (fun d => d.time) = s.lst.earliest.map (fun w => w - s.wsv.wakeLead) ∧
        u.lnk.tx = s.lnk.tx ++ [okTo 0x02 tag .empty] ∧
        (s.run.claims ≠ [] → PassAsked s u) ∧ (s.run.claims = [] → u.pln = s.pln) ∧
        u.lst = s.lst ∧ u.bkt = s.bkt ∧ u.gst = s.gst ∧ u.cnd = s.cnd ∧ u.clk.count = s.clk.count) ∧
    (s.wsv.host = .awake → ¬ StandbyClear s →
      exec (.standby tag []) s = .next (answered 0x02 tag []
        (replyTo 0x02 tag .standbyDeferred false (.standbyDeferred (runningCount s) s.lst.earliest))
        { s with wsv := { s.wsv with standbyWanted := true } }))

/-- CAUSE_CLEAR empties the reset causes and reports them (R192). RESET_PART is answered OK and its reset stands
requested until the reply has been sent (R193); that 0 names WARM and 1 COLD is the model's choice (log entry 15). A reply
sent whole leaves the transmit order and the frames in hand, and stands on the line as its frame (R195, R201; that a reply
becomes bytes only then is the model's choice, log entry 36); the reply of a RESET_PART that was taken lets its reset fall
due (R193; its stages are the model's reading, log entry 31). -/
def Obligations.CausesClearedAndResetsRequested : Prop :=
  (∀ (s : State) (tag : Byte), Takes [] s →
    exec (.causeClear tag []) s = .next (answered 0x03 tag [] (okTo 0x03 tag (.causes s.wsv.causes))
      { s with wsv := { s.wsv with causes := { powerOn := false, warm := false, cold := false } } })) ∧
  (∀ (s : State) (tag b : Byte) (k : ResetKind), Takes [b] s → b = (match k with | .warm => 0 | .cold => 1) →
    exec (.resetPart tag [b]) s = .next
      { answered 0x04 tag [b] (okTo 0x04 tag .empty) s with
        lnk := { (answered 0x04 tag [b] (okTo 0x04 tag .empty) s).lnk with reset := .requested k } }) ∧
  (∀ (s : State) (tag b : Byte), Takes [b] s → 2 ≤ b.toNat →
    exec (.resetPart tag [b]) s = .next (answered 0x04 tag [b] (refusalTo 0x04 tag .badField) s)) ∧
  (∀ (s : State) (r : Reply) (rest : List Reply), s.lnk.tx = r :: rest → (∀ k, s.lnk.reset ≠ .due k) →
    exec .replySent s = .next { s with lnk := { s.lnk with
      tx := rest, inHand := s.lnk.inHand - 1, txd := frameBytes r.kind r.tag (replyPayload r)
      reset := (match s.lnk.reset with
        | .requested k => if r.kind = 0x84 ∧ r.status = .ok then .due k else .requested k
        | st => st) } })

/-! ## The Condition Log -/

/-- A submitted condition (R168 to R171): masked, it changes nothing; logged into an empty bank it is written; logged
into a bank that holds a record it is counted, and replaces the record when its class outranks the one held; and it is
reported when its class is enabled. -/
def Obligations.SubmissionMasksWritesCountsReports : Prop :=
  ∀ (c : Condition) (s : State),
    let b := bankAt c.bank s.cnd
    let r : CondRec := { cls := c.cls, code := c.code, iid := c.iid, booking := c.booking, time := s.clk.count }
    let b' := bankAt c.bank (submit c s).cnd
    (hasClass b.mask c.cls = true → submit c s = s) ∧
    (hasClass b.mask c.cls = false →
      (b.held = none → b' = { b with held := some r }) ∧
      (∀ h, b.held = some h →
        b'.overflow = true ∧ b'.further = min 255 (b.further + 1) ∧
        b'.held = some (if classNum h.cls < classNum c.cls then r else h) ∧
        b'.mask = b.mask ∧ b'.enable = b.enable) ∧
      (∀ k, k ≠ c.bank → bankAt k (submit c s).cnd = bankAt k s.cnd) ∧
      (hasClass b.enable c.cls = false → submit c s = { s with cnd := (submit c s).cnd }) ∧
      (hasClass b.enable c.cls = true →
        submit c s = { withNotice (.condition c.bank c.cls c.code c.iid) s with cnd := (submit c s).cnd }))

/-- COND_CLEAR and COND_CONFIG of one bank and of ALL (R174 to R178): a tuner's counter is zeroed and re-armed with the
counter flag alone, masks and enables reach every bank named and a threshold the tuner banks, the reply of COND_CONFIG
carries the banks written, and a bank number that names none is refused. -/
def Obligations.BanksClearedAndConfigured : Prop :=
  (∀ (s : State) (tag : Byte) (p : List Byte) (k : BankId), Takes p s →
    let clear := fun (b : Bank) => { b with held := none, overflow := false, further := 0 }
    (parseAll pCondClear p = .ok (bankNum k, false) →
      exec (.condClear tag p) s = .next (answered 0x41 tag p (okTo 0x41 tag (.condClear
        [{ id := k, bank := bankAt k s.cnd, gap := none }])) (withBank k clear s))) ∧
    (∀ t, k = tunerBank t → parseAll pCondClear p = .ok (bankNum k, true) →
      exec (.condClear tag p) s = .next (answered 0x41 tag p (okTo 0x41 tag (.condClear
        [{ id := k, bank := bankAt k s.cnd, gap := some (gapAt t s.cnd) }]))
        (withGap t (fun g => { g with count := 0, armed := true }) (withBank k clear s)))) ∧
    (k = .plan ∨ k = .wake ∨ k = .clock → parseAll pCondClear p = .ok (bankNum k, true) →
      exec (.condClear tag p) s = .next (answered 0x41 tag p (refusalTo 0x41 tag .badField) s))) ∧
  (∀ (s : State) (tag : Byte) (p : List Byte) (m : CondConfigMsg) (k : BankId), Takes p s →
    parseAll pCondConfig p = .ok m → m.bank = bankNum k →
    let config := fun (b : Bank) => { b with mask := m.mask.getD b.mask, enable := m.enable.getD b.enable }
    (m.mask = none → m.enable = none → m.threshold = none →
      exec (.condConfig tag p) s = .next (answered 0x42 tag p (refusalTo 0x42 tag .badLength) s)) ∧
    (m.mask ≠ none ∨ m.enable ≠ none → m.threshold = none →
      exec (.condConfig tag p) s = .next (answered 0x42 tag p (okTo 0x42 tag (.condConfig
        [bankView (withBank k config s) k])) (withBank k config s))) ∧
    (∀ v t, m.threshold = some v → k = tunerBank t →
      let s1 := withGap t (fun g => { g with threshold := v, armed := true }) (withBank k config s)
      exec (.condConfig tag p) s = .next (answered 0x42 tag p (okTo 0x42 tag (.condConfig [bankView s1 k])) s1)) ∧
    (∀ v, m.threshold = some v → k = .plan ∨ k = .wake ∨ k = .clock →
      exec (.condConfig tag p) s = .next (answered 0x42 tag p (refusalTo 0x42 tag .badField) s))) ∧
  (∀ (s : State) (tag : Byte) (p : List Byte) (f : Bool), Takes p s → parseAll pCondClear p = .ok (255, f) →
    let clear := fun (b : Bank) => { b with held := none, overflow := false, further := 0 }
    let zero := fun (g : GapCounter) => if f then { g with count := 0, armed := true } else g
    exec (.condClear tag p) s = .next (answered 0x41 tag p (okTo 0x41 tag (.condClear
      [{ id := .tunerA, bank := s.cnd.tunerA, gap := if f then some s.cnd.gapA else none },
       { id := .tunerB, bank := s.cnd.tunerB, gap := if f then some s.cnd.gapB else none },
       { id := .plan, bank := s.cnd.plan, gap := none }, { id := .wake, bank := s.cnd.wake, gap := none },
       { id := .clock, bank := s.cnd.clock, gap := none }]))
      { s with cnd := { tunerA := clear s.cnd.tunerA, tunerB := clear s.cnd.tunerB, plan := clear s.cnd.plan
                        wake := clear s.cnd.wake, clock := clear s.cnd.clock, gapA := zero s.cnd.gapA
                        gapB := zero s.cnd.gapB } })) ∧
  (∀ (s : State) (tag : Byte) (p : List Byte) (m : CondConfigMsg), Takes p s → parseAll pCondConfig p = .ok m →
    m.bank = 255 →
    let config := fun (b : Bank) => { b with mask := m.mask.getD b.mask, enable := m.enable.getD b.enable }
    let aim := fun (g : GapCounter) => (m.threshold.map (fun v => { g with threshold := v, armed := true })).getD g
    let s1 : State := { s with cnd := { tunerA := config s.cnd.tunerA, tunerB := config s.cnd.tunerB
                                        plan := config s.cnd.plan, wake := config s.cnd.wake
                                        clock := config s.cnd.clock, gapA := aim s.cnd.gapA, gapB := aim s.cnd.gapB } }
    (m.mask ≠ none ∨ m.enable ≠ none →
      exec (.condConfig tag p) s = .next (answered 0x42 tag p (okTo 0x42 tag (.condConfig
        [bankView s1 .tunerA, bankView s1 .tunerB, bankView s1 .plan, bankView s1 .wake, bankView s1 .clock])) s1)) ∧
    (m.mask = none → m.enable = none → m.threshold ≠ none →
      exec (.condConfig tag p) s = .next (answered 0x42 tag p (okTo 0x42 tag (.condConfig
        [bankView s1 .tunerA, bankView s1 .tunerB])) s1))) ∧
  (∀ (s : State) (tag : Byte) (p : List Byte) (n : Nat), Takes p s → 5 ≤ n → n ≠ 255 →
    (∀ f, parseAll pCondClear p = .ok (n, f) →
      exec (.condClear tag p) s = .next (answered 0x41 tag p (refusalTo 0x41 tag .badField) s)) ∧
    (∀ m, parseAll pCondConfig p = .ok m → m.bank = n → m.mask ≠ none ∨ m.enable ≠ none ∨ m.threshold ≠ none →
      exec (.condConfig tag p) s = .next (answered 0x42 tag p (refusalTo 0x42 tag .badField) s)))

/-! ## The Link Port -/

/-- NOTICE_FETCH (R203): a payload that is not empty is refused; up to eight notices leave the queue, oldest first, with the overflow flag as it stood and the
number left; the flag is cleared, and the attention output follows (R204). -/
def Obligations.NoticeFetchTakesTheOldestEight : Prop :=
  ∀ (s : State) (tag : Byte) (p : List Byte), Settled s → Takes p s →
    (p = [] → exec (.noticeFetch tag p) s = .next (withAttn (answered 0x08 tag p
      (okTo 0x08 tag (.notices s.lnk.overflow (s.lnk.notices.length - 8) (s.lnk.notices.take 8)))
      { s with lnk := { s.lnk with notices := s.lnk.notices.drop 8, overflow := false } }))) ∧
    (p ≠ [] → exec (.noticeFetch tag p) s = .next (answered 0x08 tag p (refusalTo 0x08 tag .badLength) s))

/-- CONFIG_SET of one item (R206, R38, R139, R181): the value is clamped into the item's range, written to its owner and
given back; no other setting changes, and no pass is asked for. -/
def Obligations.ConfigSetWritesOneSetting : Prop :=
  ∀ (s : State) (tag : Byte) (p : List Byte) (n v : Nat), Settled s → Takes p s →
    parseAll (pItems p.length) p = .ok [(n, v)] → s.wsv.standbyWanted = false →
    (∀ t, (tunerRun t s).mon ≠ .gap) →
    (n = 0 ∨ 8 < n →
      exec (.configSet tag p) s = .next (answered 0x0A tag p (refusalTo 0x0A tag .badField) s)) ∧
    (1 ≤ n → n ≤ 8 → ∃ u v', exec (.configSet tag p) s = .next u ∧
      u.lnk.tx = s.lnk.tx ++ [replyTo 0x0A tag .ok (decide (v' ≠ v)) (.settings [(n, v')])] ∧
      (n = 1 → v' = max 1 (min 7 v)) ∧ (n = 2 → v' = min 3600 v) ∧ (n = 3 → v' = min 7200 v) ∧
      (n = 4 → v' = max 30 (min 900 v)) ∧ (n = 5 → v' = if v = 255 then 255 else min 7 v) ∧
      (n = 6 → v' = max 1 (min 255 v)) ∧ (n = 7 → v' = max 10 (min 900 v)) ∧ (n = 8 → v' = min 14400 v) ∧
      u.bkt = { s.bkt with
        defPriority := if n = 1 then v' else s.bkt.defPriority
        defPrePad := if n = 2 then v' else s.bkt.defPrePad
        defPostPad := if n = 3 then v' else s.bkt.defPostPad } ∧
      u.wsv = { s.wsv with
        wakeLead := if n = 4 then v' else s.wsv.wakeLead
        keepCode := if n = 5 then (if v' = 255 then none else some v') else s.wsv.keepCode } ∧
      u.run = { s.run with
        gapTol := if n = 6 then v' else s.run.gapTol
        abandonLimit := if n = 7 then v' else s.run.abandonLimit
        overrunLimit := if n = 8 then v' else s.run.overrunLimit } ∧
      (n = 5 → s.wsv.host = .awake → heldDelay .keepalive u = (if v' = 255 then none else
        some { kind := .keepalive, left := 5 * 2 ^ v' * Config.unitsPerSecond })) ∧
      (n = 4 → s.wsv.host = .standby → (heldDue .wakeDue u).map (fun d => d.time) =
        s.lst.earliest.map (fun w => w - v')) ∧
      u.pln = s.pln ∧ u.lst = s.lst ∧ u.gst = s.gst ∧ u.cnd = s.cnd ∧ u.clk.count = s.clk.count)

/-- The receiver after a whole frame (R196), in HUNT. -/
def withRx (rx : Rx) (s : State) : State := { s with lnk := { s.lnk with rx := rx } }

/-- The frame that a message of the host is: the kind of the catalogue (11.6), the tag and the payload. -/
def messageOf : Instr → Option (Byte × Byte × List Byte)
  | .hello tag p => some (0x01, tag, p)
  | .standby tag p => some (0x02, tag, p)
  | .causeClear tag p => some (0x03, tag, p)
  | .resetPart tag p => some (0x04, tag, p)
  | .noticeFetch tag p => some (0x08, tag, p)
  | .actionsGet tag p => some (0x09, tag, p)
  | .configSet tag p => some (0x0A, tag, p)
  | .configGet tag p => some (0x0B, tag, p)
  | .timeSet tag p => some (0x10, tag, p)
  | .timeGet tag p => some (0x11, tag, p)
  | .guidePut tag p => some (0x18, tag, p)
  | .guideDropKeys tag p | .guideDropService tag p => some (0x19, tag, p)
  | .eventStatus tag p => some (0x1A, tag, p)
  | .guideGetEvent tag p | .guideGetSummary tag p => some (0x1B, tag, p)
  | .bookEvent tag p => some (0x20, tag, p)
  | .bookSeries tag p => some (0x21, tag, p)
  | .bookManual tag p => some (0x22, tag, p)
  | .bookChange tag p => some (0x23, tag, p)
  | .bookSuspend tag p => some (0x24, tag, p)
  | .bookResume tag p => some (0x25, tag, p)
  | .bookDelete tag p => some (0x26, tag, p)
  | .bookGet tag p => some (0x27, tag, p)
  | .bookList tag p => some (0x28, tag, p)
  | .historyAdd tag p => some (0x2C, tag, p)
  | .historyDropPair tag p | .historyDropSeries tag p => some (0x2D, tag, p)
  | .historyGet tag p => some (0x2E, tag, p)
  | .instanceGet tag p => some (0x30, tag, p)
  | .planGet tag p => some (0x31, tag, p)
  | .outcomeTake tag p => some (0x32, tag, p)
  | .clashGet tag p => some (0x33, tag, p)
  | .recReportStarted tag p | .recReportStartFailed tag p | .recReportStopped tag p => some (0x38, tag, p)
  | .viewClaimNew tag p | .viewClaimChange tag p => some (0x39, tag, p)
  | .viewRelease tag p => some (0x3A, tag, p)
  | .condRead tag p => some (0x40, tag, p)
  | .condClear tag p => some (0x41, tag, p)
  | .condConfig tag p => some (0x42, tag, p)
  | _ => none

/-- A payload of this kind has a length that does not suit (R199): the kinds of one length, the kinds whose length depends
on how many there are of something, and GUIDE_GET with its two forms. -/
def wrongLength (kind : Byte) (n : Nat) : Bool :=
  if kind ∈ [0x01, 0x02, 0x03, 0x08, 0x09, (0x11 : Byte)] then n != 0
  else if kind ∈ [0x04, 0x24, 0x25, 0x26, 0x27, 0x28, 0x33, 0x3A, (0x40 : Byte)] then n != 1
  else if kind ∈ [0x30, 0x32, (0x41 : Byte)] then n != 2
  else if kind = 0x1A then n != 5
  else if kind = 0x31 then n != 9
  else if kind = 0x1B then n != 0 && n != 4
  else if kind = 0x0A then n == 0 || decide (40 < n) || n % 5 != 0
  else if kind = 0x0B then decide (8 < n)
  else false

/-- The status of a payload that could not be read. -/
def unread {α : Type} : Except Status α → Option Status
  | .ok _ => none
  | .error e => some e

/-- The refusal of a message whose payload cannot be read by the field encoding (R208), for the kinds whose payload holds
forms, counts, flags or optional fields. -/
def unreadable (kind : Byte) (p : List Byte) : Option Status :=
  if kind = 0x10 then unread (parseAll pTimeSet p)
  else if kind = 0x18 then unread (parseAll pGuidePut p)
  else if kind = 0x19 then unread (parseAll pGuideDrop p)
  else if kind = 0x20 then unread (parseAll pBookEvent p)
  else if kind = 0x21 then unread (parseAll pBookSeries p)
  else if kind = 0x22 then unread (parseAll pBookManual p)
  else if kind = 0x23 then unread (parseAll pBookChange p)
  else if kind = 0x2C then unread (parseAll pHistEntry p)
  else if kind = 0x2D then unread (parseAll pHistDrop p)
  else if kind = 0x2E then unread (parseAll pHistGet p)
  else if kind = 0x38 then unread (parseAll pReport p)
  else if kind = 0x39 then unread (parseAll pClaim p)
  else if kind = 0x41 then unread (parseAll pCondClear p)
  else if kind = 0x42 then unread (parseAll pCondConfig p)
  else none

/-- The refusal of a message. AGAIN_PENDING stands in it for INSTANCE_GET, PLAN_GET and CLASH_GET (R200; the model's
reading, log entry 44). -/
def refusedOf (kind tag : Byte) (st : Status) (s : State) : Reply :=
  { refusalTo kind tag st with againPending := decide (kind ∈ [0x30, 0x31, (0x33 : Byte)]) && s.pln.again }

/-- Frames that are not acted on (R198, R199): a frame whose check differs is answered BAD_CHECK and restarts no
keepalive; a frame of an unknown kind is taken and answered BAD_KIND; a message whose payload has the wrong length is
taken, refused with BAD_LENGTH and changes nothing else, and so is one that cannot be read, with the status its reading
gives (for a flag, presence or form byte of another value, and the widths of the fields: log entries 14 and 15); GUIDE_PUT asks the clock first (log entry 13).
While eight frames are in hand, or a reset has been requested (R193), every frame, a message of the catalogue among them,
is discarded without reply and restarts no keepalive. A partial frame, and then a byte with a line framing error, 50 ms of
silence, or a length above 512: in each case the receiver is back in HUNT, nothing is in hand for it, no reply is made, and
no keepalive is restarted: the first and the third leave every delay as it was, and in the second the others run on (R196,
R197). That the 50 ms pass on the crystal only where the current second holds them is the model's choice (log entries 4
and 12). -/
def Obligations.FramesJudgedOrDiscarded : Prop :=
  (∀ (s : State) (kind tag : Byte) (p : List Byte) (check : BitVec 16), Takes p s → check ≠ frameCheck kind tag p →
    exec (.badCheck kind tag p check) s =
      .next { s with lnk := { s.lnk with
        rx := rxAfter kind tag p check
        inHand := s.lnk.inHand + 1
        tx := s.lnk.tx ++ [{ kind := 0xFF, tag := 0, status := .badCheck, clamped := false, againPending := false
                             body := .empty }] } }) ∧
  (∀ (s : State) (kind tag : Byte) (p : List Byte), Takes p s → kind ∉ catalogue →
    exec (.badKind kind tag p) s = .next (answered kind tag p
      { kind := if 1 ≤ kind.toNat ∧ kind.toNat ≤ 0x7E then kind + 0x80 else 0xFE, tag := tag, status := .badKind
        clamped := false, againPending := false, body := .empty } s)) ∧
  (∀ (s : State) (c : Instr) (kind tag : Byte) (p : List Byte), Settled s → Takes p s →
    messageOf c = some (kind, tag, p) →
    (wrongLength kind p.length = true →
      exec c s = .next (answered kind tag p (refusedOf kind tag .badLength s) s)) ∧
    (∀ e, unreadable kind p = some e → (kind = 0x18 → s.clk.cstate ≠ .unset) →
      exec c s = .next (answered kind tag p (refusedOf kind tag e s) s))) ∧
  (∀ (s : State) (kind tag : Byte) (p : List Byte) (check : BitVec 16), p.length ≤ 512 →
    8 ≤ s.lnk.inHand ∨ s.lnk.reset ≠ .none →
    exec (.frameDiscardedInHand kind tag p) s = .next (withRx (rxAfter kind tag p (frameCheck kind tag p)) s) ∧
    (kind ∉ catalogue →
      exec (.badKind kind tag p) s = .next (withRx (rxAfter kind tag p (frameCheck kind tag p)) s)) ∧
    (∀ c, Settled s → messageOf c = some (kind, tag, p) →
      exec c s = .next (withRx (rxAfter kind tag p (frameCheck kind tag p)) s)) ∧
    (check ≠ frameCheck kind tag p →
      exec (.badCheck kind tag p check) s = .next (withRx (rxAfter kind tag p check) s))) ∧
  (∀ (s : State) (received : List Byte) (rx : Rx), rxQuiet s.lnk.rx received = some rx →
    exec (.lineFramingError received) s = .next (withRx { rx with rstate := .hunt } s)) ∧
  (∀ (s : State) (received : List Byte) (rx : Rx), rxQuiet s.lnk.rx received = some rx → rx.rstate ≠ .hunt →
    let others := s.clk.delays.filter (fun d => d.kind != .interByte)
    let clk := if s.clk.sub + 8192 < 163840
      then { s.clk with sub := s.clk.sub + 8192, delays := others.map (fun d => { d with left := d.left - 8192 }) }
      else { s.clk with delays := others }
    exec (.interByteTimeout received) s = .next { withRx { rx with rstate := .hunt } s with clk := clk }) ∧
  (∀ (s : State) (high low : Byte), s.lnk.rx.rstate = .hunt → 512 < high.toNat * 256 + low.toNat →
    ∃ rx, exec (.frameLengthExceeds512 high low) s = .next (withRx rx s) ∧ rx.rstate = .hunt)

/-! ## Events that have not fallen due -/

/-- The commands of the part's own clock and the request each takes. -/
def dueOf : Instr → Option DueKind
  | .windowStart n => some (.windowStart n)
  | .coreEnd n => some (.coreEnd n)
  | .heldStartLimit n => some (.heldLimit n)
  | .stopMoment n => some (.stopMoment n)
  | .overrunCap n => some (.overrunCap n)
  | .yieldWarning n => some (.yieldWarning n)
  | .lockGraceEnd t => some (.graceEnd t)
  | .lockAbandon t => some (.abandon t)
  | .windowClose n => some (.windowClose n)
  | .wakeDue => some .wakeDue
  | _ => none

/-- A command of the part's own clock does nothing while its request has not been delivered (the model's choice, log
entry 2). -/
def Obligations.UndeliveredEventsDoNothing : Prop :=
  ∀ (c : Instr) (k : DueKind) (s : State), dueOf c = some k → (∀ d ∈ s.clk.dues, d.kind = k → d.delivered = false) →
    exec c s = .next s

/-! ## Local time and the line -/

/-- The local day of R12 and the conversion of R13 undo one another while no change is pending: the local day and second
of a schedule time convert back to it. -/
def Obligations.LocalConversionRoundTrip : Prop :=
  ∀ (t : Nat) (o : Int), t ≤ 4294967295 →
    convertLocal o none (localDay t o) ((Int.ofNat t + o) % 86400).toNat = some t

/-- The receiver undoes the frame layout (R195, R196): the bytes of a frame with up to 512 payload bytes, received in
HUNT, are judged good with their kind, tag and payload, and the receiver hunts again. -/
def Obligations.ReceiverReadsEveryFrame : Prop :=
  ∀ (rx : Rx) (kind tag : Byte) (p : List Byte), rx.rstate = .hunt → p.length ≤ 512 →
    rxBytes rx (frameBytes kind tag p) = (rxAfter kind tag p (frameCheck kind tag p), .judged kind tag p true)

/-! ## What every step keeps -/

/-- An invariant that every step keeps. -/
abbrev EveryStepKeeps (inv : State → Prop) : Prop := ∀ s t : State, inv s → step s = .next t → inv t

/-- Every invariant below holds right after power-on. -/
def Obligations.ResetMeetsEveryInvariant : Prop :=
  Settled State.reset ∧ ClockKept State.reset ∧ LogKept State.reset ∧ LinkKept State.reset ∧
    PlannerKept State.reset ∧ GuideKept State.reset ∧ BookingsKept State.reset ∧ RoomKept State.reset ∧
    TunersKept State.reset ∧ HostKept State.reset ∧ ListKept State.reset ∧ PlanKept State.reset

/-- The summaries, the terminal order, the wake due request and the attention output (R82 to R84, R94, R184, R204). -/
def Obligations.StepsKeepSettled : Prop := EveryStepKeeps Settled

/-- The Clock Unit's ranges (R1, R2, R5, R9, R15) and the Condition Log's (R166, R170, R172). -/
def Obligations.StepsKeepTheClockAndTheLog : Prop := EveryStepKeeps (fun s => ClockKept s ∧ LogKept s)

/-- The frames in hand, the held queries and the notice queue (R113, R199, R201, R202), and the Planner's flags,
generation and clash list (R93, R94, R96, R110, R136). -/
def Obligations.StepsKeepTheLinkAndThePlanner : Prop := EveryStepKeeps (fun s => LinkKept s ∧ PlannerKept s)

/-- The order, the keys, the capacity and the ranges of the Guide Store (R17, R22). -/
def Obligations.StepsKeepTheGuide : Prop := EveryStepKeeps GuideKept

/-- The ids, the ranges and the history of the Booking Table (R35, R37, R38, R52). -/
def Obligations.StepsKeepTheBookings : Prop := EveryStepKeeps BookingsKept

/-- The Instance List holds 160 recordings at most, no two with one id, in order of core start and then id, with 12 at most
that are not terminal for each booking and four alternates and four segments at most on each, and its next id is an id
(R70, R78, R79). That an install makes no thirteenth where a recording that the pass removed has started since is the
model's reading of R70 and R78 beside R76 (log entry 53). -/
def Obligations.StepsKeepTheInstanceList : Prop := EveryStepKeeps ListKept

/-- The bound of 12 in the expansion (R70): what it leaves of a booking's recordings in the snapshot, with the creations it
asks for, is 12 at most, or no more than it left; and each creation is the booking's. -/
def Obligations.ExpansionKeepsTheBoundOfTwelve : Prop :=
  ∀ (p : Snapshot) (b : Booking) (r : BookingResult), expandBooking p b = some r →
    let kept := ((liveOf p b).filter (fun i => !r.removals.contains i.id)).length
    kept + r.creations.length ≤ max 12 kept ∧ (∀ c ∈ r.creations, c.booking = b.id)

/-- The plan (R98, R99, R104, R107): every PLANNED recording holds a tuner, a verdict other than LOST, a plan priority and
a window of 60 s or more inside its padded span; two PLANNED recordings on one tuner and on different multiplexes are kept
apart by the retune gap; and no instant lies in more than four PLANNED windows of one tuner. -/
def Obligations.StepsKeepThePlan : Prop := EveryStepKeeps PlanKept

/-- The tuner run records, the lock monitors and Run Control's settings (R138, R139, R158). -/
def Obligations.StepsKeepTheTuners : Prop := EveryStepKeeps TunersKept

/-- The Wake Supervisor's outputs and settings, and the claims (R154, R155, R180 to R187). -/
def Obligations.StepsKeepTheHost : Prop := EveryStepKeeps HostKept
end

