-- ==== Sys2Proof/Laws/State.lean ====
section
/-! SUPPORT. One lemma for each part of the state and each update of it: the part that an update writes reads as
written, and every other part is left alone. Each holds by definition. -/

namespace Sys2Proof.Machine

open Sys2Proof

@[simp] theorem modClk_clk (f : Clock → Clock) (s : State) : (modClk f s).clk = f s.clk := rfl
@[simp] theorem modClk_gst (f : Clock → Clock) (s : State) : (modClk f s).gst = s.gst := rfl
@[simp] theorem modClk_bkt (f : Clock → Clock) (s : State) : (modClk f s).bkt = s.bkt := rfl
@[simp] theorem modClk_lst (f : Clock → Clock) (s : State) : (modClk f s).lst = s.lst := rfl
@[simp] theorem modClk_pln (f : Clock → Clock) (s : State) : (modClk f s).pln = s.pln := rfl
@[simp] theorem modClk_run (f : Clock → Clock) (s : State) : (modClk f s).run = s.run := rfl
@[simp] theorem modClk_cnd (f : Clock → Clock) (s : State) : (modClk f s).cnd = s.cnd := rfl
@[simp] theorem modClk_wsv (f : Clock → Clock) (s : State) : (modClk f s).wsv = s.wsv := rfl
@[simp] theorem modClk_lnk (f : Clock → Clock) (s : State) : (modClk f s).lnk = s.lnk := rfl
@[simp] theorem modClk_free (f : Clock → Clock) (s : State) : (modClk f s).free = s.free := rfl
@[simp] theorem modClk_pending (f : Clock → Clock) (s : State) : (modClk f s).pending = s.pending := rfl

@[simp] theorem modBkt_clk (f : BookingTable → BookingTable) (s : State) : (modBkt f s).clk = s.clk := rfl
@[simp] theorem modBkt_gst (f : BookingTable → BookingTable) (s : State) : (modBkt f s).gst = s.gst := rfl
@[simp] theorem modBkt_bkt (f : BookingTable → BookingTable) (s : State) : (modBkt f s).bkt = f s.bkt := rfl
@[simp] theorem modBkt_lst (f : BookingTable → BookingTable) (s : State) : (modBkt f s).lst = s.lst := rfl
@[simp] theorem modBkt_pln (f : BookingTable → BookingTable) (s : State) : (modBkt f s).pln = s.pln := rfl
@[simp] theorem modBkt_run (f : BookingTable → BookingTable) (s : State) : (modBkt f s).run = s.run := rfl
@[simp] theorem modBkt_cnd (f : BookingTable → BookingTable) (s : State) : (modBkt f s).cnd = s.cnd := rfl
@[simp] theorem modBkt_wsv (f : BookingTable → BookingTable) (s : State) : (modBkt f s).wsv = s.wsv := rfl
@[simp] theorem modBkt_lnk (f : BookingTable → BookingTable) (s : State) : (modBkt f s).lnk = s.lnk := rfl
@[simp] theorem modBkt_free (f : BookingTable → BookingTable) (s : State) : (modBkt f s).free = s.free := rfl
@[simp] theorem modBkt_pending (f : BookingTable → BookingTable) (s : State) : (modBkt f s).pending = s.pending := rfl

@[simp] theorem modLst_clk (f : InstanceList → InstanceList) (s : State) : (modLst f s).clk = s.clk := rfl
@[simp] theorem modLst_gst (f : InstanceList → InstanceList) (s : State) : (modLst f s).gst = s.gst := rfl
@[simp] theorem modLst_bkt (f : InstanceList → InstanceList) (s : State) : (modLst f s).bkt = s.bkt := rfl
@[simp] theorem modLst_lst (f : InstanceList → InstanceList) (s : State) : (modLst f s).lst = f s.lst := rfl
@[simp] theorem modLst_pln (f : InstanceList → InstanceList) (s : State) : (modLst f s).pln = s.pln := rfl
@[simp] theorem modLst_run (f : InstanceList → InstanceList) (s : State) : (modLst f s).run = s.run := rfl
@[simp] theorem modLst_cnd (f : InstanceList → InstanceList) (s : State) : (modLst f s).cnd = s.cnd := rfl
@[simp] theorem modLst_wsv (f : InstanceList → InstanceList) (s : State) : (modLst f s).wsv = s.wsv := rfl
@[simp] theorem modLst_lnk (f : InstanceList → InstanceList) (s : State) : (modLst f s).lnk = s.lnk := rfl
@[simp] theorem modLst_free (f : InstanceList → InstanceList) (s : State) : (modLst f s).free = s.free := rfl
@[simp] theorem modLst_pending (f : InstanceList → InstanceList) (s : State) : (modLst f s).pending = s.pending := rfl

@[simp] theorem modPln_clk (f : Planner → Planner) (s : State) : (modPln f s).clk = s.clk := rfl
@[simp] theorem modPln_gst (f : Planner → Planner) (s : State) : (modPln f s).gst = s.gst := rfl
@[simp] theorem modPln_bkt (f : Planner → Planner) (s : State) : (modPln f s).bkt = s.bkt := rfl
@[simp] theorem modPln_lst (f : Planner → Planner) (s : State) : (modPln f s).lst = s.lst := rfl
@[simp] theorem modPln_pln (f : Planner → Planner) (s : State) : (modPln f s).pln = f s.pln := rfl
@[simp] theorem modPln_run (f : Planner → Planner) (s : State) : (modPln f s).run = s.run := rfl
@[simp] theorem modPln_cnd (f : Planner → Planner) (s : State) : (modPln f s).cnd = s.cnd := rfl
@[simp] theorem modPln_wsv (f : Planner → Planner) (s : State) : (modPln f s).wsv = s.wsv := rfl
@[simp] theorem modPln_lnk (f : Planner → Planner) (s : State) : (modPln f s).lnk = s.lnk := rfl
@[simp] theorem modPln_free (f : Planner → Planner) (s : State) : (modPln f s).free = s.free := rfl
@[simp] theorem modPln_pending (f : Planner → Planner) (s : State) : (modPln f s).pending = s.pending := rfl

@[simp] theorem modRun_clk (f : RunControl → RunControl) (s : State) : (modRun f s).clk = s.clk := rfl
@[simp] theorem modRun_gst (f : RunControl → RunControl) (s : State) : (modRun f s).gst = s.gst := rfl
@[simp] theorem modRun_bkt (f : RunControl → RunControl) (s : State) : (modRun f s).bkt = s.bkt := rfl
@[simp] theorem modRun_lst (f : RunControl → RunControl) (s : State) : (modRun f s).lst = s.lst := rfl
@[simp] theorem modRun_pln (f : RunControl → RunControl) (s : State) : (modRun f s).pln = s.pln := rfl
@[simp] theorem modRun_run (f : RunControl → RunControl) (s : State) : (modRun f s).run = f s.run := rfl
@[simp] theorem modRun_cnd (f : RunControl → RunControl) (s : State) : (modRun f s).cnd = s.cnd := rfl
@[simp] theorem modRun_wsv (f : RunControl → RunControl) (s : State) : (modRun f s).wsv = s.wsv := rfl
@[simp] theorem modRun_lnk (f : RunControl → RunControl) (s : State) : (modRun f s).lnk = s.lnk := rfl
@[simp] theorem modRun_free (f : RunControl → RunControl) (s : State) : (modRun f s).free = s.free := rfl
@[simp] theorem modRun_pending (f : RunControl → RunControl) (s : State) : (modRun f s).pending = s.pending := rfl

@[simp] theorem modCnd_clk (f : CondLog → CondLog) (s : State) : (modCnd f s).clk = s.clk := rfl
@[simp] theorem modCnd_gst (f : CondLog → CondLog) (s : State) : (modCnd f s).gst = s.gst := rfl
@[simp] theorem modCnd_bkt (f : CondLog → CondLog) (s : State) : (modCnd f s).bkt = s.bkt := rfl
@[simp] theorem modCnd_lst (f : CondLog → CondLog) (s : State) : (modCnd f s).lst = s.lst := rfl
@[simp] theorem modCnd_pln (f : CondLog → CondLog) (s : State) : (modCnd f s).pln = s.pln := rfl
@[simp] theorem modCnd_run (f : CondLog → CondLog) (s : State) : (modCnd f s).run = s.run := rfl
@[simp] theorem modCnd_cnd (f : CondLog → CondLog) (s : State) : (modCnd f s).cnd = f s.cnd := rfl
@[simp] theorem modCnd_wsv (f : CondLog → CondLog) (s : State) : (modCnd f s).wsv = s.wsv := rfl
@[simp] theorem modCnd_lnk (f : CondLog → CondLog) (s : State) : (modCnd f s).lnk = s.lnk := rfl
@[simp] theorem modCnd_free (f : CondLog → CondLog) (s : State) : (modCnd f s).free = s.free := rfl
@[simp] theorem modCnd_pending (f : CondLog → CondLog) (s : State) : (modCnd f s).pending = s.pending := rfl

@[simp] theorem modWsv_clk (f : WakeSup → WakeSup) (s : State) : (modWsv f s).clk = s.clk := rfl
@[simp] theorem modWsv_gst (f : WakeSup → WakeSup) (s : State) : (modWsv f s).gst = s.gst := rfl
@[simp] theorem modWsv_bkt (f : WakeSup → WakeSup) (s : State) : (modWsv f s).bkt = s.bkt := rfl
@[simp] theorem modWsv_lst (f : WakeSup → WakeSup) (s : State) : (modWsv f s).lst = s.lst := rfl
@[simp] theorem modWsv_pln (f : WakeSup → WakeSup) (s : State) : (modWsv f s).pln = s.pln := rfl
@[simp] theorem modWsv_run (f : WakeSup → WakeSup) (s : State) : (modWsv f s).run = s.run := rfl
@[simp] theorem modWsv_cnd (f : WakeSup → WakeSup) (s : State) : (modWsv f s).cnd = s.cnd := rfl
@[simp] theorem modWsv_wsv (f : WakeSup → WakeSup) (s : State) : (modWsv f s).wsv = f s.wsv := rfl
@[simp] theorem modWsv_lnk (f : WakeSup → WakeSup) (s : State) : (modWsv f s).lnk = s.lnk := rfl
@[simp] theorem modWsv_free (f : WakeSup → WakeSup) (s : State) : (modWsv f s).free = s.free := rfl
@[simp] theorem modWsv_pending (f : WakeSup → WakeSup) (s : State) : (modWsv f s).pending = s.pending := rfl

@[simp] theorem modLnk_clk (f : Link → Link) (s : State) : (modLnk f s).clk = s.clk := rfl
@[simp] theorem modLnk_gst (f : Link → Link) (s : State) : (modLnk f s).gst = s.gst := rfl
@[simp] theorem modLnk_bkt (f : Link → Link) (s : State) : (modLnk f s).bkt = s.bkt := rfl
@[simp] theorem modLnk_lst (f : Link → Link) (s : State) : (modLnk f s).lst = s.lst := rfl
@[simp] theorem modLnk_pln (f : Link → Link) (s : State) : (modLnk f s).pln = s.pln := rfl
@[simp] theorem modLnk_run (f : Link → Link) (s : State) : (modLnk f s).run = s.run := rfl
@[simp] theorem modLnk_cnd (f : Link → Link) (s : State) : (modLnk f s).cnd = s.cnd := rfl
@[simp] theorem modLnk_wsv (f : Link → Link) (s : State) : (modLnk f s).wsv = s.wsv := rfl
@[simp] theorem modLnk_lnk (f : Link → Link) (s : State) : (modLnk f s).lnk = f s.lnk := rfl
@[simp] theorem modLnk_free (f : Link → Link) (s : State) : (modLnk f s).free = s.free := rfl
@[simp] theorem modLnk_pending (f : Link → Link) (s : State) : (modLnk f s).pending = s.pending := rfl

@[simp] theorem setRecs_clk (recs : List GuideRec) (s : State) : (setRecs recs s).clk = s.clk := rfl
@[simp] theorem setRecs_gst (recs : List GuideRec) (s : State) : (setRecs recs s).gst = { recs := recs } := rfl
@[simp] theorem setRecs_bkt (recs : List GuideRec) (s : State) : (setRecs recs s).bkt = s.bkt := rfl
@[simp] theorem setRecs_lst (recs : List GuideRec) (s : State) : (setRecs recs s).lst = s.lst := rfl
@[simp] theorem setRecs_pln (recs : List GuideRec) (s : State) : (setRecs recs s).pln = s.pln := rfl
@[simp] theorem setRecs_run (recs : List GuideRec) (s : State) : (setRecs recs s).run = s.run := rfl
@[simp] theorem setRecs_cnd (recs : List GuideRec) (s : State) : (setRecs recs s).cnd = s.cnd := rfl
@[simp] theorem setRecs_wsv (recs : List GuideRec) (s : State) : (setRecs recs s).wsv = s.wsv := rfl
@[simp] theorem setRecs_lnk (recs : List GuideRec) (s : State) : (setRecs recs s).lnk = s.lnk := rfl
@[simp] theorem setRecs_free (recs : List GuideRec) (s : State) : (setRecs recs s).free = s.free := rfl
@[simp] theorem setRecs_pending (recs : List GuideRec) (s : State) : (setRecs recs s).pending = s.pending := rfl

@[simp] theorem bumpFree_clk (s : State) : (bumpFree s).clk = s.clk := rfl
@[simp] theorem bumpFree_gst (s : State) : (bumpFree s).gst = s.gst := rfl
@[simp] theorem bumpFree_bkt (s : State) : (bumpFree s).bkt = s.bkt := rfl
@[simp] theorem bumpFree_lst (s : State) : (bumpFree s).lst = s.lst := rfl
@[simp] theorem bumpFree_pln (s : State) : (bumpFree s).pln = s.pln := rfl
@[simp] theorem bumpFree_run (s : State) : (bumpFree s).run = s.run := rfl
@[simp] theorem bumpFree_cnd (s : State) : (bumpFree s).cnd = s.cnd := rfl
@[simp] theorem bumpFree_wsv (s : State) : (bumpFree s).wsv = s.wsv := rfl
@[simp] theorem bumpFree_lnk (s : State) : (bumpFree s).lnk = s.lnk := rfl
@[simp] theorem bumpFree_free (s : State) : (bumpFree s).free = s.free + 1 := rfl
@[simp] theorem bumpFree_pending (s : State) : (bumpFree s).pending = s.pending := rfl

@[simp] theorem modInst_clk (iid : Nat) (f : Inst → Inst) (s : State) : (modInst iid f s).clk = s.clk := rfl
@[simp] theorem modInst_gst (iid : Nat) (f : Inst → Inst) (s : State) : (modInst iid f s).gst = s.gst := rfl
@[simp] theorem modInst_bkt (iid : Nat) (f : Inst → Inst) (s : State) : (modInst iid f s).bkt = s.bkt := rfl
@[simp] theorem modInst_insts (iid : Nat) (f : Inst → Inst) (s : State) :
    (modInst iid f s).lst.insts = s.lst.insts.map (fun i => if i.id == iid then f i else i) := rfl
@[simp] theorem modInst_nextId (iid : Nat) (f : Inst → Inst) (s : State) :
    (modInst iid f s).lst.nextId = s.lst.nextId := rfl
@[simp] theorem modInst_terminalOrder (iid : Nat) (f : Inst → Inst) (s : State) :
    (modInst iid f s).lst.terminalOrder = s.lst.terminalOrder := rfl
@[simp] theorem modInst_earliest (iid : Nat) (f : Inst → Inst) (s : State) :
    (modInst iid f s).lst.earliest = s.lst.earliest := rfl
@[simp] theorem modInst_pln (iid : Nat) (f : Inst → Inst) (s : State) : (modInst iid f s).pln = s.pln := rfl
@[simp] theorem modInst_run (iid : Nat) (f : Inst → Inst) (s : State) : (modInst iid f s).run = s.run := rfl
@[simp] theorem modInst_cnd (iid : Nat) (f : Inst → Inst) (s : State) : (modInst iid f s).cnd = s.cnd := rfl
@[simp] theorem modInst_wsv (iid : Nat) (f : Inst → Inst) (s : State) : (modInst iid f s).wsv = s.wsv := rfl
@[simp] theorem modInst_lnk (iid : Nat) (f : Inst → Inst) (s : State) : (modInst iid f s).lnk = s.lnk := rfl
@[simp] theorem modInst_free (iid : Nat) (f : Inst → Inst) (s : State) : (modInst iid f s).free = s.free := rfl
@[simp] theorem modInst_pending (iid : Nat) (f : Inst → Inst) (s : State) :
    (modInst iid f s).pending = s.pending := rfl

@[simp] theorem modTuner_clk (t : Tuner) (f : TunerRun → TunerRun) (s : State) :
    (modTuner t f s).clk = s.clk := by cases t <;> rfl
@[simp] theorem modTuner_gst (t : Tuner) (f : TunerRun → TunerRun) (s : State) :
    (modTuner t f s).gst = s.gst := by cases t <;> rfl
@[simp] theorem modTuner_bkt (t : Tuner) (f : TunerRun → TunerRun) (s : State) :
    (modTuner t f s).bkt = s.bkt := by cases t <;> rfl
@[simp] theorem modTuner_lst (t : Tuner) (f : TunerRun → TunerRun) (s : State) :
    (modTuner t f s).lst = s.lst := by cases t <;> rfl
@[simp] theorem modTuner_pln (t : Tuner) (f : TunerRun → TunerRun) (s : State) :
    (modTuner t f s).pln = s.pln := by cases t <;> rfl
@[simp] theorem modTuner_cnd (t : Tuner) (f : TunerRun → TunerRun) (s : State) :
    (modTuner t f s).cnd = s.cnd := by cases t <;> rfl
@[simp] theorem modTuner_wsv (t : Tuner) (f : TunerRun → TunerRun) (s : State) :
    (modTuner t f s).wsv = s.wsv := by cases t <;> rfl
@[simp] theorem modTuner_lnk (t : Tuner) (f : TunerRun → TunerRun) (s : State) :
    (modTuner t f s).lnk = s.lnk := by cases t <;> rfl
@[simp] theorem modTuner_free (t : Tuner) (f : TunerRun → TunerRun) (s : State) :
    (modTuner t f s).free = s.free := by cases t <;> rfl
@[simp] theorem modTuner_pending (t : Tuner) (f : TunerRun → TunerRun) (s : State) :
    (modTuner t f s).pending = s.pending := by cases t <;> rfl
@[simp] theorem modTuner_claims (t : Tuner) (f : TunerRun → TunerRun) (s : State) :
    (modTuner t f s).run.claims = s.run.claims := by cases t <;> rfl
@[simp] theorem modTuner_gapTol (t : Tuner) (f : TunerRun → TunerRun) (s : State) :
    (modTuner t f s).run.gapTol = s.run.gapTol := by cases t <;> rfl
@[simp] theorem modTuner_abandonLimit (t : Tuner) (f : TunerRun → TunerRun) (s : State) :
    (modTuner t f s).run.abandonLimit = s.run.abandonLimit := by cases t <;> rfl
@[simp] theorem modTuner_overrunLimit (t : Tuner) (f : TunerRun → TunerRun) (s : State) :
    (modTuner t f s).run.overrunLimit = s.run.overrunLimit := by cases t <;> rfl
@[simp] theorem tunerRun_modTuner (t : Tuner) (f : TunerRun → TunerRun) (s : State) :
    tunerRun t (modTuner t f s) = f (tunerRun t s) := by cases t <;> rfl

@[simp] theorem requestDue_gst (k : DueKind) (t : Nat) (s : State) : (requestDue k t s).gst = s.gst := rfl
@[simp] theorem requestDue_bkt (k : DueKind) (t : Nat) (s : State) : (requestDue k t s).bkt = s.bkt := rfl
@[simp] theorem requestDue_lst (k : DueKind) (t : Nat) (s : State) : (requestDue k t s).lst = s.lst := rfl
@[simp] theorem requestDue_pln (k : DueKind) (t : Nat) (s : State) : (requestDue k t s).pln = s.pln := rfl
@[simp] theorem requestDue_run (k : DueKind) (t : Nat) (s : State) : (requestDue k t s).run = s.run := rfl
@[simp] theorem requestDue_cnd (k : DueKind) (t : Nat) (s : State) : (requestDue k t s).cnd = s.cnd := rfl
@[simp] theorem requestDue_wsv (k : DueKind) (t : Nat) (s : State) : (requestDue k t s).wsv = s.wsv := rfl
@[simp] theorem requestDue_lnk (k : DueKind) (t : Nat) (s : State) : (requestDue k t s).lnk = s.lnk := rfl
@[simp] theorem requestDue_free (k : DueKind) (t : Nat) (s : State) : (requestDue k t s).free = s.free := rfl
@[simp] theorem requestDue_pending (k : DueKind) (t : Nat) (s : State) : (requestDue k t s).pending = s.pending := rfl
@[simp] theorem requestDue_count (k : DueKind) (t : Nat) (s : State) :
    (requestDue k t s).clk.count = s.clk.count := rfl
@[simp] theorem requestDue_cstate (k : DueKind) (t : Nat) (s : State) :
    (requestDue k t s).clk.cstate = s.clk.cstate := rfl
@[simp] theorem requestDue_slewRem (k : DueKind) (t : Nat) (s : State) :
    (requestDue k t s).clk.slewRem = s.clk.slewRem := rfl
@[simp] theorem requestDue_slewPhase (k : DueKind) (t : Nat) (s : State) :
    (requestDue k t s).clk.slewPhase = s.clk.slewPhase := rfl
@[simp] theorem requestDue_sub (k : DueKind) (t : Nat) (s : State) : (requestDue k t s).clk.sub = s.clk.sub := rfl
@[simp] theorem requestDue_offset (k : DueKind) (t : Nat) (s : State) :
    (requestDue k t s).clk.offset = s.clk.offset := rfl
@[simp] theorem requestDue_change (k : DueKind) (t : Nat) (s : State) :
    (requestDue k t s).clk.change = s.clk.change := rfl
@[simp] theorem requestDue_changeDue (k : DueKind) (t : Nat) (s : State) :
    (requestDue k t s).clk.changeDue = s.clk.changeDue := rfl
@[simp] theorem requestDue_nextMidnight (k : DueKind) (t : Nat) (s : State) :
    (requestDue k t s).clk.nextMidnight = s.clk.nextMidnight := rfl
@[simp] theorem requestDue_rollovers (k : DueKind) (t : Nat) (s : State) :
    (requestDue k t s).clk.rollovers = s.clk.rollovers := rfl
@[simp] theorem requestDue_delays (k : DueKind) (t : Nat) (s : State) :
    (requestDue k t s).clk.delays = s.clk.delays := rfl

@[simp] theorem withdrawDue_gst (k : DueKind) (s : State) : (withdrawDue k s).gst = s.gst := rfl
@[simp] theorem withdrawDue_bkt (k : DueKind) (s : State) : (withdrawDue k s).bkt = s.bkt := rfl
@[simp] theorem withdrawDue_lst (k : DueKind) (s : State) : (withdrawDue k s).lst = s.lst := rfl
@[simp] theorem withdrawDue_pln (k : DueKind) (s : State) : (withdrawDue k s).pln = s.pln := rfl
@[simp] theorem withdrawDue_run (k : DueKind) (s : State) : (withdrawDue k s).run = s.run := rfl
@[simp] theorem withdrawDue_cnd (k : DueKind) (s : State) : (withdrawDue k s).cnd = s.cnd := rfl
@[simp] theorem withdrawDue_wsv (k : DueKind) (s : State) : (withdrawDue k s).wsv = s.wsv := rfl
@[simp] theorem withdrawDue_lnk (k : DueKind) (s : State) : (withdrawDue k s).lnk = s.lnk := rfl
@[simp] theorem withdrawDue_free (k : DueKind) (s : State) : (withdrawDue k s).free = s.free := rfl
@[simp] theorem withdrawDue_pending (k : DueKind) (s : State) : (withdrawDue k s).pending = s.pending := rfl
@[simp] theorem withdrawDue_count (k : DueKind) (s : State) : (withdrawDue k s).clk.count = s.clk.count := rfl
@[simp] theorem withdrawDue_cstate (k : DueKind) (s : State) : (withdrawDue k s).clk.cstate = s.clk.cstate := rfl
@[simp] theorem withdrawDue_slewRem (k : DueKind) (s : State) : (withdrawDue k s).clk.slewRem = s.clk.slewRem := rfl
@[simp] theorem withdrawDue_slewPhase (k : DueKind) (s : State) :
    (withdrawDue k s).clk.slewPhase = s.clk.slewPhase := rfl
@[simp] theorem withdrawDue_sub (k : DueKind) (s : State) : (withdrawDue k s).clk.sub = s.clk.sub := rfl
@[simp] theorem withdrawDue_offset (k : DueKind) (s : State) : (withdrawDue k s).clk.offset = s.clk.offset := rfl
@[simp] theorem withdrawDue_change (k : DueKind) (s : State) : (withdrawDue k s).clk.change = s.clk.change := rfl
@[simp] theorem withdrawDue_changeDue (k : DueKind) (s : State) :
    (withdrawDue k s).clk.changeDue = s.clk.changeDue := rfl
@[simp] theorem withdrawDue_nextMidnight (k : DueKind) (s : State) :
    (withdrawDue k s).clk.nextMidnight = s.clk.nextMidnight := rfl
@[simp] theorem withdrawDue_rollovers (k : DueKind) (s : State) :
    (withdrawDue k s).clk.rollovers = s.clk.rollovers := rfl
@[simp] theorem withdrawDue_delays (k : DueKind) (s : State) : (withdrawDue k s).clk.delays = s.clk.delays := rfl

@[simp] theorem withdrawDues_gst (k : List DueKind) (s : State) : (withdrawDues k s).gst = s.gst := rfl
@[simp] theorem withdrawDues_bkt (k : List DueKind) (s : State) : (withdrawDues k s).bkt = s.bkt := rfl
@[simp] theorem withdrawDues_lst (k : List DueKind) (s : State) : (withdrawDues k s).lst = s.lst := rfl
@[simp] theorem withdrawDues_pln (k : List DueKind) (s : State) : (withdrawDues k s).pln = s.pln := rfl
@[simp] theorem withdrawDues_run (k : List DueKind) (s : State) : (withdrawDues k s).run = s.run := rfl
@[simp] theorem withdrawDues_cnd (k : List DueKind) (s : State) : (withdrawDues k s).cnd = s.cnd := rfl
@[simp] theorem withdrawDues_wsv (k : List DueKind) (s : State) : (withdrawDues k s).wsv = s.wsv := rfl
@[simp] theorem withdrawDues_lnk (k : List DueKind) (s : State) : (withdrawDues k s).lnk = s.lnk := rfl
@[simp] theorem withdrawDues_free (k : List DueKind) (s : State) : (withdrawDues k s).free = s.free := rfl
@[simp] theorem withdrawDues_pending (k : List DueKind) (s : State) : (withdrawDues k s).pending = s.pending := rfl
@[simp] theorem withdrawDues_count (k : List DueKind) (s : State) : (withdrawDues k s).clk.count = s.clk.count := rfl
@[simp] theorem withdrawDues_cstate (k : List DueKind) (s : State) :
    (withdrawDues k s).clk.cstate = s.clk.cstate := rfl
@[simp] theorem withdrawDues_slewRem (k : List DueKind) (s : State) :
    (withdrawDues k s).clk.slewRem = s.clk.slewRem := rfl
@[simp] theorem withdrawDues_slewPhase (k : List DueKind) (s : State) :
    (withdrawDues k s).clk.slewPhase = s.clk.slewPhase := rfl
@[simp] theorem withdrawDues_sub (k : List DueKind) (s : State) : (withdrawDues k s).clk.sub = s.clk.sub := rfl
@[simp] theorem withdrawDues_offset (k : List DueKind) (s : State) :
    (withdrawDues k s).clk.offset = s.clk.offset := rfl
@[simp] theorem withdrawDues_change (k : List DueKind) (s : State) :
    (withdrawDues k s).clk.change = s.clk.change := rfl
@[simp] theorem withdrawDues_changeDue (k : List DueKind) (s : State) :
    (withdrawDues k s).clk.changeDue = s.clk.changeDue := rfl
@[simp] theorem withdrawDues_nextMidnight (k : List DueKind) (s : State) :
    (withdrawDues k s).clk.nextMidnight = s.clk.nextMidnight := rfl
@[simp] theorem withdrawDues_rollovers (k : List DueKind) (s : State) :
    (withdrawDues k s).clk.rollovers = s.clk.rollovers := rfl
@[simp] theorem withdrawDues_delays (k : List DueKind) (s : State) :
    (withdrawDues k s).clk.delays = s.clk.delays := rfl

@[simp] theorem startDelay_gst (k : DelayKind) (u : Nat) (s : State) : (startDelay k u s).gst = s.gst := rfl
@[simp] theorem startDelay_bkt (k : DelayKind) (u : Nat) (s : State) : (startDelay k u s).bkt = s.bkt := rfl
@[simp] theorem startDelay_lst (k : DelayKind) (u : Nat) (s : State) : (startDelay k u s).lst = s.lst := rfl
@[simp] theorem startDelay_pln (k : DelayKind) (u : Nat) (s : State) : (startDelay k u s).pln = s.pln := rfl
@[simp] theorem startDelay_run (k : DelayKind) (u : Nat) (s : State) : (startDelay k u s).run = s.run := rfl
@[simp] theorem startDelay_cnd (k : DelayKind) (u : Nat) (s : State) : (startDelay k u s).cnd = s.cnd := rfl
@[simp] theorem startDelay_wsv (k : DelayKind) (u : Nat) (s : State) : (startDelay k u s).wsv = s.wsv := rfl
@[simp] theorem startDelay_lnk (k : DelayKind) (u : Nat) (s : State) : (startDelay k u s).lnk = s.lnk := rfl
@[simp] theorem startDelay_free (k : DelayKind) (u : Nat) (s : State) : (startDelay k u s).free = s.free := rfl
@[simp] theorem startDelay_pending (k : DelayKind) (u : Nat) (s : State) :
    (startDelay k u s).pending = s.pending := rfl
@[simp] theorem startDelay_count (k : DelayKind) (u : Nat) (s : State) :
    (startDelay k u s).clk.count = s.clk.count := rfl
@[simp] theorem startDelay_cstate (k : DelayKind) (u : Nat) (s : State) :
    (startDelay k u s).clk.cstate = s.clk.cstate := rfl
@[simp] theorem startDelay_slewRem (k : DelayKind) (u : Nat) (s : State) :
    (startDelay k u s).clk.slewRem = s.clk.slewRem := rfl
@[simp] theorem startDelay_slewPhase (k : DelayKind) (u : Nat) (s : State) :
    (startDelay k u s).clk.slewPhase = s.clk.slewPhase := rfl
@[simp] theorem startDelay_sub (k : DelayKind) (u : Nat) (s : State) : (startDelay k u s).clk.sub = s.clk.sub := rfl
@[simp] theorem startDelay_offset (k : DelayKind) (u : Nat) (s : State) :
    (startDelay k u s).clk.offset = s.clk.offset := rfl
@[simp] theorem startDelay_change (k : DelayKind) (u : Nat) (s : State) :
    (startDelay k u s).clk.change = s.clk.change := rfl
@[simp] theorem startDelay_changeDue (k : DelayKind) (u : Nat) (s : State) :
    (startDelay k u s).clk.changeDue = s.clk.changeDue := rfl
@[simp] theorem startDelay_nextMidnight (k : DelayKind) (u : Nat) (s : State) :
    (startDelay k u s).clk.nextMidnight = s.clk.nextMidnight := rfl
@[simp] theorem startDelay_rollovers (k : DelayKind) (u : Nat) (s : State) :
    (startDelay k u s).clk.rollovers = s.clk.rollovers := rfl
@[simp] theorem startDelay_dues (k : DelayKind) (u : Nat) (s : State) :
    (startDelay k u s).clk.dues = s.clk.dues := rfl

@[simp] theorem cancelDelay_gst (k : DelayKind) (s : State) : (cancelDelay k s).gst = s.gst := rfl
@[simp] theorem cancelDelay_bkt (k : DelayKind) (s : State) : (cancelDelay k s).bkt = s.bkt := rfl
@[simp] theorem cancelDelay_lst (k : DelayKind) (s : State) : (cancelDelay k s).lst = s.lst := rfl
@[simp] theorem cancelDelay_pln (k : DelayKind) (s : State) : (cancelDelay k s).pln = s.pln := rfl
@[simp] theorem cancelDelay_run (k : DelayKind) (s : State) : (cancelDelay k s).run = s.run := rfl
@[simp] theorem cancelDelay_cnd (k : DelayKind) (s : State) : (cancelDelay k s).cnd = s.cnd := rfl
@[simp] theorem cancelDelay_wsv (k : DelayKind) (s : State) : (cancelDelay k s).wsv = s.wsv := rfl
@[simp] theorem cancelDelay_lnk (k : DelayKind) (s : State) : (cancelDelay k s).lnk = s.lnk := rfl
@[simp] theorem cancelDelay_free (k : DelayKind) (s : State) : (cancelDelay k s).free = s.free := rfl
@[simp] theorem cancelDelay_pending (k : DelayKind) (s : State) : (cancelDelay k s).pending = s.pending := rfl
@[simp] theorem cancelDelay_count (k : DelayKind) (s : State) : (cancelDelay k s).clk.count = s.clk.count := rfl
@[simp] theorem cancelDelay_cstate (k : DelayKind) (s : State) : (cancelDelay k s).clk.cstate = s.clk.cstate := rfl
@[simp] theorem cancelDelay_slewRem (k : DelayKind) (s : State) : (cancelDelay k s).clk.slewRem = s.clk.slewRem := rfl
@[simp] theorem cancelDelay_slewPhase (k : DelayKind) (s : State) :
    (cancelDelay k s).clk.slewPhase = s.clk.slewPhase := rfl
@[simp] theorem cancelDelay_sub (k : DelayKind) (s : State) : (cancelDelay k s).clk.sub = s.clk.sub := rfl
@[simp] theorem cancelDelay_offset (k : DelayKind) (s : State) : (cancelDelay k s).clk.offset = s.clk.offset := rfl
@[simp] theorem cancelDelay_change (k : DelayKind) (s : State) : (cancelDelay k s).clk.change = s.clk.change := rfl
@[simp] theorem cancelDelay_changeDue (k : DelayKind) (s : State) :
    (cancelDelay k s).clk.changeDue = s.clk.changeDue := rfl
@[simp] theorem cancelDelay_nextMidnight (k : DelayKind) (s : State) :
    (cancelDelay k s).clk.nextMidnight = s.clk.nextMidnight := rfl
@[simp] theorem cancelDelay_rollovers (k : DelayKind) (s : State) :
    (cancelDelay k s).clk.rollovers = s.clk.rollovers := rfl
@[simp] theorem cancelDelay_dues (k : DelayKind) (s : State) : (cancelDelay k s).clk.dues = s.clk.dues := rfl

end Sys2Proof.Machine
end

