-- ==== Sys2Proof/Laws/Keeps.lean ====
section
/-! SUPPORT. What each shared operation leaves alone: for every operation and every part of the state it does not
touch, one lemma. Together they say which parts an operation can change. -/

namespace Sys2Proof.Machine

open Sys2Proof

/-- A fold keeps what each of its steps keeps. -/
theorem foldl_keeps {α β : Type} (p : State → β) (f : State → α → State) (h : ∀ s a, p (f s a) = p s)
    (xs : List α) (s : State) : p (xs.foldl f s) = p s := by
  induction xs generalizing s with
  | nil => rfl
  | cons x xs ih => exact (ih (f s x)).trans (h s x)

theorem insertHistory_keeps (e : HistEntry) (s : State) :
    (insertHistory e s).1.clk = s.clk ∧ (insertHistory e s).1.gst = s.gst ∧ (insertHistory e s).1.lst = s.lst ∧
    (insertHistory e s).1.run = s.run ∧ (insertHistory e s).1.cnd = s.cnd ∧ (insertHistory e s).1.wsv = s.wsv ∧
    (insertHistory e s).1.lnk = s.lnk ∧ (insertHistory e s).1.free = s.free ∧
    (insertHistory e s).1.pending = s.pending := by
  unfold insertHistory
  split
  · simp
  · split <;> exact ⟨rfl, rfl, rfl, rfl, rfl, rfl, rfl, rfl, rfl⟩

@[simp] theorem insertHistory_clk (e : HistEntry) (s : State) : (insertHistory e s).1.clk = s.clk :=
  (insertHistory_keeps e s).1
@[simp] theorem insertHistory_gst (e : HistEntry) (s : State) : (insertHistory e s).1.gst = s.gst :=
  (insertHistory_keeps e s).2.1
@[simp] theorem insertHistory_lst (e : HistEntry) (s : State) : (insertHistory e s).1.lst = s.lst :=
  (insertHistory_keeps e s).2.2.1
@[simp] theorem insertHistory_run (e : HistEntry) (s : State) : (insertHistory e s).1.run = s.run :=
  (insertHistory_keeps e s).2.2.2.1
@[simp] theorem insertHistory_cnd (e : HistEntry) (s : State) : (insertHistory e s).1.cnd = s.cnd :=
  (insertHistory_keeps e s).2.2.2.2.1
@[simp] theorem insertHistory_wsv (e : HistEntry) (s : State) : (insertHistory e s).1.wsv = s.wsv :=
  (insertHistory_keeps e s).2.2.2.2.2.1
@[simp] theorem insertHistory_lnk (e : HistEntry) (s : State) : (insertHistory e s).1.lnk = s.lnk :=
  (insertHistory_keeps e s).2.2.2.2.2.2.1
@[simp] theorem insertHistory_free (e : HistEntry) (s : State) : (insertHistory e s).1.free = s.free :=
  (insertHistory_keeps e s).2.2.2.2.2.2.2.1
@[simp] theorem insertHistory_pending (e : HistEntry) (s : State) : (insertHistory e s).1.pending = s.pending :=
  (insertHistory_keeps e s).2.2.2.2.2.2.2.2

@[simp] theorem ensureDue_gst (k : DueKind) (t : Nat) (s : State) : (ensureDue k t s).gst = s.gst := by
  unfold ensureDue
  try dsimp only
  repeat' split
  all_goals simp
@[simp] theorem ensureDue_bkt (k : DueKind) (t : Nat) (s : State) : (ensureDue k t s).bkt = s.bkt := by
  unfold ensureDue
  try dsimp only
  repeat' split
  all_goals simp
@[simp] theorem ensureDue_lst (k : DueKind) (t : Nat) (s : State) : (ensureDue k t s).lst = s.lst := by
  unfold ensureDue
  try dsimp only
  repeat' split
  all_goals simp
@[simp] theorem ensureDue_pln (k : DueKind) (t : Nat) (s : State) : (ensureDue k t s).pln = s.pln := by
  unfold ensureDue
  try dsimp only
  repeat' split
  all_goals simp
@[simp] theorem ensureDue_run (k : DueKind) (t : Nat) (s : State) : (ensureDue k t s).run = s.run := by
  unfold ensureDue
  try dsimp only
  repeat' split
  all_goals simp
@[simp] theorem ensureDue_cnd (k : DueKind) (t : Nat) (s : State) : (ensureDue k t s).cnd = s.cnd := by
  unfold ensureDue
  try dsimp only
  repeat' split
  all_goals simp
@[simp] theorem ensureDue_wsv (k : DueKind) (t : Nat) (s : State) : (ensureDue k t s).wsv = s.wsv := by
  unfold ensureDue
  try dsimp only
  repeat' split
  all_goals simp
@[simp] theorem ensureDue_lnk (k : DueKind) (t : Nat) (s : State) : (ensureDue k t s).lnk = s.lnk := by
  unfold ensureDue
  try dsimp only
  repeat' split
  all_goals simp
@[simp] theorem ensureDue_free (k : DueKind) (t : Nat) (s : State) : (ensureDue k t s).free = s.free := by
  unfold ensureDue
  try dsimp only
  repeat' split
  all_goals simp
@[simp] theorem ensureDue_pending (k : DueKind) (t : Nat) (s : State) : (ensureDue k t s).pending = s.pending := by
  unfold ensureDue
  try dsimp only
  repeat' split
  all_goals simp

@[simp] theorem startKeepalive_gst (s : State) : (startKeepalive s).gst = s.gst := by
  unfold startKeepalive
  try dsimp only
  repeat' split
  all_goals simp
@[simp] theorem startKeepalive_bkt (s : State) : (startKeepalive s).bkt = s.bkt := by
  unfold startKeepalive
  try dsimp only
  repeat' split
  all_goals simp
@[simp] theorem startKeepalive_lst (s : State) : (startKeepalive s).lst = s.lst := by
  unfold startKeepalive
  try dsimp only
  repeat' split
  all_goals simp
@[simp] theorem startKeepalive_pln (s : State) : (startKeepalive s).pln = s.pln := by
  unfold startKeepalive
  try dsimp only
  repeat' split
  all_goals simp
@[simp] theorem startKeepalive_run (s : State) : (startKeepalive s).run = s.run := by
  unfold startKeepalive
  try dsimp only
  repeat' split
  all_goals simp
@[simp] theorem startKeepalive_cnd (s : State) : (startKeepalive s).cnd = s.cnd := by
  unfold startKeepalive
  try dsimp only
  repeat' split
  all_goals simp
@[simp] theorem startKeepalive_wsv (s : State) : (startKeepalive s).wsv = s.wsv := by
  unfold startKeepalive
  try dsimp only
  repeat' split
  all_goals simp
@[simp] theorem startKeepalive_lnk (s : State) : (startKeepalive s).lnk = s.lnk := by
  unfold startKeepalive
  try dsimp only
  repeat' split
  all_goals simp
@[simp] theorem startKeepalive_free (s : State) : (startKeepalive s).free = s.free := by
  unfold startKeepalive
  try dsimp only
  repeat' split
  all_goals simp
@[simp] theorem startKeepalive_pending (s : State) : (startKeepalive s).pending = s.pending := by
  unfold startKeepalive
  try dsimp only
  repeat' split
  all_goals simp

@[simp] theorem postNoticeAt_clk (b : NoticeBody) (t : Nat) (s : State) : (postNoticeAt b t s).clk = s.clk := by
  rfl
@[simp] theorem postNoticeAt_gst (b : NoticeBody) (t : Nat) (s : State) : (postNoticeAt b t s).gst = s.gst := by
  rfl
@[simp] theorem postNoticeAt_bkt (b : NoticeBody) (t : Nat) (s : State) : (postNoticeAt b t s).bkt = s.bkt := by
  rfl
@[simp] theorem postNoticeAt_lst (b : NoticeBody) (t : Nat) (s : State) : (postNoticeAt b t s).lst = s.lst := by
  rfl
@[simp] theorem postNoticeAt_pln (b : NoticeBody) (t : Nat) (s : State) : (postNoticeAt b t s).pln = s.pln := by
  rfl
@[simp] theorem postNoticeAt_run (b : NoticeBody) (t : Nat) (s : State) : (postNoticeAt b t s).run = s.run := by
  rfl
@[simp] theorem postNoticeAt_cnd (b : NoticeBody) (t : Nat) (s : State) : (postNoticeAt b t s).cnd = s.cnd := by
  rfl
@[simp] theorem postNoticeAt_wsv (b : NoticeBody) (t : Nat) (s : State) : (postNoticeAt b t s).wsv = s.wsv := by
  rfl
@[simp] theorem postNoticeAt_free (b : NoticeBody) (t : Nat) (s : State) : (postNoticeAt b t s).free = s.free := by
  rfl
@[simp] theorem postNoticeAt_pending (b : NoticeBody) (t : Nat) (s : State) :
    (postNoticeAt b t s).pending = s.pending := by
  rfl

@[simp] theorem postNotice_clk (b : NoticeBody) (s : State) : (postNotice b s).clk = s.clk := by
  rfl
@[simp] theorem postNotice_gst (b : NoticeBody) (s : State) : (postNotice b s).gst = s.gst := by
  rfl
@[simp] theorem postNotice_bkt (b : NoticeBody) (s : State) : (postNotice b s).bkt = s.bkt := by
  rfl
@[simp] theorem postNotice_lst (b : NoticeBody) (s : State) : (postNotice b s).lst = s.lst := by
  rfl
@[simp] theorem postNotice_pln (b : NoticeBody) (s : State) : (postNotice b s).pln = s.pln := by
  rfl
@[simp] theorem postNotice_run (b : NoticeBody) (s : State) : (postNotice b s).run = s.run := by
  rfl
@[simp] theorem postNotice_cnd (b : NoticeBody) (s : State) : (postNotice b s).cnd = s.cnd := by
  rfl
@[simp] theorem postNotice_wsv (b : NoticeBody) (s : State) : (postNotice b s).wsv = s.wsv := by
  rfl
@[simp] theorem postNotice_free (b : NoticeBody) (s : State) : (postNotice b s).free = s.free := by
  rfl
@[simp] theorem postNotice_pending (b : NoticeBody) (s : State) : (postNotice b s).pending = s.pending := by
  rfl

@[simp] theorem submit_clk (c : Condition) (s : State) : (submit c s).clk = s.clk := by
  unfold submit
  try dsimp only
  repeat' split
  all_goals simp
@[simp] theorem submit_gst (c : Condition) (s : State) : (submit c s).gst = s.gst := by
  unfold submit
  try dsimp only
  repeat' split
  all_goals simp
@[simp] theorem submit_bkt (c : Condition) (s : State) : (submit c s).bkt = s.bkt := by
  unfold submit
  try dsimp only
  repeat' split
  all_goals simp
@[simp] theorem submit_lst (c : Condition) (s : State) : (submit c s).lst = s.lst := by
  unfold submit
  try dsimp only
  repeat' split
  all_goals simp
@[simp] theorem submit_pln (c : Condition) (s : State) : (submit c s).pln = s.pln := by
  unfold submit
  try dsimp only
  repeat' split
  all_goals simp
@[simp] theorem submit_run (c : Condition) (s : State) : (submit c s).run = s.run := by
  unfold submit
  try dsimp only
  repeat' split
  all_goals simp
@[simp] theorem submit_wsv (c : Condition) (s : State) : (submit c s).wsv = s.wsv := by
  unfold submit
  try dsimp only
  repeat' split
  all_goals simp
@[simp] theorem submit_free (c : Condition) (s : State) : (submit c s).free = s.free := by
  unfold submit
  try dsimp only
  repeat' split
  all_goals simp
@[simp] theorem submit_pending (c : Condition) (s : State) : (submit c s).pending = s.pending := by
  unfold submit
  try dsimp only
  repeat' split
  all_goals simp

@[simp] theorem submitAll_clk (cs : List Condition) (s : State) : (submitAll cs s).clk = s.clk := by
  unfold submitAll
  try dsimp only
  all_goals simp [foldl_keeps (fun x => State.clk x)]
@[simp] theorem submitAll_gst (cs : List Condition) (s : State) : (submitAll cs s).gst = s.gst := by
  unfold submitAll
  try dsimp only
  all_goals simp [foldl_keeps (fun x => State.gst x)]
@[simp] theorem submitAll_bkt (cs : List Condition) (s : State) : (submitAll cs s).bkt = s.bkt := by
  unfold submitAll
  try dsimp only
  all_goals simp [foldl_keeps (fun x => State.bkt x)]
@[simp] theorem submitAll_lst (cs : List Condition) (s : State) : (submitAll cs s).lst = s.lst := by
  unfold submitAll
  try dsimp only
  all_goals simp [foldl_keeps (fun x => State.lst x)]
@[simp] theorem submitAll_pln (cs : List Condition) (s : State) : (submitAll cs s).pln = s.pln := by
  unfold submitAll
  try dsimp only
  all_goals simp [foldl_keeps (fun x => State.pln x)]
@[simp] theorem submitAll_run (cs : List Condition) (s : State) : (submitAll cs s).run = s.run := by
  unfold submitAll
  try dsimp only
  all_goals simp [foldl_keeps (fun x => State.run x)]
@[simp] theorem submitAll_wsv (cs : List Condition) (s : State) : (submitAll cs s).wsv = s.wsv := by
  unfold submitAll
  try dsimp only
  all_goals simp [foldl_keeps (fun x => State.wsv x)]
@[simp] theorem submitAll_free (cs : List Condition) (s : State) : (submitAll cs s).free = s.free := by
  unfold submitAll
  try dsimp only
  all_goals simp [foldl_keeps (fun x => State.free x)]
@[simp] theorem submitAll_pending (cs : List Condition) (s : State) : (submitAll cs s).pending = s.pending := by
  unfold submitAll
  try dsimp only
  all_goals simp [foldl_keeps (fun x => State.pending x)]

@[simp] theorem submitFree_clk (cs : List Condition) (s : State) : (submitFree cs s).clk = s.clk := by
  unfold submitFree
  try dsimp only
  repeat' split
  all_goals simp
@[simp] theorem submitFree_gst (cs : List Condition) (s : State) : (submitFree cs s).gst = s.gst := by
  unfold submitFree
  try dsimp only
  repeat' split
  all_goals simp
@[simp] theorem submitFree_bkt (cs : List Condition) (s : State) : (submitFree cs s).bkt = s.bkt := by
  unfold submitFree
  try dsimp only
  repeat' split
  all_goals simp
@[simp] theorem submitFree_lst (cs : List Condition) (s : State) : (submitFree cs s).lst = s.lst := by
  unfold submitFree
  try dsimp only
  repeat' split
  all_goals simp
@[simp] theorem submitFree_pln (cs : List Condition) (s : State) : (submitFree cs s).pln = s.pln := by
  unfold submitFree
  try dsimp only
  repeat' split
  all_goals simp
@[simp] theorem submitFree_run (cs : List Condition) (s : State) : (submitFree cs s).run = s.run := by
  unfold submitFree
  try dsimp only
  repeat' split
  all_goals simp
@[simp] theorem submitFree_wsv (cs : List Condition) (s : State) : (submitFree cs s).wsv = s.wsv := by
  unfold submitFree
  try dsimp only
  repeat' split
  all_goals simp
@[simp] theorem submitFree_pending (cs : List Condition) (s : State) : (submitFree cs s).pending = s.pending := by
  unfold submitFree
  try dsimp only
  repeat' split
  all_goals simp

@[simp] theorem advanceGap_clk (t : Tuner) (s : State) : (advanceGap t s).clk = s.clk := by
  unfold advanceGap
  try dsimp only
  repeat' split
  all_goals simp
@[simp] theorem advanceGap_gst (t : Tuner) (s : State) : (advanceGap t s).gst = s.gst := by
  unfold advanceGap
  try dsimp only
  repeat' split
  all_goals simp
@[simp] theorem advanceGap_bkt (t : Tuner) (s : State) : (advanceGap t s).bkt = s.bkt := by
  unfold advanceGap
  try dsimp only
  repeat' split
  all_goals simp
@[simp] theorem advanceGap_lst (t : Tuner) (s : State) : (advanceGap t s).lst = s.lst := by
  unfold advanceGap
  try dsimp only
  repeat' split
  all_goals simp
@[simp] theorem advanceGap_pln (t : Tuner) (s : State) : (advanceGap t s).pln = s.pln := by
  unfold advanceGap
  try dsimp only
  repeat' split
  all_goals simp
@[simp] theorem advanceGap_run (t : Tuner) (s : State) : (advanceGap t s).run = s.run := by
  unfold advanceGap
  try dsimp only
  repeat' split
  all_goals simp
@[simp] theorem advanceGap_wsv (t : Tuner) (s : State) : (advanceGap t s).wsv = s.wsv := by
  unfold advanceGap
  try dsimp only
  repeat' split
  all_goals simp
@[simp] theorem advanceGap_free (t : Tuner) (s : State) : (advanceGap t s).free = s.free := by
  unfold advanceGap
  try dsimp only
  repeat' split
  all_goals simp
@[simp] theorem advanceGap_pending (t : Tuner) (s : State) : (advanceGap t s).pending = s.pending := by
  unfold advanceGap
  try dsimp only
  repeat' split
  all_goals simp

@[simp] theorem setDirty_clk (s : State) : (setDirty s).clk = s.clk := by
  rfl
@[simp] theorem setDirty_gst (s : State) : (setDirty s).gst = s.gst := by
  rfl
@[simp] theorem setDirty_bkt (s : State) : (setDirty s).bkt = s.bkt := by
  rfl
@[simp] theorem setDirty_lst (s : State) : (setDirty s).lst = s.lst := by
  rfl
@[simp] theorem setDirty_run (s : State) : (setDirty s).run = s.run := by
  rfl
@[simp] theorem setDirty_cnd (s : State) : (setDirty s).cnd = s.cnd := by
  rfl
@[simp] theorem setDirty_wsv (s : State) : (setDirty s).wsv = s.wsv := by
  rfl
@[simp] theorem setDirty_lnk (s : State) : (setDirty s).lnk = s.lnk := by
  rfl
@[simp] theorem setDirty_free (s : State) : (setDirty s).free = s.free := by
  rfl
@[simp] theorem setDirty_pending (s : State) : (setDirty s).pending = s.pending := by
  rfl

@[simp] theorem setDirtyIf_clk (b : Bool) (s : State) : (setDirtyIf b s).clk = s.clk := by
  unfold setDirtyIf
  try dsimp only
  repeat' split
  all_goals simp
@[simp] theorem setDirtyIf_gst (b : Bool) (s : State) : (setDirtyIf b s).gst = s.gst := by
  unfold setDirtyIf
  try dsimp only
  repeat' split
  all_goals simp
@[simp] theorem setDirtyIf_bkt (b : Bool) (s : State) : (setDirtyIf b s).bkt = s.bkt := by
  unfold setDirtyIf
  try dsimp only
  repeat' split
  all_goals simp
@[simp] theorem setDirtyIf_lst (b : Bool) (s : State) : (setDirtyIf b s).lst = s.lst := by
  unfold setDirtyIf
  try dsimp only
  repeat' split
  all_goals simp
@[simp] theorem setDirtyIf_run (b : Bool) (s : State) : (setDirtyIf b s).run = s.run := by
  unfold setDirtyIf
  try dsimp only
  repeat' split
  all_goals simp
@[simp] theorem setDirtyIf_cnd (b : Bool) (s : State) : (setDirtyIf b s).cnd = s.cnd := by
  unfold setDirtyIf
  try dsimp only
  repeat' split
  all_goals simp
@[simp] theorem setDirtyIf_wsv (b : Bool) (s : State) : (setDirtyIf b s).wsv = s.wsv := by
  unfold setDirtyIf
  try dsimp only
  repeat' split
  all_goals simp
@[simp] theorem setDirtyIf_lnk (b : Bool) (s : State) : (setDirtyIf b s).lnk = s.lnk := by
  unfold setDirtyIf
  try dsimp only
  repeat' split
  all_goals simp
@[simp] theorem setDirtyIf_free (b : Bool) (s : State) : (setDirtyIf b s).free = s.free := by
  unfold setDirtyIf
  try dsimp only
  repeat' split
  all_goals simp
@[simp] theorem setDirtyIf_pending (b : Bool) (s : State) : (setDirtyIf b s).pending = s.pending := by
  unfold setDirtyIf
  try dsimp only
  repeat' split
  all_goals simp

@[simp] theorem beginPass_clk (s : State) : (beginPass s).clk = s.clk := by
  unfold beginPass
  try dsimp only
  repeat' split
  all_goals simp
@[simp] theorem beginPass_gst (s : State) : (beginPass s).gst = s.gst := by
  unfold beginPass
  try dsimp only
  repeat' split
  all_goals simp
@[simp] theorem beginPass_bkt (s : State) : (beginPass s).bkt = s.bkt := by
  unfold beginPass
  try dsimp only
  repeat' split
  all_goals simp
@[simp] theorem beginPass_lst (s : State) : (beginPass s).lst = s.lst := by
  unfold beginPass
  try dsimp only
  repeat' split
  all_goals simp
@[simp] theorem beginPass_run (s : State) : (beginPass s).run = s.run := by
  unfold beginPass
  try dsimp only
  repeat' split
  all_goals simp
@[simp] theorem beginPass_cnd (s : State) : (beginPass s).cnd = s.cnd := by
  unfold beginPass
  try dsimp only
  repeat' split
  all_goals simp
@[simp] theorem beginPass_wsv (s : State) : (beginPass s).wsv = s.wsv := by
  unfold beginPass
  try dsimp only
  repeat' split
  all_goals simp
@[simp] theorem beginPass_lnk (s : State) : (beginPass s).lnk = s.lnk := by
  unfold beginPass
  try dsimp only
  repeat' split
  all_goals simp
@[simp] theorem beginPass_free (s : State) : (beginPass s).free = s.free := by
  unfold beginPass
  try dsimp only
  repeat' split
  all_goals simp
@[simp] theorem beginPass_pending (s : State) : (beginPass s).pending = s.pending := by
  unfold beginPass
  try dsimp only
  repeat' split
  all_goals simp

@[simp] theorem makeSpent_clk (bid : Nat) (s : State) : (makeSpent bid s).clk = s.clk := by
  rfl
@[simp] theorem makeSpent_gst (bid : Nat) (s : State) : (makeSpent bid s).gst = s.gst := by
  rfl
@[simp] theorem makeSpent_lst (bid : Nat) (s : State) : (makeSpent bid s).lst = s.lst := by
  rfl
@[simp] theorem makeSpent_pln (bid : Nat) (s : State) : (makeSpent bid s).pln = s.pln := by
  rfl
@[simp] theorem makeSpent_run (bid : Nat) (s : State) : (makeSpent bid s).run = s.run := by
  rfl
@[simp] theorem makeSpent_cnd (bid : Nat) (s : State) : (makeSpent bid s).cnd = s.cnd := by
  rfl
@[simp] theorem makeSpent_wsv (bid : Nat) (s : State) : (makeSpent bid s).wsv = s.wsv := by
  rfl
@[simp] theorem makeSpent_lnk (bid : Nat) (s : State) : (makeSpent bid s).lnk = s.lnk := by
  rfl
@[simp] theorem makeSpent_free (bid : Nat) (s : State) : (makeSpent bid s).free = s.free := by
  rfl
@[simp] theorem makeSpent_pending (bid : Nat) (s : State) : (makeSpent bid s).pending = s.pending := by
  rfl

@[simp] theorem removeSpent_clk (bid : Nat) (s : State) : (removeSpent bid s).clk = s.clk := by
  unfold removeSpent
  try dsimp only
  repeat' split
  all_goals simp
@[simp] theorem removeSpent_gst (bid : Nat) (s : State) : (removeSpent bid s).gst = s.gst := by
  unfold removeSpent
  try dsimp only
  repeat' split
  all_goals simp
@[simp] theorem removeSpent_lst (bid : Nat) (s : State) : (removeSpent bid s).lst = s.lst := by
  unfold removeSpent
  try dsimp only
  repeat' split
  all_goals simp
@[simp] theorem removeSpent_pln (bid : Nat) (s : State) : (removeSpent bid s).pln = s.pln := by
  unfold removeSpent
  try dsimp only
  repeat' split
  all_goals simp
@[simp] theorem removeSpent_run (bid : Nat) (s : State) : (removeSpent bid s).run = s.run := by
  unfold removeSpent
  try dsimp only
  repeat' split
  all_goals simp
@[simp] theorem removeSpent_cnd (bid : Nat) (s : State) : (removeSpent bid s).cnd = s.cnd := by
  unfold removeSpent
  try dsimp only
  repeat' split
  all_goals simp
@[simp] theorem removeSpent_wsv (bid : Nat) (s : State) : (removeSpent bid s).wsv = s.wsv := by
  unfold removeSpent
  try dsimp only
  repeat' split
  all_goals simp
@[simp] theorem removeSpent_lnk (bid : Nat) (s : State) : (removeSpent bid s).lnk = s.lnk := by
  unfold removeSpent
  try dsimp only
  repeat' split
  all_goals simp
@[simp] theorem removeSpent_free (bid : Nat) (s : State) : (removeSpent bid s).free = s.free := by
  unfold removeSpent
  try dsimp only
  repeat' split
  all_goals simp
@[simp] theorem removeSpent_pending (bid : Nat) (s : State) : (removeSpent bid s).pending = s.pending := by
  unfold removeSpent
  try dsimp only
  repeat' split
  all_goals simp

@[simp] theorem handDone_clk (i : Inst) (fr : Nat) (s : State) : (handDone i fr s).clk = s.clk := by
  unfold handDone
  try dsimp only
  repeat' split
  all_goals simp
@[simp] theorem handDone_gst (i : Inst) (fr : Nat) (s : State) : (handDone i fr s).gst = s.gst := by
  unfold handDone
  try dsimp only
  repeat' split
  all_goals simp
@[simp] theorem handDone_lst (i : Inst) (fr : Nat) (s : State) : (handDone i fr s).lst = s.lst := by
  unfold handDone
  try dsimp only
  repeat' split
  all_goals simp
@[simp] theorem handDone_run (i : Inst) (fr : Nat) (s : State) : (handDone i fr s).run = s.run := by
  unfold handDone
  try dsimp only
  repeat' split
  all_goals simp
@[simp] theorem handDone_cnd (i : Inst) (fr : Nat) (s : State) : (handDone i fr s).cnd = s.cnd := by
  unfold handDone
  try dsimp only
  repeat' split
  all_goals simp
@[simp] theorem handDone_wsv (i : Inst) (fr : Nat) (s : State) : (handDone i fr s).wsv = s.wsv := by
  unfold handDone
  try dsimp only
  repeat' split
  all_goals simp
@[simp] theorem handDone_lnk (i : Inst) (fr : Nat) (s : State) : (handDone i fr s).lnk = s.lnk := by
  unfold handDone
  try dsimp only
  repeat' split
  all_goals simp
@[simp] theorem handDone_free (i : Inst) (fr : Nat) (s : State) : (handDone i fr s).free = s.free := by
  unfold handDone
  try dsimp only
  repeat' split
  all_goals simp
@[simp] theorem handDone_pending (i : Inst) (fr : Nat) (s : State) : (handDone i fr s).pending = s.pending := by
  unfold handDone
  try dsimp only
  repeat' split
  all_goals simp

@[simp] theorem joinActive_clk (t : Tuner) (i : Inst) (s : State) : (joinActive t i s).clk = s.clk := by
  unfold joinActive
  try dsimp only
  all_goals simp
@[simp] theorem joinActive_gst (t : Tuner) (i : Inst) (s : State) : (joinActive t i s).gst = s.gst := by
  unfold joinActive
  try dsimp only
  all_goals simp
@[simp] theorem joinActive_bkt (t : Tuner) (i : Inst) (s : State) : (joinActive t i s).bkt = s.bkt := by
  unfold joinActive
  try dsimp only
  all_goals simp
@[simp] theorem joinActive_lst (t : Tuner) (i : Inst) (s : State) : (joinActive t i s).lst = s.lst := by
  unfold joinActive
  try dsimp only
  all_goals simp
@[simp] theorem joinActive_pln (t : Tuner) (i : Inst) (s : State) : (joinActive t i s).pln = s.pln := by
  unfold joinActive
  try dsimp only
  all_goals simp
@[simp] theorem joinActive_cnd (t : Tuner) (i : Inst) (s : State) : (joinActive t i s).cnd = s.cnd := by
  unfold joinActive
  try dsimp only
  all_goals simp
@[simp] theorem joinActive_wsv (t : Tuner) (i : Inst) (s : State) : (joinActive t i s).wsv = s.wsv := by
  unfold joinActive
  try dsimp only
  all_goals simp
@[simp] theorem joinActive_lnk (t : Tuner) (i : Inst) (s : State) : (joinActive t i s).lnk = s.lnk := by
  unfold joinActive
  try dsimp only
  all_goals simp
@[simp] theorem joinActive_free (t : Tuner) (i : Inst) (s : State) : (joinActive t i s).free = s.free := by
  unfold joinActive
  try dsimp only
  all_goals simp
@[simp] theorem joinActive_pending (t : Tuner) (i : Inst) (s : State) : (joinActive t i s).pending = s.pending := by
  unfold joinActive
  try dsimp only
  all_goals simp

@[simp] theorem leaveActive_clk (iid : Nat) (s : State) : (leaveActive iid s).clk = s.clk := by
  unfold leaveActive
  try dsimp only
  all_goals simp
@[simp] theorem leaveActive_gst (iid : Nat) (s : State) : (leaveActive iid s).gst = s.gst := by
  unfold leaveActive
  try dsimp only
  all_goals simp
@[simp] theorem leaveActive_bkt (iid : Nat) (s : State) : (leaveActive iid s).bkt = s.bkt := by
  unfold leaveActive
  try dsimp only
  all_goals simp
@[simp] theorem leaveActive_lst (iid : Nat) (s : State) : (leaveActive iid s).lst = s.lst := by
  unfold leaveActive
  try dsimp only
  all_goals simp
@[simp] theorem leaveActive_pln (iid : Nat) (s : State) : (leaveActive iid s).pln = s.pln := by
  unfold leaveActive
  try dsimp only
  all_goals simp
@[simp] theorem leaveActive_cnd (iid : Nat) (s : State) : (leaveActive iid s).cnd = s.cnd := by
  unfold leaveActive
  try dsimp only
  all_goals simp
@[simp] theorem leaveActive_wsv (iid : Nat) (s : State) : (leaveActive iid s).wsv = s.wsv := by
  unfold leaveActive
  try dsimp only
  all_goals simp
@[simp] theorem leaveActive_lnk (iid : Nat) (s : State) : (leaveActive iid s).lnk = s.lnk := by
  unfold leaveActive
  try dsimp only
  all_goals simp
@[simp] theorem leaveActive_free (iid : Nat) (s : State) : (leaveActive iid s).free = s.free := by
  unfold leaveActive
  try dsimp only
  all_goals simp
@[simp] theorem leaveActive_pending (iid : Nat) (s : State) : (leaveActive iid s).pending = s.pending := by
  unfold leaveActive
  try dsimp only
  all_goals simp

@[simp] theorem chargeGap_clk (t : Tuner) (u : Nat) (iid : Nat) (s : State) : (chargeGap t u iid s).clk = s.clk := by
  unfold chargeGap
  try dsimp only
  repeat' split
  all_goals simp
@[simp] theorem chargeGap_gst (t : Tuner) (u : Nat) (iid : Nat) (s : State) : (chargeGap t u iid s).gst = s.gst := by
  unfold chargeGap
  try dsimp only
  repeat' split
  all_goals simp
@[simp] theorem chargeGap_bkt (t : Tuner) (u : Nat) (iid : Nat) (s : State) : (chargeGap t u iid s).bkt = s.bkt := by
  unfold chargeGap
  try dsimp only
  repeat' split
  all_goals simp
@[simp] theorem chargeGap_pln (t : Tuner) (u : Nat) (iid : Nat) (s : State) : (chargeGap t u iid s).pln = s.pln := by
  unfold chargeGap
  try dsimp only
  repeat' split
  all_goals simp
@[simp] theorem chargeGap_cnd (t : Tuner) (u : Nat) (iid : Nat) (s : State) : (chargeGap t u iid s).cnd = s.cnd := by
  unfold chargeGap
  try dsimp only
  repeat' split
  all_goals simp
@[simp] theorem chargeGap_wsv (t : Tuner) (u : Nat) (iid : Nat) (s : State) : (chargeGap t u iid s).wsv = s.wsv := by
  unfold chargeGap
  try dsimp only
  repeat' split
  all_goals simp
@[simp] theorem chargeGap_lnk (t : Tuner) (u : Nat) (iid : Nat) (s : State) : (chargeGap t u iid s).lnk = s.lnk := by
  unfold chargeGap
  try dsimp only
  repeat' split
  all_goals simp
@[simp] theorem chargeGap_free (t : Tuner) (u : Nat) (iid : Nat) (s : State) :
    (chargeGap t u iid s).free = s.free := by
  unfold chargeGap
  try dsimp only
  repeat' split
  all_goals simp
@[simp] theorem chargeGap_pending (t : Tuner) (u : Nat) (iid : Nat) (s : State) :
    (chargeGap t u iid s).pending = s.pending := by
  unfold chargeGap
  try dsimp only
  repeat' split
  all_goals simp

@[simp] theorem chargeLeaving_clk (iid : Nat) (s : State) : (chargeLeaving iid s).clk = s.clk := by
  unfold chargeLeaving
  try dsimp only
  repeat' split
  all_goals simp
@[simp] theorem chargeLeaving_gst (iid : Nat) (s : State) : (chargeLeaving iid s).gst = s.gst := by
  unfold chargeLeaving
  try dsimp only
  repeat' split
  all_goals simp
@[simp] theorem chargeLeaving_bkt (iid : Nat) (s : State) : (chargeLeaving iid s).bkt = s.bkt := by
  unfold chargeLeaving
  try dsimp only
  repeat' split
  all_goals simp
@[simp] theorem chargeLeaving_pln (iid : Nat) (s : State) : (chargeLeaving iid s).pln = s.pln := by
  unfold chargeLeaving
  try dsimp only
  repeat' split
  all_goals simp
@[simp] theorem chargeLeaving_cnd (iid : Nat) (s : State) : (chargeLeaving iid s).cnd = s.cnd := by
  unfold chargeLeaving
  try dsimp only
  repeat' split
  all_goals simp
@[simp] theorem chargeLeaving_wsv (iid : Nat) (s : State) : (chargeLeaving iid s).wsv = s.wsv := by
  unfold chargeLeaving
  try dsimp only
  repeat' split
  all_goals simp
@[simp] theorem chargeLeaving_lnk (iid : Nat) (s : State) : (chargeLeaving iid s).lnk = s.lnk := by
  unfold chargeLeaving
  try dsimp only
  repeat' split
  all_goals simp
@[simp] theorem chargeLeaving_free (iid : Nat) (s : State) : (chargeLeaving iid s).free = s.free := by
  unfold chargeLeaving
  try dsimp only
  repeat' split
  all_goals simp
@[simp] theorem chargeLeaving_pending (iid : Nat) (s : State) : (chargeLeaving iid s).pending = s.pending := by
  unfold chargeLeaving
  try dsimp only
  repeat' split
  all_goals simp

@[simp] theorem closeGap_gst (t : Tuner) (s : State) : (closeGap t s).gst = s.gst := by
  unfold closeGap
  try dsimp only
  all_goals simp [foldl_keeps (fun x => State.gst x)]
@[simp] theorem closeGap_bkt (t : Tuner) (s : State) : (closeGap t s).bkt = s.bkt := by
  unfold closeGap
  try dsimp only
  all_goals simp [foldl_keeps (fun x => State.bkt x)]
@[simp] theorem closeGap_pln (t : Tuner) (s : State) : (closeGap t s).pln = s.pln := by
  unfold closeGap
  try dsimp only
  all_goals simp [foldl_keeps (fun x => State.pln x)]
@[simp] theorem closeGap_wsv (t : Tuner) (s : State) : (closeGap t s).wsv = s.wsv := by
  unfold closeGap
  try dsimp only
  all_goals simp [foldl_keeps (fun x => State.wsv x)]
@[simp] theorem closeGap_pending (t : Tuner) (s : State) : (closeGap t s).pending = s.pending := by
  unfold closeGap
  try dsimp only
  all_goals simp [foldl_keeps (fun x => State.pending x)]

@[simp] theorem monitorOff_gst (t : Tuner) (s : State) : (monitorOff t s).gst = s.gst := by
  unfold monitorOff
  try dsimp only
  repeat' split
  all_goals simp
@[simp] theorem monitorOff_bkt (t : Tuner) (s : State) : (monitorOff t s).bkt = s.bkt := by
  unfold monitorOff
  try dsimp only
  repeat' split
  all_goals simp
@[simp] theorem monitorOff_pln (t : Tuner) (s : State) : (monitorOff t s).pln = s.pln := by
  unfold monitorOff
  try dsimp only
  repeat' split
  all_goals simp
@[simp] theorem monitorOff_wsv (t : Tuner) (s : State) : (monitorOff t s).wsv = s.wsv := by
  unfold monitorOff
  try dsimp only
  repeat' split
  all_goals simp
@[simp] theorem monitorOff_pending (t : Tuner) (s : State) : (monitorOff t s).pending = s.pending := by
  unfold monitorOff
  try dsimp only
  repeat' split
  all_goals simp

@[simp] theorem monitorCheck_gst (t : Tuner) (s : State) : (monitorCheck t s).gst = s.gst := by
  unfold monitorCheck
  try dsimp only
  repeat' split
  all_goals simp
@[simp] theorem monitorCheck_bkt (t : Tuner) (s : State) : (monitorCheck t s).bkt = s.bkt := by
  unfold monitorCheck
  try dsimp only
  repeat' split
  all_goals simp
@[simp] theorem monitorCheck_pln (t : Tuner) (s : State) : (monitorCheck t s).pln = s.pln := by
  unfold monitorCheck
  try dsimp only
  repeat' split
  all_goals simp
@[simp] theorem monitorCheck_wsv (t : Tuner) (s : State) : (monitorCheck t s).wsv = s.wsv := by
  unfold monitorCheck
  try dsimp only
  repeat' split
  all_goals simp
@[simp] theorem monitorCheck_pending (t : Tuner) (s : State) : (monitorCheck t s).pending = s.pending := by
  unfold monitorCheck
  try dsimp only
  repeat' split
  all_goals simp

@[simp] theorem monitorCheckOf_gst (i : Inst) (s : State) : (monitorCheckOf i s).gst = s.gst := by
  unfold monitorCheckOf
  try dsimp only
  repeat' split
  all_goals simp
@[simp] theorem monitorCheckOf_bkt (i : Inst) (s : State) : (monitorCheckOf i s).bkt = s.bkt := by
  unfold monitorCheckOf
  try dsimp only
  repeat' split
  all_goals simp
@[simp] theorem monitorCheckOf_pln (i : Inst) (s : State) : (monitorCheckOf i s).pln = s.pln := by
  unfold monitorCheckOf
  try dsimp only
  repeat' split
  all_goals simp
@[simp] theorem monitorCheckOf_wsv (i : Inst) (s : State) : (monitorCheckOf i s).wsv = s.wsv := by
  unfold monitorCheckOf
  try dsimp only
  repeat' split
  all_goals simp
@[simp] theorem monitorCheckOf_pending (i : Inst) (s : State) : (monitorCheckOf i s).pending = s.pending := by
  unfold monitorCheckOf
  try dsimp only
  repeat' split
  all_goals simp

@[simp] theorem withdrawInst_gst (iid : Nat) (s : State) : (withdrawInst iid s).gst = s.gst := by
  unfold withdrawInst
  try dsimp only
  all_goals simp
@[simp] theorem withdrawInst_bkt (iid : Nat) (s : State) : (withdrawInst iid s).bkt = s.bkt := by
  unfold withdrawInst
  try dsimp only
  all_goals simp
@[simp] theorem withdrawInst_lst (iid : Nat) (s : State) : (withdrawInst iid s).lst = s.lst := by
  unfold withdrawInst
  try dsimp only
  all_goals simp
@[simp] theorem withdrawInst_pln (iid : Nat) (s : State) : (withdrawInst iid s).pln = s.pln := by
  unfold withdrawInst
  try dsimp only
  all_goals simp
@[simp] theorem withdrawInst_run (iid : Nat) (s : State) : (withdrawInst iid s).run = s.run := by
  unfold withdrawInst
  try dsimp only
  all_goals simp
@[simp] theorem withdrawInst_cnd (iid : Nat) (s : State) : (withdrawInst iid s).cnd = s.cnd := by
  unfold withdrawInst
  try dsimp only
  all_goals simp
@[simp] theorem withdrawInst_wsv (iid : Nat) (s : State) : (withdrawInst iid s).wsv = s.wsv := by
  unfold withdrawInst
  try dsimp only
  all_goals simp
@[simp] theorem withdrawInst_lnk (iid : Nat) (s : State) : (withdrawInst iid s).lnk = s.lnk := by
  unfold withdrawInst
  try dsimp only
  all_goals simp
@[simp] theorem withdrawInst_free (iid : Nat) (s : State) : (withdrawInst iid s).free = s.free := by
  unfold withdrawInst
  try dsimp only
  all_goals simp
@[simp] theorem withdrawInst_pending (iid : Nat) (s : State) : (withdrawInst iid s).pending = s.pending := by
  unfold withdrawInst
  try dsimp only
  all_goals simp

@[simp] theorem terminate_gst (iid : Nat) (fi : InstState) (ca : Cause) (fr : Option Nat) (s : State) :
    (terminate iid fi ca fr s).gst = s.gst := by
  unfold terminate
  try dsimp only
  repeat' split
  all_goals simp
@[simp] theorem terminate_wsv (iid : Nat) (fi : InstState) (ca : Cause) (fr : Option Nat) (s : State) :
    (terminate iid fi ca fr s).wsv = s.wsv := by
  unfold terminate
  try dsimp only
  repeat' split
  all_goals simp
@[simp] theorem terminate_pending (iid : Nat) (fi : InstState) (ca : Cause) (fr : Option Nat) (s : State) :
    (terminate iid fi ca fr s).pending = s.pending := by
  unfold terminate
  try dsimp only
  repeat' split
  all_goals simp

@[simp] theorem missInst_gst (ca : Cause) (iid : Nat) (s : State) : (missInst ca iid s).gst = s.gst := by
  unfold missInst
  try dsimp only
  repeat' split
  all_goals simp
@[simp] theorem missInst_wsv (ca : Cause) (iid : Nat) (s : State) : (missInst ca iid s).wsv = s.wsv := by
  unfold missInst
  try dsimp only
  repeat' split
  all_goals simp
@[simp] theorem missInst_pending (ca : Cause) (iid : Nat) (s : State) : (missInst ca iid s).pending = s.pending := by
  unfold missInst
  try dsimp only
  repeat' split
  all_goals simp

@[simp] theorem enterStopping_gst (re : StopReason) (iid : Nat) (s : State) :
    (enterStopping re iid s).gst = s.gst := by
  unfold enterStopping
  try dsimp only
  repeat' split
  all_goals simp
@[simp] theorem enterStopping_bkt (re : StopReason) (iid : Nat) (s : State) :
    (enterStopping re iid s).bkt = s.bkt := by
  unfold enterStopping
  try dsimp only
  repeat' split
  all_goals simp
@[simp] theorem enterStopping_wsv (re : StopReason) (iid : Nat) (s : State) :
    (enterStopping re iid s).wsv = s.wsv := by
  unfold enterStopping
  try dsimp only
  repeat' split
  all_goals simp
@[simp] theorem enterStopping_pending (re : StopReason) (iid : Nat) (s : State) :
    (enterStopping re iid s).pending = s.pending := by
  unfold enterStopping
  try dsimp only
  repeat' split
  all_goals simp

@[simp] theorem endStopping_gst (ca : Cause) (i : Inst) (s : State) : (endStopping ca i s).gst = s.gst := by
  unfold endStopping
  try dsimp only
  repeat' split
  all_goals simp
@[simp] theorem endStopping_wsv (ca : Cause) (i : Inst) (s : State) : (endStopping ca i s).wsv = s.wsv := by
  unfold endStopping
  try dsimp only
  repeat' split
  all_goals simp
@[simp] theorem endStopping_pending (ca : Cause) (i : Inst) (s : State) :
    (endStopping ca i s).pending = s.pending := by
  unfold endStopping
  try dsimp only
  repeat' split
  all_goals simp

@[simp] theorem cutOverrun_gst (t : Tuner) (i : Inst) (s : State) : (cutOverrun t i s).gst = s.gst := by
  unfold cutOverrun
  try dsimp only
  all_goals simp
@[simp] theorem cutOverrun_bkt (t : Tuner) (i : Inst) (s : State) : (cutOverrun t i s).bkt = s.bkt := by
  unfold cutOverrun
  try dsimp only
  all_goals simp
@[simp] theorem cutOverrun_wsv (t : Tuner) (i : Inst) (s : State) : (cutOverrun t i s).wsv = s.wsv := by
  unfold cutOverrun
  try dsimp only
  all_goals simp
@[simp] theorem cutOverrun_pending (t : Tuner) (i : Inst) (s : State) : (cutOverrun t i s).pending = s.pending := by
  unfold cutOverrun
  try dsimp only
  all_goals simp

@[simp] theorem removeClaim_gst (cid : Nat) (s : State) : (removeClaim cid s).gst = s.gst := by
  unfold removeClaim
  try dsimp only
  all_goals simp
@[simp] theorem removeClaim_bkt (cid : Nat) (s : State) : (removeClaim cid s).bkt = s.bkt := by
  unfold removeClaim
  try dsimp only
  all_goals simp
@[simp] theorem removeClaim_lst (cid : Nat) (s : State) : (removeClaim cid s).lst = s.lst := by
  unfold removeClaim
  try dsimp only
  all_goals simp
@[simp] theorem removeClaim_cnd (cid : Nat) (s : State) : (removeClaim cid s).cnd = s.cnd := by
  unfold removeClaim
  try dsimp only
  all_goals simp
@[simp] theorem removeClaim_wsv (cid : Nat) (s : State) : (removeClaim cid s).wsv = s.wsv := by
  unfold removeClaim
  try dsimp only
  all_goals simp
@[simp] theorem removeClaim_lnk (cid : Nat) (s : State) : (removeClaim cid s).lnk = s.lnk := by
  unfold removeClaim
  try dsimp only
  all_goals simp
@[simp] theorem removeClaim_free (cid : Nat) (s : State) : (removeClaim cid s).free = s.free := by
  unfold removeClaim
  try dsimp only
  all_goals simp
@[simp] theorem removeClaim_pending (cid : Nat) (s : State) : (removeClaim cid s).pending = s.pending := by
  unfold removeClaim
  try dsimp only
  all_goals simp

@[simp] theorem revokeClaim_gst (cid iid : Nat) (s : State) : (revokeClaim cid iid s).gst = s.gst := by
  unfold revokeClaim
  try dsimp only
  all_goals simp
@[simp] theorem revokeClaim_bkt (cid iid : Nat) (s : State) : (revokeClaim cid iid s).bkt = s.bkt := by
  unfold revokeClaim
  try dsimp only
  all_goals simp
@[simp] theorem revokeClaim_lst (cid iid : Nat) (s : State) : (revokeClaim cid iid s).lst = s.lst := by
  unfold revokeClaim
  try dsimp only
  all_goals simp
@[simp] theorem revokeClaim_cnd (cid iid : Nat) (s : State) : (revokeClaim cid iid s).cnd = s.cnd := by
  unfold revokeClaim
  try dsimp only
  all_goals simp
@[simp] theorem revokeClaim_wsv (cid iid : Nat) (s : State) : (revokeClaim cid iid s).wsv = s.wsv := by
  unfold revokeClaim
  try dsimp only
  all_goals simp
@[simp] theorem revokeClaim_free (cid iid : Nat) (s : State) : (revokeClaim cid iid s).free = s.free := by
  unfold revokeClaim
  try dsimp only
  all_goals simp
@[simp] theorem revokeClaim_pending (cid iid : Nat) (s : State) : (revokeClaim cid iid s).pending = s.pending := by
  unfold revokeClaim
  try dsimp only
  all_goals simp

@[simp] theorem dropClaims_gst (s : State) : (dropClaims s).gst = s.gst := by
  unfold dropClaims
  try dsimp only
  repeat' split
  all_goals simp
@[simp] theorem dropClaims_bkt (s : State) : (dropClaims s).bkt = s.bkt := by
  unfold dropClaims
  try dsimp only
  repeat' split
  all_goals simp
@[simp] theorem dropClaims_lst (s : State) : (dropClaims s).lst = s.lst := by
  unfold dropClaims
  try dsimp only
  repeat' split
  all_goals simp
@[simp] theorem dropClaims_cnd (s : State) : (dropClaims s).cnd = s.cnd := by
  unfold dropClaims
  try dsimp only
  repeat' split
  all_goals simp
@[simp] theorem dropClaims_wsv (s : State) : (dropClaims s).wsv = s.wsv := by
  unfold dropClaims
  try dsimp only
  repeat' split
  all_goals simp
@[simp] theorem dropClaims_lnk (s : State) : (dropClaims s).lnk = s.lnk := by
  unfold dropClaims
  try dsimp only
  repeat' split
  all_goals simp
@[simp] theorem dropClaims_free (s : State) : (dropClaims s).free = s.free := by
  unfold dropClaims
  try dsimp only
  repeat' split
  all_goals simp
@[simp] theorem dropClaims_pending (s : State) : (dropClaims s).pending = s.pending := by
  unfold dropClaims
  try dsimp only
  repeat' split
  all_goals simp

@[simp] theorem startOn_gst (t : Tuner) (re la : Bool) (iid : Nat) (s : State) :
    (startOn t re la iid s).gst = s.gst := by
  unfold startOn
  try dsimp only
  repeat' split
  all_goals simp
@[simp] theorem startOn_bkt (t : Tuner) (re la : Bool) (iid : Nat) (s : State) :
    (startOn t re la iid s).bkt = s.bkt := by
  unfold startOn
  try dsimp only
  repeat' split
  all_goals simp
@[simp] theorem startOn_pln (t : Tuner) (re la : Bool) (iid : Nat) (s : State) :
    (startOn t re la iid s).pln = s.pln := by
  unfold startOn
  try dsimp only
  repeat' split
  all_goals simp
@[simp] theorem startOn_wsv (t : Tuner) (re la : Bool) (iid : Nat) (s : State) :
    (startOn t re la iid s).wsv = s.wsv := by
  unfold startOn
  try dsimp only
  repeat' split
  all_goals simp
@[simp] theorem startOn_free (t : Tuner) (re la : Bool) (iid : Nat) (s : State) :
    (startOn t re la iid s).free = s.free := by
  unfold startOn
  try dsimp only
  repeat' split
  all_goals simp
@[simp] theorem startOn_pending (t : Tuner) (re la : Bool) (iid : Nat) (s : State) :
    (startOn t re la iid s).pending = s.pending := by
  unfold startOn
  try dsimp only
  repeat' split
  all_goals simp

@[simp] theorem waitForTuner_gst (re : Bool) (iid : Nat) (s : State) : (waitForTuner re iid s).gst = s.gst := by
  unfold waitForTuner
  try dsimp only
  repeat' split
  all_goals simp
@[simp] theorem waitForTuner_bkt (re : Bool) (iid : Nat) (s : State) : (waitForTuner re iid s).bkt = s.bkt := by
  unfold waitForTuner
  try dsimp only
  repeat' split
  all_goals simp
@[simp] theorem waitForTuner_pln (re : Bool) (iid : Nat) (s : State) : (waitForTuner re iid s).pln = s.pln := by
  unfold waitForTuner
  try dsimp only
  repeat' split
  all_goals simp
@[simp] theorem waitForTuner_run (re : Bool) (iid : Nat) (s : State) : (waitForTuner re iid s).run = s.run := by
  unfold waitForTuner
  try dsimp only
  repeat' split
  all_goals simp
@[simp] theorem waitForTuner_cnd (re : Bool) (iid : Nat) (s : State) : (waitForTuner re iid s).cnd = s.cnd := by
  unfold waitForTuner
  try dsimp only
  repeat' split
  all_goals simp
@[simp] theorem waitForTuner_wsv (re : Bool) (iid : Nat) (s : State) : (waitForTuner re iid s).wsv = s.wsv := by
  unfold waitForTuner
  try dsimp only
  repeat' split
  all_goals simp
@[simp] theorem waitForTuner_lnk (re : Bool) (iid : Nat) (s : State) : (waitForTuner re iid s).lnk = s.lnk := by
  unfold waitForTuner
  try dsimp only
  repeat' split
  all_goals simp
@[simp] theorem waitForTuner_free (re : Bool) (iid : Nat) (s : State) : (waitForTuner re iid s).free = s.free := by
  unfold waitForTuner
  try dsimp only
  repeat' split
  all_goals simp
@[simp] theorem waitForTuner_pending (re : Bool) (iid : Nat) (s : State) :
    (waitForTuner re iid s).pending = s.pending := by
  unfold waitForTuner
  try dsimp only
  repeat' split
  all_goals simp

@[simp] theorem handovers_gst (t : Tuner) (iid : Nat) (s : State) : (handovers t iid s).gst = s.gst := by
  unfold handovers
  try dsimp only
  all_goals simp [foldl_keeps (fun x => State.gst x)]
@[simp] theorem handovers_bkt (t : Tuner) (iid : Nat) (s : State) : (handovers t iid s).bkt = s.bkt := by
  unfold handovers
  try dsimp only
  all_goals simp [foldl_keeps (fun x => State.bkt x)]
@[simp] theorem handovers_wsv (t : Tuner) (iid : Nat) (s : State) : (handovers t iid s).wsv = s.wsv := by
  unfold handovers
  try dsimp only
  all_goals simp [foldl_keeps (fun x => State.wsv x)]
@[simp] theorem handovers_pending (t : Tuner) (iid : Nat) (s : State) : (handovers t iid s).pending = s.pending := by
  unfold handovers
  try dsimp only
  all_goals simp [foldl_keeps (fun x => State.pending x)]

@[simp] theorem blockedStart_gst (t : Tuner) (re la : Bool) (i : Inst) (s : State) :
    (blockedStart t re la i s).gst = s.gst := by
  unfold blockedStart
  try dsimp only
  repeat' split
  all_goals simp [foldl_keeps (fun x => State.gst x)]
@[simp] theorem blockedStart_bkt (t : Tuner) (re la : Bool) (i : Inst) (s : State) :
    (blockedStart t re la i s).bkt = s.bkt := by
  unfold blockedStart
  try dsimp only
  repeat' split
  all_goals simp [foldl_keeps (fun x => State.bkt x)]
@[simp] theorem blockedStart_wsv (t : Tuner) (re la : Bool) (i : Inst) (s : State) :
    (blockedStart t re la i s).wsv = s.wsv := by
  unfold blockedStart
  try dsimp only
  repeat' split
  all_goals simp [foldl_keeps (fun x => State.wsv x)]
@[simp] theorem blockedStart_pending (t : Tuner) (re la : Bool) (i : Inst) (s : State) :
    (blockedStart t re la i s).pending = s.pending := by
  unfold blockedStart
  try dsimp only
  repeat' split
  all_goals simp [foldl_keeps (fun x => State.pending x)]

@[simp] theorem startAttempt_gst (re la : Bool) (iid : Nat) (s : State) : (startAttempt re la iid s).gst = s.gst := by
  unfold startAttempt
  try dsimp only
  repeat' split
  all_goals simp
@[simp] theorem startAttempt_bkt (re la : Bool) (iid : Nat) (s : State) : (startAttempt re la iid s).bkt = s.bkt := by
  unfold startAttempt
  try dsimp only
  repeat' split
  all_goals simp
@[simp] theorem startAttempt_wsv (re la : Bool) (iid : Nat) (s : State) : (startAttempt re la iid s).wsv = s.wsv := by
  unfold startAttempt
  try dsimp only
  repeat' split
  all_goals simp
@[simp] theorem startAttempt_pending (re la : Bool) (iid : Nat) (s : State) :
    (startAttempt re la iid s).pending = s.pending := by
  unfold startAttempt
  try dsimp only
  repeat' split
  all_goals simp

@[simp] theorem interruptInst_gst (iid : Nat) (s : State) : (interruptInst iid s).gst = s.gst := by
  unfold interruptInst
  try dsimp only
  repeat' split
  all_goals simp
@[simp] theorem interruptInst_wsv (iid : Nat) (s : State) : (interruptInst iid s).wsv = s.wsv := by
  unfold interruptInst
  try dsimp only
  repeat' split
  all_goals simp
@[simp] theorem interruptInst_pending (iid : Nat) (s : State) : (interruptInst iid s).pending = s.pending := by
  unfold interruptInst
  try dsimp only
  repeat' split
  all_goals simp

@[simp] theorem interruptHost_gst (s : State) : (interruptHost s).gst = s.gst := by
  unfold interruptHost
  try dsimp only
  all_goals simp [foldl_keeps (fun x => State.gst x)]
@[simp] theorem interruptHost_wsv (s : State) : (interruptHost s).wsv = s.wsv := by
  unfold interruptHost
  try dsimp only
  all_goals simp [foldl_keeps (fun x => State.wsv x)]
@[simp] theorem interruptHost_pending (s : State) : (interruptHost s).pending = s.pending := by
  unfold interruptHost
  try dsimp only
  all_goals simp [foldl_keeps (fun x => State.pending x)]

@[simp] theorem judgeResume_gst (iid : Nat) (s : State) : (judgeResume iid s).gst = s.gst := by
  unfold judgeResume
  try dsimp only
  repeat' split
  all_goals simp
@[simp] theorem judgeResume_wsv (iid : Nat) (s : State) : (judgeResume iid s).wsv = s.wsv := by
  unfold judgeResume
  try dsimp only
  repeat' split
  all_goals simp
@[simp] theorem judgeResume_pending (iid : Nat) (s : State) : (judgeResume iid s).pending = s.pending := by
  unfold judgeResume
  try dsimp only
  repeat' split
  all_goals simp

@[simp] theorem retryHeld_gst (iid : Nat) (s : State) : (retryHeld iid s).gst = s.gst := by
  unfold retryHeld
  try dsimp only
  repeat' split
  all_goals simp
@[simp] theorem retryHeld_bkt (iid : Nat) (s : State) : (retryHeld iid s).bkt = s.bkt := by
  unfold retryHeld
  try dsimp only
  repeat' split
  all_goals simp
@[simp] theorem retryHeld_wsv (iid : Nat) (s : State) : (retryHeld iid s).wsv = s.wsv := by
  unfold retryHeld
  try dsimp only
  repeat' split
  all_goals simp
@[simp] theorem retryHeld_pending (iid : Nat) (s : State) : (retryHeld iid s).pending = s.pending := by
  unfold retryHeld
  try dsimp only
  repeat' split
  all_goals simp

@[simp] theorem takeHeld_gst (iid : Nat) (s : State) : (takeHeld iid s).gst = s.gst := by
  unfold takeHeld
  try dsimp only
  repeat' split
  all_goals simp
@[simp] theorem takeHeld_wsv (iid : Nat) (s : State) : (takeHeld iid s).wsv = s.wsv := by
  unfold takeHeld
  try dsimp only
  repeat' split
  all_goals simp
@[simp] theorem takeHeld_pending (iid : Nat) (s : State) : (takeHeld iid s).pending = s.pending := by
  unfold takeHeld
  try dsimp only
  repeat' split
  all_goals simp

@[simp] theorem takeUpWork_gst (s : State) : (takeUpWork s).gst = s.gst := by
  unfold takeUpWork
  try dsimp only
  all_goals simp [foldl_keeps (fun x => State.gst x)]
@[simp] theorem takeUpWork_wsv (s : State) : (takeUpWork s).wsv = s.wsv := by
  unfold takeUpWork
  try dsimp only
  all_goals simp [foldl_keeps (fun x => State.wsv x)]
@[simp] theorem takeUpWork_pending (s : State) : (takeUpWork s).pending = s.pending := by
  unfold takeUpWork
  try dsimp only
  all_goals simp [foldl_keeps (fun x => State.pending x)]

@[simp] theorem retryWaiting_gst (s : State) : (retryWaiting s).gst = s.gst := by
  unfold retryWaiting
  try dsimp only
  all_goals simp [foldl_keeps (fun x => State.gst x)]
@[simp] theorem retryWaiting_wsv (s : State) : (retryWaiting s).wsv = s.wsv := by
  unfold retryWaiting
  try dsimp only
  all_goals simp [foldl_keeps (fun x => State.wsv x)]
@[simp] theorem retryWaiting_pending (s : State) : (retryWaiting s).pending = s.pending := by
  unfold retryWaiting
  try dsimp only
  all_goals simp [foldl_keeps (fun x => State.pending x)]

@[simp] theorem fixOverrun_gst (iid : Nat) (s : State) : (fixOverrun iid s).gst = s.gst := by
  unfold fixOverrun
  try dsimp only
  repeat' split
  all_goals simp
@[simp] theorem fixOverrun_bkt (iid : Nat) (s : State) : (fixOverrun iid s).bkt = s.bkt := by
  unfold fixOverrun
  try dsimp only
  repeat' split
  all_goals simp
@[simp] theorem fixOverrun_wsv (iid : Nat) (s : State) : (fixOverrun iid s).wsv = s.wsv := by
  unfold fixOverrun
  try dsimp only
  repeat' split
  all_goals simp
@[simp] theorem fixOverrun_pending (iid : Nat) (s : State) : (fixOverrun iid s).pending = s.pending := by
  unfold fixOverrun
  try dsimp only
  repeat' split
  all_goals simp

@[simp] theorem handStatus_gst (k : EventKey) (st : Option RunStatus) (s : State) :
    (handStatus k st s).gst = s.gst := by
  unfold handStatus
  try dsimp only
  repeat' split
  all_goals simp [foldl_keeps (fun x => State.gst x)]
@[simp] theorem handStatus_bkt (k : EventKey) (st : Option RunStatus) (s : State) :
    (handStatus k st s).bkt = s.bkt := by
  unfold handStatus
  try dsimp only
  repeat' split
  all_goals simp [foldl_keeps (fun x => State.bkt x)]
@[simp] theorem handStatus_wsv (k : EventKey) (st : Option RunStatus) (s : State) :
    (handStatus k st s).wsv = s.wsv := by
  unfold handStatus
  try dsimp only
  repeat' split
  all_goals simp [foldl_keeps (fun x => State.wsv x)]
@[simp] theorem handStatus_pending (k : EventKey) (st : Option RunStatus) (s : State) :
    (handStatus k st s).pending = s.pending := by
  unfold handStatus
  try dsimp only
  repeat' split
  all_goals simp [foldl_keeps (fun x => State.pending x)]

@[simp] theorem placeTerminals_clk (s : State) : (placeTerminals s).clk = s.clk := by
  rfl
@[simp] theorem placeTerminals_gst (s : State) : (placeTerminals s).gst = s.gst := by
  rfl
@[simp] theorem placeTerminals_bkt (s : State) : (placeTerminals s).bkt = s.bkt := by
  rfl
@[simp] theorem placeTerminals_pln (s : State) : (placeTerminals s).pln = s.pln := by
  rfl
@[simp] theorem placeTerminals_run (s : State) : (placeTerminals s).run = s.run := by
  rfl
@[simp] theorem placeTerminals_cnd (s : State) : (placeTerminals s).cnd = s.cnd := by
  rfl
@[simp] theorem placeTerminals_wsv (s : State) : (placeTerminals s).wsv = s.wsv := by
  rfl
@[simp] theorem placeTerminals_lnk (s : State) : (placeTerminals s).lnk = s.lnk := by
  rfl
@[simp] theorem placeTerminals_free (s : State) : (placeTerminals s).free = s.free := by
  rfl
@[simp] theorem placeTerminals_pending (s : State) : (placeTerminals s).pending = s.pending := by
  rfl

@[simp] theorem handSummaries_clk (s : State) : (handSummaries s).clk = s.clk := by
  rfl
@[simp] theorem handSummaries_gst (s : State) : (handSummaries s).gst = s.gst := by
  rfl
@[simp] theorem handSummaries_bkt (s : State) : (handSummaries s).bkt = s.bkt := by
  rfl
@[simp] theorem handSummaries_pln (s : State) : (handSummaries s).pln = s.pln := by
  rfl
@[simp] theorem handSummaries_run (s : State) : (handSummaries s).run = s.run := by
  rfl
@[simp] theorem handSummaries_cnd (s : State) : (handSummaries s).cnd = s.cnd := by
  rfl
@[simp] theorem handSummaries_wsv (s : State) : (handSummaries s).wsv = s.wsv := by
  rfl
@[simp] theorem handSummaries_free (s : State) : (handSummaries s).free = s.free := by
  rfl
@[simp] theorem handSummaries_pending (s : State) : (handSummaries s).pending = s.pending := by
  rfl

@[simp] theorem syncWake_gst (s : State) : (syncWake s).gst = s.gst := by
  unfold syncWake
  try dsimp only
  repeat' split
  all_goals simp
@[simp] theorem syncWake_bkt (s : State) : (syncWake s).bkt = s.bkt := by
  unfold syncWake
  try dsimp only
  repeat' split
  all_goals simp
@[simp] theorem syncWake_lst (s : State) : (syncWake s).lst = s.lst := by
  unfold syncWake
  try dsimp only
  repeat' split
  all_goals simp
@[simp] theorem syncWake_pln (s : State) : (syncWake s).pln = s.pln := by
  unfold syncWake
  try dsimp only
  repeat' split
  all_goals simp
@[simp] theorem syncWake_run (s : State) : (syncWake s).run = s.run := by
  unfold syncWake
  try dsimp only
  repeat' split
  all_goals simp
@[simp] theorem syncWake_cnd (s : State) : (syncWake s).cnd = s.cnd := by
  unfold syncWake
  try dsimp only
  repeat' split
  all_goals simp
@[simp] theorem syncWake_wsv (s : State) : (syncWake s).wsv = s.wsv := by
  unfold syncWake
  try dsimp only
  repeat' split
  all_goals simp
@[simp] theorem syncWake_lnk (s : State) : (syncWake s).lnk = s.lnk := by
  unfold syncWake
  try dsimp only
  repeat' split
  all_goals simp
@[simp] theorem syncWake_free (s : State) : (syncWake s).free = s.free := by
  unfold syncWake
  try dsimp only
  repeat' split
  all_goals simp
@[simp] theorem syncWake_pending (s : State) : (syncWake s).pending = s.pending := by
  unfold syncWake
  try dsimp only
  repeat' split
  all_goals simp

@[simp] theorem retestStandby_clk (ch : Bool) (s : State) : (retestStandby ch s).clk = s.clk := by
  unfold retestStandby
  try dsimp only
  repeat' split
  all_goals simp
@[simp] theorem retestStandby_gst (ch : Bool) (s : State) : (retestStandby ch s).gst = s.gst := by
  unfold retestStandby
  try dsimp only
  repeat' split
  all_goals simp
@[simp] theorem retestStandby_bkt (ch : Bool) (s : State) : (retestStandby ch s).bkt = s.bkt := by
  unfold retestStandby
  try dsimp only
  repeat' split
  all_goals simp
@[simp] theorem retestStandby_lst (ch : Bool) (s : State) : (retestStandby ch s).lst = s.lst := by
  unfold retestStandby
  try dsimp only
  repeat' split
  all_goals simp
@[simp] theorem retestStandby_pln (ch : Bool) (s : State) : (retestStandby ch s).pln = s.pln := by
  unfold retestStandby
  try dsimp only
  repeat' split
  all_goals simp
@[simp] theorem retestStandby_run (ch : Bool) (s : State) : (retestStandby ch s).run = s.run := by
  unfold retestStandby
  try dsimp only
  repeat' split
  all_goals simp
@[simp] theorem retestStandby_cnd (ch : Bool) (s : State) : (retestStandby ch s).cnd = s.cnd := by
  unfold retestStandby
  try dsimp only
  repeat' split
  all_goals simp
@[simp] theorem retestStandby_free (ch : Bool) (s : State) : (retestStandby ch s).free = s.free := by
  unfold retestStandby
  try dsimp only
  repeat' split
  all_goals simp
@[simp] theorem retestStandby_pending (ch : Bool) (s : State) : (retestStandby ch s).pending = s.pending := by
  unfold retestStandby
  try dsimp only
  repeat' split
  all_goals simp

@[simp] theorem setAttention_clk (s : State) : (setAttention s).clk = s.clk := by
  rfl
@[simp] theorem setAttention_gst (s : State) : (setAttention s).gst = s.gst := by
  rfl
@[simp] theorem setAttention_bkt (s : State) : (setAttention s).bkt = s.bkt := by
  rfl
@[simp] theorem setAttention_lst (s : State) : (setAttention s).lst = s.lst := by
  rfl
@[simp] theorem setAttention_pln (s : State) : (setAttention s).pln = s.pln := by
  rfl
@[simp] theorem setAttention_run (s : State) : (setAttention s).run = s.run := by
  rfl
@[simp] theorem setAttention_cnd (s : State) : (setAttention s).cnd = s.cnd := by
  rfl
@[simp] theorem setAttention_wsv (s : State) : (setAttention s).wsv = s.wsv := by
  rfl
@[simp] theorem setAttention_free (s : State) : (setAttention s).free = s.free := by
  rfl
@[simp] theorem setAttention_pending (s : State) : (setAttention s).pending = s.pending := by
  rfl

theorem retryRounds_gst (fuel : Nat) (b s : State) : (retryRounds fuel b s).gst = s.gst := by
  induction fuel generalizing b s with
  | zero => rfl
  | succ n ih =>
    unfold retryRounds
    split
    · rw [ih]; simp
    · rfl

@[simp] theorem retryStarts_gst (b s : State) : (retryStarts b s).gst = s.gst := retryRounds_gst _ b s

theorem retryRounds_wsv (fuel : Nat) (b s : State) : (retryRounds fuel b s).wsv = s.wsv := by
  induction fuel generalizing b s with
  | zero => rfl
  | succ n ih =>
    unfold retryRounds
    split
    · rw [ih]; simp
    · rfl

@[simp] theorem retryStarts_wsv (b s : State) : (retryStarts b s).wsv = s.wsv := retryRounds_wsv _ b s

theorem retryRounds_pending (fuel : Nat) (b s : State) : (retryRounds fuel b s).pending = s.pending := by
  induction fuel generalizing b s with
  | zero => rfl
  | succ n ih =>
    unfold retryRounds
    split
    · rw [ih]; simp
    · rfl

@[simp] theorem retryStarts_pending (b s : State) : (retryStarts b s).pending = s.pending := retryRounds_pending _ b s

@[simp] theorem settleOutputs_gst (b s : State) : (settleOutputs b s).gst = s.gst := by
  unfold settleOutputs
  dsimp only
  simp

@[simp] theorem settleOutputs_bkt (b s : State) : (settleOutputs b s).bkt = s.bkt := by
  unfold settleOutputs
  dsimp only
  simp

@[simp] theorem settleOutputs_run (b s : State) : (settleOutputs b s).run = s.run := by
  unfold settleOutputs
  dsimp only
  simp

@[simp] theorem settleOutputs_cnd (b s : State) : (settleOutputs b s).cnd = s.cnd := by
  unfold settleOutputs
  dsimp only
  simp

@[simp] theorem settleOutputs_free (b s : State) : (settleOutputs b s).free = s.free := by
  unfold settleOutputs
  dsimp only
  simp

@[simp] theorem settleOutputs_pending (b s : State) : (settleOutputs b s).pending = s.pending := by
  unfold settleOutputs
  dsimp only
  simp

@[simp] theorem settle_gst (b s : State) : (settle b s).gst = s.gst := by
  unfold settle
  simp

@[simp] theorem settle_pending (b s : State) : (settle b s).pending = s.pending := by
  unfold settle
  simp

@[simp] theorem frameArrived_clk (k t : Byte) (p : List Byte) (c : BitVec 16) (s : State) :
    (frameArrived k t p c s).clk = s.clk := rfl
@[simp] theorem frameArrived_gst (k t : Byte) (p : List Byte) (c : BitVec 16) (s : State) :
    (frameArrived k t p c s).gst = s.gst := rfl
@[simp] theorem frameArrived_bkt (k t : Byte) (p : List Byte) (c : BitVec 16) (s : State) :
    (frameArrived k t p c s).bkt = s.bkt := rfl
@[simp] theorem frameArrived_lst (k t : Byte) (p : List Byte) (c : BitVec 16) (s : State) :
    (frameArrived k t p c s).lst = s.lst := rfl
@[simp] theorem frameArrived_pln (k t : Byte) (p : List Byte) (c : BitVec 16) (s : State) :
    (frameArrived k t p c s).pln = s.pln := rfl
@[simp] theorem frameArrived_run (k t : Byte) (p : List Byte) (c : BitVec 16) (s : State) :
    (frameArrived k t p c s).run = s.run := rfl
@[simp] theorem frameArrived_cnd (k t : Byte) (p : List Byte) (c : BitVec 16) (s : State) :
    (frameArrived k t p c s).cnd = s.cnd := rfl
@[simp] theorem frameArrived_wsv (k t : Byte) (p : List Byte) (c : BitVec 16) (s : State) :
    (frameArrived k t p c s).wsv = s.wsv := rfl
@[simp] theorem frameArrived_free (k t : Byte) (p : List Byte) (c : BitVec 16) (s : State) :
    (frameArrived k t p c s).free = s.free := rfl
@[simp] theorem frameArrived_pending (k t : Byte) (p : List Byte) (c : BitVec 16) (s : State) :
    (frameArrived k t p c s).pending = s.pending := rfl

@[simp] theorem frameInHand_gst (s : State) : (frameInHand s).gst = s.gst := (by unfold frameInHand; simp)
@[simp] theorem frameInHand_bkt (s : State) : (frameInHand s).bkt = s.bkt := (by unfold frameInHand; simp)
@[simp] theorem frameInHand_lst (s : State) : (frameInHand s).lst = s.lst := (by unfold frameInHand; simp)
@[simp] theorem frameInHand_pln (s : State) : (frameInHand s).pln = s.pln := (by unfold frameInHand; simp)
@[simp] theorem frameInHand_run (s : State) : (frameInHand s).run = s.run := (by unfold frameInHand; simp)
@[simp] theorem frameInHand_cnd (s : State) : (frameInHand s).cnd = s.cnd := (by unfold frameInHand; simp)
@[simp] theorem frameInHand_wsv (s : State) : (frameInHand s).wsv = s.wsv := (by unfold frameInHand; simp)
@[simp] theorem frameInHand_free (s : State) : (frameInHand s).free = s.free := (by unfold frameInHand; simp)
@[simp] theorem frameInHand_pending (s : State) : (frameInHand s).pending = s.pending := (by unfold frameInHand; simp)

@[simp] theorem pushReply_clk (r : Reply) (s : State) : (pushReply r s).clk = s.clk := rfl
@[simp] theorem pushReply_gst (r : Reply) (s : State) : (pushReply r s).gst = s.gst := rfl
@[simp] theorem pushReply_bkt (r : Reply) (s : State) : (pushReply r s).bkt = s.bkt := rfl
@[simp] theorem pushReply_lst (r : Reply) (s : State) : (pushReply r s).lst = s.lst := rfl
@[simp] theorem pushReply_pln (r : Reply) (s : State) : (pushReply r s).pln = s.pln := rfl
@[simp] theorem pushReply_run (r : Reply) (s : State) : (pushReply r s).run = s.run := rfl
@[simp] theorem pushReply_cnd (r : Reply) (s : State) : (pushReply r s).cnd = s.cnd := rfl
@[simp] theorem pushReply_wsv (r : Reply) (s : State) : (pushReply r s).wsv = s.wsv := rfl
@[simp] theorem pushReply_free (r : Reply) (s : State) : (pushReply r s).free = s.free := rfl
@[simp] theorem pushReply_pending (r : Reply) (s : State) : (pushReply r s).pending = s.pending := rfl

@[simp] theorem answer_clk (k t : Byte) (st : Status) (c : Bool) (b : ReplyBody) (s : State) :
    (answer k t st c b s).clk = s.clk := rfl
@[simp] theorem answer_gst (k t : Byte) (st : Status) (c : Bool) (b : ReplyBody) (s : State) :
    (answer k t st c b s).gst = s.gst := rfl
@[simp] theorem answer_bkt (k t : Byte) (st : Status) (c : Bool) (b : ReplyBody) (s : State) :
    (answer k t st c b s).bkt = s.bkt := rfl
@[simp] theorem answer_lst (k t : Byte) (st : Status) (c : Bool) (b : ReplyBody) (s : State) :
    (answer k t st c b s).lst = s.lst := rfl
@[simp] theorem answer_pln (k t : Byte) (st : Status) (c : Bool) (b : ReplyBody) (s : State) :
    (answer k t st c b s).pln = s.pln := rfl
@[simp] theorem answer_run (k t : Byte) (st : Status) (c : Bool) (b : ReplyBody) (s : State) :
    (answer k t st c b s).run = s.run := rfl
@[simp] theorem answer_cnd (k t : Byte) (st : Status) (c : Bool) (b : ReplyBody) (s : State) :
    (answer k t st c b s).cnd = s.cnd := rfl
@[simp] theorem answer_wsv (k t : Byte) (st : Status) (c : Bool) (b : ReplyBody) (s : State) :
    (answer k t st c b s).wsv = s.wsv := rfl
@[simp] theorem answer_free (k t : Byte) (st : Status) (c : Bool) (b : ReplyBody) (s : State) :
    (answer k t st c b s).free = s.free := rfl
@[simp] theorem answer_pending (k t : Byte) (st : Status) (c : Bool) (b : ReplyBody) (s : State) :
    (answer k t st c b s).pending = s.pending := rfl

@[simp] theorem answerOk_clk (k t : Byte) (b : ReplyBody) (s : State) : (answerOk k t b s).clk = s.clk := rfl
@[simp] theorem answerOk_gst (k t : Byte) (b : ReplyBody) (s : State) : (answerOk k t b s).gst = s.gst := rfl
@[simp] theorem answerOk_bkt (k t : Byte) (b : ReplyBody) (s : State) : (answerOk k t b s).bkt = s.bkt := rfl
@[simp] theorem answerOk_lst (k t : Byte) (b : ReplyBody) (s : State) : (answerOk k t b s).lst = s.lst := rfl
@[simp] theorem answerOk_pln (k t : Byte) (b : ReplyBody) (s : State) : (answerOk k t b s).pln = s.pln := rfl
@[simp] theorem answerOk_run (k t : Byte) (b : ReplyBody) (s : State) : (answerOk k t b s).run = s.run := rfl
@[simp] theorem answerOk_cnd (k t : Byte) (b : ReplyBody) (s : State) : (answerOk k t b s).cnd = s.cnd := rfl
@[simp] theorem answerOk_wsv (k t : Byte) (b : ReplyBody) (s : State) : (answerOk k t b s).wsv = s.wsv := rfl
@[simp] theorem answerOk_free (k t : Byte) (b : ReplyBody) (s : State) : (answerOk k t b s).free = s.free := rfl
@[simp] theorem answerOk_pending (k t : Byte) (b : ReplyBody) (s : State) :
    (answerOk k t b s).pending = s.pending := rfl

@[simp] theorem refuse_clk (k t : Byte) (st : Status) (s : State) : (refuse k t st s).clk = s.clk := rfl
@[simp] theorem refuse_gst (k t : Byte) (st : Status) (s : State) : (refuse k t st s).gst = s.gst := rfl
@[simp] theorem refuse_bkt (k t : Byte) (st : Status) (s : State) : (refuse k t st s).bkt = s.bkt := rfl
@[simp] theorem refuse_lst (k t : Byte) (st : Status) (s : State) : (refuse k t st s).lst = s.lst := rfl
@[simp] theorem refuse_pln (k t : Byte) (st : Status) (s : State) : (refuse k t st s).pln = s.pln := rfl
@[simp] theorem refuse_run (k t : Byte) (st : Status) (s : State) : (refuse k t st s).run = s.run := rfl
@[simp] theorem refuse_cnd (k t : Byte) (st : Status) (s : State) : (refuse k t st s).cnd = s.cnd := rfl
@[simp] theorem refuse_wsv (k t : Byte) (st : Status) (s : State) : (refuse k t st s).wsv = s.wsv := rfl
@[simp] theorem refuse_free (k t : Byte) (st : Status) (s : State) : (refuse k t st s).free = s.free := rfl
@[simp] theorem refuse_pending (k t : Byte) (st : Status) (s : State) : (refuse k t st s).pending = s.pending := rfl

@[simp] theorem answerPlan_clk (k t : Byte) (b : ReplyBody) (s : State) : (answerPlan k t b s).clk = s.clk := rfl
@[simp] theorem answerPlan_gst (k t : Byte) (b : ReplyBody) (s : State) : (answerPlan k t b s).gst = s.gst := rfl
@[simp] theorem answerPlan_bkt (k t : Byte) (b : ReplyBody) (s : State) : (answerPlan k t b s).bkt = s.bkt := rfl
@[simp] theorem answerPlan_lst (k t : Byte) (b : ReplyBody) (s : State) : (answerPlan k t b s).lst = s.lst := rfl
@[simp] theorem answerPlan_pln (k t : Byte) (b : ReplyBody) (s : State) : (answerPlan k t b s).pln = s.pln := rfl
@[simp] theorem answerPlan_run (k t : Byte) (b : ReplyBody) (s : State) : (answerPlan k t b s).run = s.run := rfl
@[simp] theorem answerPlan_cnd (k t : Byte) (b : ReplyBody) (s : State) : (answerPlan k t b s).cnd = s.cnd := rfl
@[simp] theorem answerPlan_wsv (k t : Byte) (b : ReplyBody) (s : State) : (answerPlan k t b s).wsv = s.wsv := rfl
@[simp] theorem answerPlan_free (k t : Byte) (b : ReplyBody) (s : State) : (answerPlan k t b s).free = s.free := rfl
@[simp] theorem answerPlan_pending (k t : Byte) (b : ReplyBody) (s : State) :
    (answerPlan k t b s).pending = s.pending := rfl

end Sys2Proof.Machine
end

