-- ==== Sys2Proof/Laws/Ops.lean ====
section
/-! SUPPORT. What each named operation of Machine/Ops.lean and each shared operation on one recording does, once: the
ordered lists, the requests and delays of the Clock Unit, the notice queue, the banks, and the recordings by id. -/

namespace Sys2Proof.Machine

open Sys2Proof

/-! ## Ordered lists -/

theorem insertBy_perm {α : Type} (lt : α → α → Bool) (x : α) (ys : List α) : (insertBy lt x ys).Perm (x :: ys) := by
  induction ys with
  | nil => exact List.Perm.refl _
  | cons y ys ih =>
    unfold insertBy
    split
    · exact List.Perm.refl _
    · exact (List.Perm.cons y ih).trans (List.Perm.swap x y ys)

@[simp] theorem mem_insertBy {α : Type} (lt : α → α → Bool) (x z : α) (ys : List α) :
    z ∈ insertBy lt x ys ↔ z = x ∨ z ∈ ys := by
  rw [(insertBy_perm lt x ys).mem_iff, List.mem_cons]

@[simp] theorem length_insertBy {α : Type} (lt : α → α → Bool) (x : α) (ys : List α) :
    (insertBy lt x ys).length = ys.length + 1 := by
  simpa using (insertBy_perm lt x ys).length_eq

/-- Inserting keeps a strict order, where the new element is comparable with every one held. -/
theorem insertBy_pairwise {α : Type} (lt : α → α → Bool) (x : α) (ys : List α)
    (trans : ∀ a b c, lt a b = true → lt b c = true → lt a c = true)
    (total : ∀ y ∈ ys, lt x y = true ∨ lt y x = true)
    (h : ys.Pairwise (fun a b => lt a b = true)) : (insertBy lt x ys).Pairwise (fun a b => lt a b = true) := by
  induction ys with
  | nil => simp [insertBy]
  | cons y ys ih =>
    obtain ⟨hy, hys⟩ := List.pairwise_cons.mp h
    unfold insertBy
    split
    · rename_i hxy
      refine List.pairwise_cons.mpr ⟨?_, h⟩
      rintro z (_ | ⟨_, hz⟩)
      · exact hxy
      · exact trans x y z hxy (hy z hz)
    · rename_i hxy
      refine List.pairwise_cons.mpr ⟨?_, ih (fun z hz => total z (List.mem_cons_of_mem _ hz)) hys⟩
      intro z hz
      obtain rfl | hz := (mem_insertBy lt x z ys).mp hz
      · exact (total y (List.mem_cons_self ..)).resolve_left hxy
      · exact hy z hz

theorem sortBy_perm_aux {α : Type} (lt : α → α → Bool) (xs acc : List α) :
    (xs.foldl (fun acc x => insertBy lt x acc) acc).Perm (xs ++ acc) := by
  induction xs generalizing acc with
  | nil => exact List.Perm.refl _
  | cons x xs ih =>
    refine (ih _).trans ?_
    exact ((List.Perm.append_left xs (insertBy_perm lt x acc)).trans List.perm_middle)

theorem sortBy_perm {α : Type} (lt : α → α → Bool) (xs : List α) : (sortBy lt xs).Perm xs := by
  simpa [sortBy] using sortBy_perm_aux lt xs []

@[simp] theorem mem_sortBy {α : Type} (lt : α → α → Bool) (z : α) (xs : List α) : z ∈ sortBy lt xs ↔ z ∈ xs :=
  (sortBy_perm lt xs).mem_iff

@[simp] theorem length_sortBy {α : Type} (lt : α → α → Bool) (xs : List α) : (sortBy lt xs).length = xs.length :=
  (sortBy_perm lt xs).length_eq

/-! ## Requests and delays (R3, R4) -/

@[simp] theorem heldDue_withdrawDue_same (k : DueKind) (s : State) : heldDue k (withdrawDue k s) = none := by
  simp [heldDue, withdrawDue]

theorem heldDue_withdrawDue_other {k j : DueKind} (h : j ≠ k) (s : State) :
    heldDue j (withdrawDue k s) = heldDue j s := by
  simp only [heldDue, withdrawDue, modClk_clk, List.find?_filter]
  congr 1
  funext d
  by_cases hd : d.kind = j <;> simp [hd, h]

@[simp] theorem heldDue_requestDue_same (k : DueKind) (t : Nat) (s : State) :
    heldDue k (requestDue k t s) =
      some { kind := k, time := t, delivered := s.clk.cstate != .unset && decide (t ≤ s.clk.count) } := by
  have h := heldDue_withdrawDue_same k s
  simp only [heldDue, withdrawDue, modClk_clk] at h
  simp only [heldDue, requestDue, modClk_clk, List.find?_append, h]
  simp

theorem heldDue_requestDue_other {k j : DueKind} (h : j ≠ k) (t : Nat) (s : State) :
    heldDue j (requestDue k t s) = heldDue j s := by
  have e := heldDue_withdrawDue_other h s
  simp only [heldDue, withdrawDue, modClk_clk] at e
  have hk : ((k : DueKind) == j) = false := by simpa using fun hh => h hh.symm
  simp [heldDue, requestDue, List.find?_append, e, hk]

/-- After `ensureDue` the request of the kind stands at the time asked for. -/
theorem heldDue_ensureDue_time (k : DueKind) (t : Nat) (s : State) :
    (heldDue k (ensureDue k t s)).map (fun d => d.time) = some t := by
  unfold ensureDue
  split
  · rename_i d hd
    split
    · rename_i ht
      simpa [hd] using ht
    · simp
  · simp

theorem heldDue_ensureDue_other {k j : DueKind} (h : j ≠ k) (t : Nat) (s : State) :
    heldDue j (ensureDue k t s) = heldDue j s := by
  unfold ensureDue
  repeat' split
  all_goals first | rfl | exact heldDue_requestDue_other h t s

/-- What taking a time event can do: a delivered request of the kind is held and leaves, or nothing is taken. -/
theorem takeDue_cases (k : DueKind) (s : State) :
    ((∃ d ∈ s.clk.dues, d.kind = k ∧ d.delivered = true) ∧ takeDue k s = some (withdrawDue k s)) ∨
    ((∀ d ∈ s.clk.dues, d.kind = k → d.delivered = false) ∧ takeDue k s = none) := by
  unfold takeDue
  by_cases h : s.clk.dues.any (fun d => d.kind == k && d.delivered) = true
  · left
    refine ⟨?_, by simp [h]⟩
    simpa [and_assoc] using h
  · right
    refine ⟨?_, by simp [h]⟩
    intro d hd hk
    by_contra hc
    exact h (List.any_eq_true.mpr ⟨d, hd, by simp [hk, Bool.eq_true_of_not_eq_false hc]⟩)

@[simp] theorem startDelay_delays (k : DelayKind) (n : Nat) (s : State) :
    (startDelay k n s).clk.delays = s.clk.delays.filter (fun d => d.kind != k) ++ [{ kind := k, left := n }] := rfl

@[simp] theorem cancelDelay_delays (k : DelayKind) (s : State) :
    (cancelDelay k s).clk.delays = s.clk.delays.filter (fun d => d.kind != k) := rfl

/-- A delay that ends within the second: the crystal runs on to that moment and the delay leaves (R4; log entry 4). -/
theorem takeDelay_within {k : DelayKind} {s : State} {d : DelayReq}
    (hd : s.clk.delays.find? (fun x => x.kind == k) = some d) (h : s.clk.sub + d.left < Config.unitsPerSecond) :
    takeDelay k s = some (cancelDelay k (modClk (fun c =>
      { c with sub := c.sub + d.left, delays := c.delays.map (fun x => { x with left := x.left - d.left }) }) s)) := by
  simp [takeDelay, hd, h, elapseDelays]

/-- What taking the end of a delay leaves: the count and the requests stand as they stood. -/
theorem takeDelay_keeps {k : DelayKind} {s t : State} (h : takeDelay k s = some t) :
    t = { s with clk := { s.clk with sub := t.clk.sub, delays := t.clk.delays } } ∧
      (t.clk.sub = s.clk.sub ∨ t.clk.sub < Config.unitsPerSecond) ∧
      t.clk.delays.find? (fun d => d.kind == k) = none := by
  unfold takeDelay at h
  split at h
  · cases h
  · split at h
    · rename_i hlt
      cases h
      exact ⟨rfl, .inr hlt, by simp [cancelDelay]⟩
    · split at h
      · cases h
        exact ⟨rfl, .inl rfl, by simp [cancelDelay]⟩
      · cases h

/-! ## The notice queue (R202) -/

/-- A notice joins the queue, or raises the overflow flag of a full one. -/
theorem postNotice_cases (b : NoticeBody) (s : State) :
    (s.lnk.notices.length < Config.noticeCap ∧
      postNotice b s = { s with lnk := { s.lnk with notices := s.lnk.notices ++ [{ body := b, time := s.clk.count }] } }) ∨
    (Config.noticeCap ≤ s.lnk.notices.length ∧
      postNotice b s = { s with lnk := { s.lnk with overflow := true } }) := by
  by_cases h : s.lnk.notices.length < Config.noticeCap
  · exact .inl ⟨h, by simp [postNotice, postNoticeAt, modLnk, now, h]⟩
  · exact .inr ⟨by omega, by simp [postNotice, postNoticeAt, modLnk, h]⟩

theorem postNotice_length (b : NoticeBody) (s : State) (h : s.lnk.notices.length ≤ Config.noticeCap) :
    (postNotice b s).lnk.notices.length ≤ Config.noticeCap := by
  obtain ⟨hl, e⟩ | ⟨-, e⟩ := postNotice_cases b s
  · rw [e]
    simp
    omega
  · rw [e]
    exact h

/-! ## The banks (R166 to R173) -/

@[simp] theorem bankAt_setBank_same (b : BankId) (v : Bank) (c : CondLog) : bankAt b (setBank b v c) = v := by
  cases b <;> rfl

theorem bankAt_setBank_other {b k : BankId} (h : k ≠ b) (v : Bank) (c : CondLog) :
    bankAt k (setBank b v c) = bankAt k c := by
  cases b <;> cases k <;> first | rfl | exact absurd rfl h

@[simp] theorem gapAt_setBank (t : Tuner) (b : BankId) (v : Bank) (c : CondLog) : gapAt t (setBank b v c) = gapAt t c := by
  cases t <;> cases b <;> rfl

@[simp] theorem gapAt_setGap_same (t : Tuner) (g : GapCounter) (c : CondLog) : gapAt t (setGap t g c) = g := by
  cases t <;> rfl

@[simp] theorem bankAt_setGap (b : BankId) (t : Tuner) (g : GapCounter) (c : CondLog) :
    bankAt b (setGap t g c) = bankAt b c := by
  cases t <;> cases b <;> rfl

/-- What submitting a condition can do: masked, nothing; logged, its bank's record is written or counted, and a notice
is posted exactly when its class is enabled. -/
theorem submit_cases (c : Condition) (s : State) :
    (hasClass (bankAt c.bank s.cnd).mask c.cls = true ∧ submit c s = s) ∨
    (hasClass (bankAt c.bank s.cnd).mask c.cls = false ∧
      (submit c s).cnd = setBank c.bank (writeRecord
        { cls := c.cls, code := c.code, iid := c.iid, booking := c.booking, time := s.clk.count }
        (bankAt c.bank s.cnd)) s.cnd ∧
      (hasClass (bankAt c.bank s.cnd).enable c.cls = false → (submit c s).lnk = s.lnk) ∧
      (hasClass (bankAt c.bank s.cnd).enable c.cls = true →
        (submit c s).lnk = (postNotice (.condition c.bank c.cls c.code c.iid) s).lnk)) := by
  unfold submit
  dsimp only
  cases hm : hasClass (bankAt c.bank s.cnd).mask c.cls
  · refine .inr ⟨rfl, ?_⟩
    cases he : hasClass (bankAt c.bank s.cnd).enable c.cls
    · exact ⟨rfl, fun _ => rfl, fun h => absurd h (by decide)⟩
    · exact ⟨rfl, fun h => absurd h (by decide), fun _ => rfl⟩
  · exact .inl ⟨rfl, rfl⟩

/-! ## The recordings by id -/

/-- Changing one recording keeps every id. -/
theorem modInst_ids (iid : Nat) (f : Inst → Inst) (hf : ∀ i, (f i).id = i.id) (s : State) :
    (modInst iid f s).lst.insts.map (fun i => i.id) = s.lst.insts.map (fun i => i.id) := by
  simp only [modInst, modLst_lst, List.map_map]
  refine List.map_congr_left (fun i _ => ?_)
  dsimp only [Function.comp]
  split
  · exact hf i
  · rfl

theorem findInst_modInst_same (iid : Nat) (f : Inst → Inst) (hf : ∀ i, (f i).id = i.id) (s : State) :
    findInst iid (modInst iid f s) = (findInst iid s).map f := by
  simp only [findInst, modInst, modLst_lst, List.find?_map]
  have : ((fun i : Inst => i.id == iid) ∘ fun i => if (i.id == iid) = true then f i else i) =
      fun i => i.id == iid := by
    funext i
    dsimp only [Function.comp]
    split <;> simp [hf]
  rw [this]
  cases h : s.lst.insts.find? (fun i => i.id == iid) with
  | none => rfl
  | some i =>
    have hi : i.id = iid := by simpa using List.find?_some h
    simp [hi]

theorem findInst_modInst_other {iid k : Nat} (h : k ≠ iid) (f : Inst → Inst) (hf : ∀ i, (f i).id = i.id) (s : State) :
    findInst k (modInst iid f s) = findInst k s := by
  simp only [findInst, modInst, modLst_lst, List.find?_map]
  have : ((fun i : Inst => i.id == k) ∘ fun i => if (i.id == iid) = true then f i else i) = fun i => i.id == k := by
    funext i
    dsimp only [Function.comp]
    split <;> simp [hf]
  rw [this]
  cases hk : s.lst.insts.find? (fun i => i.id == k) with
  | none => rfl
  | some i =>
    have hi : i.id = k := by simpa using List.find?_some hk
    have hn : i.id ≠ iid := fun e => h (hi.symm.trans e)
    simp [hn]

/-- A recording that is found is the one of its id where the ids are distinct. -/
theorem mem_eq_of_findInst {iid : Nat} {s : State} {i j : Inst} (hd : (s.lst.insts.map (fun i => i.id)).Nodup)
    (hi : findInst iid s = some i) (hj : j ∈ s.lst.insts) (hid : j.id = iid) : j = i := by
  have h1 : i ∈ s.lst.insts := List.mem_of_find?_eq_some hi
  have h2 : i.id = iid := by simpa using List.find?_some hi
  exact List.inj_on_of_nodup_map hd hj h1 (hid.trans h2.symm)

@[simp] theorem finished_id (fin : InstState) (c : Cause) (r : Option Nat) (t : Nat) (i : Inst) :
    (finished fin c r t i).id = i.id := rfl
@[simp] theorem finished_state (fin : InstState) (c : Cause) (r : Option Nat) (t : Nat) (i : Inst) :
    (finished fin c r t i).state = fin := rfl
@[simp] theorem finished_booking (fin : InstState) (c : Cause) (r : Option Nat) (t : Nat) (i : Inst) :
    (finished fin c r t i).booking = i.booking := rfl

/-- With no gap open on its tuner, a recording that leaves RECORDING is charged nothing (R159). -/
theorem chargeLeaving_noGap (iid : Nat) (s : State) (h : ∀ t, (tunerRun t s).mon ≠ .gap) : chargeLeaving iid s = s := by
  unfold chargeLeaving
  repeat' split
  all_goals first | rfl | exact absurd ‹_› (h _)

end Sys2Proof.Machine
end

