-- ==== Sys2Proof/WellFormed.lean ====
section
/-! DEFINITION. Which terms of Instr are commands the outside can bring: a frame's payload holds at most 512 bytes
(R195), each payload belongs to the row of its form, an event names an id in range, and the line events describe what
their rows say. A command that is not well formed still has a meaning: a message acts by its payload, and the events
of the line do nothing where they do not apply (log entry 30). -/

namespace Sys2Proof

open Sys2Proof.Machine

/-- The payload fits a frame (R195). -/
def payloadOk (p : List Byte) : Bool := decide (p.length ≤ Config.payloadCap)

/-- The first byte of a payload: the form byte of GUIDE_DROP and HISTORY_DROP, the presence byte of VIEW_CLAIM. -/
def formIs (v : Byte) (p : List Byte) : Bool := p.head? == some v

/-- The result byte of a REC_REPORT, after the recording's id. -/
def resultIs (v : Byte) (p : List Byte) : Bool := (p.drop 2).head? == some v

/-- A recording's id, 1 to 65,535 (5.1). -/
def idOk (n : Nat) : Bool := decide (1 ≤ n) && decide (n ≤ 65535)

/-- A claim id, 1 or 2 (8.5). -/
def claimOk (n : Nat) : Bool := n == 1 || n == 2

/-- The bytes are a part of a frame that leaves the receiver inside it. -/
def insideFrame (received : List Byte) : Bool :=
  match rxQuiet idleRx received with
  | none => false
  | some rx => rx.rstate != .hunt

def WellFormed : Instr → Bool
  | .powerOn | .warmReset | .coldReset | .crystalSecond | .dayRollover | .offsetChange => true
  | .timeSet _ p => payloadOk p
  | .timeGet _ p => payloadOk p
  | .guidePut _ p => payloadOk p
  | .guideDropKeys _ p => payloadOk p && !formIs 1 p
  | .guideDropService _ p => payloadOk p && formIs 1 p
  | .eventStatus _ p => payloadOk p
  | .guideGetEvent _ p => payloadOk p && !p.isEmpty
  | .guideGetSummary _ p => p.isEmpty
  | .bookEvent _ p => payloadOk p
  | .bookSeries _ p => payloadOk p
  | .bookManual _ p => payloadOk p
  | .bookChange _ p => payloadOk p
  | .bookSuspend _ p => payloadOk p
  | .bookResume _ p => payloadOk p
  | .bookDelete _ p => payloadOk p
  | .bookGet _ p => payloadOk p
  | .bookList _ p => payloadOk p
  | .historyAdd _ p => payloadOk p
  | .historyDropPair _ p => payloadOk p && !formIs 1 p
  | .historyDropSeries _ p => payloadOk p && formIs 1 p
  | .historyGet _ p => payloadOk p
  | .instanceGet _ p => payloadOk p
  | .planGet _ p => payloadOk p
  | .outcomeTake _ p => payloadOk p
  | .clashGet _ p => payloadOk p
  | .install => true
  | .windowStart i => idOk i
  | .coreEnd i => idOk i
  | .heldStartLimit i => idOk i
  | .stopMoment i => idOk i
  | .overrunCap i => idOk i
  | .startConfirmTimeout i => idOk i
  | .stopConfirmTimeout i => idOk i
  | .recReportStarted _ p => payloadOk p && !resultIs 1 p && !resultIs 2 p
  | .recReportStartFailed _ p => payloadOk p && resultIs 1 p
  | .recReportStopped _ p => payloadOk p && resultIs 2 p
  | .viewClaimNew _ p => payloadOk p && !formIs 1 p
  | .viewClaimChange _ p => payloadOk p && formIs 1 p
  | .viewRelease _ p => payloadOk p
  | .yieldWarning c => claimOk c
  | .lockGraceEnd _ => true
  | .lockMonitorTick _ _ => true
  | .lockAbandon _ => true
  | .windowClose i => idOk i
  | .keepaliveExpiry | .wakeDue | .wakeTimeout | .resetPulseEnd => true
  | .hello _ p => payloadOk p
  | .standby _ p => payloadOk p
  | .causeClear _ p => payloadOk p
  | .resetPart _ p => payloadOk p
  | .condRead _ p => payloadOk p
  | .condClear _ p => payloadOk p
  | .condConfig _ p => payloadOk p
  | .noticeFetch _ p => payloadOk p
  | .actionsGet _ p => payloadOk p
  | .configSet _ p => payloadOk p
  | .configGet _ p => payloadOk p
  | .badCheck k t p c => payloadOk p && c != frameCheck k t p
  | .badKind k _ p => payloadOk p && !catalogue.contains k
  | .frameDiscardedInHand _ _ p => payloadOk p
  | .lineFramingError r => (rxQuiet idleRx r).isSome
  | .interByteTimeout r => insideFrame r
  | .replySent => true
  | .frameLengthExceeds512 h l => decide (Config.payloadCap < h.toNat * 256 + l.toNat)

end Sys2Proof
end

