-- ==== Sys2Proof/Laws/PerInstr.lean ====
section
/-! SUPPORT. A family of statements about the commands as syntax, with one lemma for each constructor: a well-formed
command that brings a frame brings a payload that a frame can carry (R195). -/

namespace Sys2Proof.Laws.Message

open Sys2Proof Sys2Proof.Machine

/-- The payload of the frame that a command brings; none for the events and resets, which bring no frame. -/
def payloadOf : Instr → Option (List Byte)
  | .powerOn => none
  | .warmReset => none
  | .coldReset => none
  | .crystalSecond => none
  | .dayRollover => none
  | .offsetChange => none
  | .timeSet _ p => some p
  | .timeGet _ p => some p
  | .guidePut _ p => some p
  | .guideDropKeys _ p => some p
  | .guideDropService _ p => some p
  | .eventStatus _ p => some p
  | .guideGetEvent _ p => some p
  | .guideGetSummary _ p => some p
  | .bookEvent _ p => some p
  | .bookSeries _ p => some p
  | .bookManual _ p => some p
  | .bookChange _ p => some p
  | .bookSuspend _ p => some p
  | .bookResume _ p => some p
  | .bookDelete _ p => some p
  | .bookGet _ p => some p
  | .bookList _ p => some p
  | .historyAdd _ p => some p
  | .historyDropPair _ p => some p
  | .historyDropSeries _ p => some p
  | .historyGet _ p => some p
  | .instanceGet _ p => some p
  | .planGet _ p => some p
  | .outcomeTake _ p => some p
  | .clashGet _ p => some p
  | .install => none
  | .windowStart _ => none
  | .coreEnd _ => none
  | .heldStartLimit _ => none
  | .stopMoment _ => none
  | .overrunCap _ => none
  | .startConfirmTimeout _ => none
  | .stopConfirmTimeout _ => none
  | .recReportStarted _ p => some p
  | .recReportStartFailed _ p => some p
  | .recReportStopped _ p => some p
  | .viewClaimNew _ p => some p
  | .viewClaimChange _ p => some p
  | .viewRelease _ p => some p
  | .yieldWarning _ => none
  | .lockGraceEnd _ => none
  | .lockMonitorTick _ _ => none
  | .lockAbandon _ => none
  | .windowClose _ => none
  | .keepaliveExpiry => none
  | .wakeDue => none
  | .wakeTimeout => none
  | .resetPulseEnd => none
  | .hello _ p => some p
  | .standby _ p => some p
  | .causeClear _ p => some p
  | .resetPart _ p => some p
  | .condRead _ p => some p
  | .condClear _ p => some p
  | .condConfig _ p => some p
  | .noticeFetch _ p => some p
  | .actionsGet _ p => some p
  | .configSet _ p => some p
  | .configGet _ p => some p
  | .badCheck _ _ p _ => some p
  | .badKind _ _ p => some p
  | .frameDiscardedInHand _ _ p => some p
  | .lineFramingError _ => none
  | .interByteTimeout _ => none
  | .replySent => none
  | .frameLengthExceeds512 _ _ => none

/-- A well-formed command's payload holds at most 512 bytes (R195). -/
def Statement (c : Instr) : Prop := WellFormed c = true → ∀ p ∈ payloadOf c, p.length ≤ Config.payloadCap

/-- The payload check, first of the checks of a row. -/
theorem fits {p : List Byte} (h : payloadOk p = true) : ∀ q ∈ (some p : Option (List Byte)), q.length ≤ Config.payloadCap := by
  rintro q ⟨⟩
  exact of_decide_eq_true h

/-- The payload check in front of one more. -/
theorem fits_and {p : List Byte} {b : Bool} (h : (payloadOk p && b) = true) :
    ∀ q ∈ (some p : Option (List Byte)), q.length ≤ Config.payloadCap :=
  fits (Bool.and_eq_true_iff.mp h).1

/-- The payload check in front of two more. -/
theorem fits_and_and {p : List Byte} {b c : Bool} (h : (payloadOk p && b && c) = true) :
    ∀ q ∈ (some p : Option (List Byte)), q.length ≤ Config.payloadCap :=
  fits_and (Bool.and_eq_true_iff.mp h).1

/-- A command without a frame. -/
theorem noFrame : ∀ q ∈ (none : Option (List Byte)), q.length ≤ Config.payloadCap := nofun

theorem powerOn : Statement .powerOn := fun _ => noFrame
theorem warmReset : Statement .warmReset := fun _ => noFrame
theorem coldReset : Statement .coldReset := fun _ => noFrame
theorem crystalSecond : Statement .crystalSecond := fun _ => noFrame
theorem dayRollover : Statement .dayRollover := fun _ => noFrame
theorem offsetChange : Statement .offsetChange := fun _ => noFrame
theorem timeSet (tag : Byte) (payload : List Byte) : Statement (.timeSet tag payload) := fits
theorem timeGet (tag : Byte) (payload : List Byte) : Statement (.timeGet tag payload) := fits
theorem guidePut (tag : Byte) (payload : List Byte) : Statement (.guidePut tag payload) := fits
theorem guideDropKeys (tag : Byte) (payload : List Byte) : Statement (.guideDropKeys tag payload) := fits_and
theorem guideDropService (tag : Byte) (payload : List Byte) : Statement (.guideDropService tag payload) := fits_and
theorem eventStatus (tag : Byte) (payload : List Byte) : Statement (.eventStatus tag payload) := fits
theorem guideGetEvent (tag : Byte) (payload : List Byte) : Statement (.guideGetEvent tag payload) := fits_and
theorem guideGetSummary (tag : Byte) (payload : List Byte) : Statement (.guideGetSummary tag payload) := by
  intro h q hq
  cases hq
  simp_all [WellFormed]
theorem bookEvent (tag : Byte) (payload : List Byte) : Statement (.bookEvent tag payload) := fits
theorem bookSeries (tag : Byte) (payload : List Byte) : Statement (.bookSeries tag payload) := fits
theorem bookManual (tag : Byte) (payload : List Byte) : Statement (.bookManual tag payload) := fits
theorem bookChange (tag : Byte) (payload : List Byte) : Statement (.bookChange tag payload) := fits
theorem bookSuspend (tag : Byte) (payload : List Byte) : Statement (.bookSuspend tag payload) := fits
theorem bookResume (tag : Byte) (payload : List Byte) : Statement (.bookResume tag payload) := fits
theorem bookDelete (tag : Byte) (payload : List Byte) : Statement (.bookDelete tag payload) := fits
theorem bookGet (tag : Byte) (payload : List Byte) : Statement (.bookGet tag payload) := fits
theorem bookList (tag : Byte) (payload : List Byte) : Statement (.bookList tag payload) := fits
theorem historyAdd (tag : Byte) (payload : List Byte) : Statement (.historyAdd tag payload) := fits
theorem historyDropPair (tag : Byte) (payload : List Byte) : Statement (.historyDropPair tag payload) := fits_and
theorem historyDropSeries (tag : Byte) (payload : List Byte) : Statement (.historyDropSeries tag payload) := fits_and
theorem historyGet (tag : Byte) (payload : List Byte) : Statement (.historyGet tag payload) := fits
theorem instanceGet (tag : Byte) (payload : List Byte) : Statement (.instanceGet tag payload) := fits
theorem planGet (tag : Byte) (payload : List Byte) : Statement (.planGet tag payload) := fits
theorem outcomeTake (tag : Byte) (payload : List Byte) : Statement (.outcomeTake tag payload) := fits
theorem clashGet (tag : Byte) (payload : List Byte) : Statement (.clashGet tag payload) := fits
theorem install : Statement .install := fun _ => noFrame
theorem windowStart (iid : Nat) : Statement (.windowStart iid) := fun _ => noFrame
theorem coreEnd (iid : Nat) : Statement (.coreEnd iid) := fun _ => noFrame
theorem heldStartLimit (iid : Nat) : Statement (.heldStartLimit iid) := fun _ => noFrame
theorem stopMoment (iid : Nat) : Statement (.stopMoment iid) := fun _ => noFrame
theorem overrunCap (iid : Nat) : Statement (.overrunCap iid) := fun _ => noFrame
theorem startConfirmTimeout (iid : Nat) : Statement (.startConfirmTimeout iid) := fun _ => noFrame
theorem stopConfirmTimeout (iid : Nat) : Statement (.stopConfirmTimeout iid) := fun _ => noFrame
theorem recReportStarted (tag : Byte) (payload : List Byte) : Statement (.recReportStarted tag payload) := fits_and_and
theorem recReportStartFailed (tag : Byte) (payload : List Byte) : Statement (.recReportStartFailed tag payload) := fits_and
theorem recReportStopped (tag : Byte) (payload : List Byte) : Statement (.recReportStopped tag payload) := fits_and
theorem viewClaimNew (tag : Byte) (payload : List Byte) : Statement (.viewClaimNew tag payload) := fits_and
theorem viewClaimChange (tag : Byte) (payload : List Byte) : Statement (.viewClaimChange tag payload) := fits_and
theorem viewRelease (tag : Byte) (payload : List Byte) : Statement (.viewRelease tag payload) := fits
theorem yieldWarning (claim : Nat) : Statement (.yieldWarning claim) := fun _ => noFrame
theorem lockGraceEnd (tuner : Tuner) : Statement (.lockGraceEnd tuner) := fun _ => noFrame
theorem lockMonitorTick (tuner : Tuner) (locked : Bool) : Statement (.lockMonitorTick tuner locked) := fun _ => noFrame
theorem lockAbandon (tuner : Tuner) : Statement (.lockAbandon tuner) := fun _ => noFrame
theorem windowClose (iid : Nat) : Statement (.windowClose iid) := fun _ => noFrame
theorem keepaliveExpiry : Statement .keepaliveExpiry := fun _ => noFrame
theorem wakeDue : Statement .wakeDue := fun _ => noFrame
theorem wakeTimeout : Statement .wakeTimeout := fun _ => noFrame
theorem resetPulseEnd : Statement .resetPulseEnd := fun _ => noFrame
theorem hello (tag : Byte) (payload : List Byte) : Statement (.hello tag payload) := fits
theorem standby (tag : Byte) (payload : List Byte) : Statement (.standby tag payload) := fits
theorem causeClear (tag : Byte) (payload : List Byte) : Statement (.causeClear tag payload) := fits
theorem resetPart (tag : Byte) (payload : List Byte) : Statement (.resetPart tag payload) := fits
theorem condRead (tag : Byte) (payload : List Byte) : Statement (.condRead tag payload) := fits
theorem condClear (tag : Byte) (payload : List Byte) : Statement (.condClear tag payload) := fits
theorem condConfig (tag : Byte) (payload : List Byte) : Statement (.condConfig tag payload) := fits
theorem noticeFetch (tag : Byte) (payload : List Byte) : Statement (.noticeFetch tag payload) := fits
theorem actionsGet (tag : Byte) (payload : List Byte) : Statement (.actionsGet tag payload) := fits
theorem configSet (tag : Byte) (payload : List Byte) : Statement (.configSet tag payload) := fits
theorem configGet (tag : Byte) (payload : List Byte) : Statement (.configGet tag payload) := fits
theorem badCheck (kind : Byte) (tag : Byte) (payload : List Byte) (check : BitVec 16) : Statement (.badCheck kind tag payload check) := fits_and
theorem badKind (kind : Byte) (tag : Byte) (payload : List Byte) : Statement (.badKind kind tag payload) := fits_and
theorem frameDiscardedInHand (kind : Byte) (tag : Byte) (payload : List Byte) : Statement (.frameDiscardedInHand kind tag payload) := fits
theorem lineFramingError (received : List Byte) : Statement (.lineFramingError received) := fun _ => noFrame
theorem interByteTimeout (received : List Byte) : Statement (.interByteTimeout received) := fun _ => noFrame
theorem replySent : Statement .replySent := fun _ => noFrame
theorem frameLengthExceeds512 (high : Byte) (low : Byte) : Statement (.frameLengthExceeds512 high low) := fun _ => noFrame

end Sys2Proof.Laws.Message
end

