-- ==== Sys2Proof/Laws/Records.lean ====
section
/-! SUPPORT. What terminal entry and the entry into STOPPING do to the Instance List while no gap is open: the recording
changes as its rule says and every other stands as it stood (R83, R148). -/

namespace Sys2Proof.Machine

open Sys2Proof

@[simp] theorem tunerRun_modTuner_same (t : Tuner) (f : TunerRun → TunerRun) (s : State) :
    tunerRun t (modTuner t f s) = f (tunerRun t s) := by
  cases t <;> rfl

theorem tunerRun_modTuner_other {t u : Tuner} (h : u ≠ t) (f : TunerRun → TunerRun) (s : State) :
    tunerRun u (modTuner t f s) = tunerRun u s := by
  cases t <;> cases u <;> first | rfl | exact absurd rfl h

/-- Leaving a tuner changes no monitor. -/
theorem leaveActive_mon (iid : Nat) (t : Tuner) (s : State) :
    (tunerRun t (leaveActive iid s)).mon = (tunerRun t s).mon := by
  have hd : ∀ r : TunerRun, (dropActive iid r).mon = r.mon := by
    intro r
    unfold dropActive
    split <;> rfl
  cases t <;> exact hd _

/-- Turning a monitor OFF changes no recording when no gap is open (R161). -/
theorem monitorOff_lst (t : Tuner) (s : State) (h : (tunerRun t s).mon ≠ .gap) : (monitorOff t s).lst = s.lst := by
  unfold monitorOff
  simp only [h, if_false]
  cases t <;> rfl

theorem monitorCheckOf_lst (i : Inst) (s : State) (h : ∀ t, (tunerRun t s).mon ≠ .gap) :
    (monitorCheckOf i s).lst = s.lst := by
  unfold monitorCheckOf monitorCheck
  repeat' split
  all_goals first | rfl | exact monitorOff_lst _ s (h _)

/-- Changing recordings changes no run record. -/
theorem tunerRun_of_run {s u : State} (h : u.run = s.run) (t : Tuner) : tunerRun t u = tunerRun t s := by
  cases t <;> simp [tunerRun, h]

/-- Once a recording's requests are withdrawn, a claim marked to yield to it holds no warning (R83). -/
theorem withdrawInst_warning {iid : Nat} {s : State} {c : Claim} (hc : c ∈ s.run.claims)
    (hy : c.yieldTo = some iid) : heldDue (.yieldWarning c.id) (withdrawInst iid s) = none := by
  have hm : DueKind.yieldWarning c.id ∈ warningsFor iid s :=
    List.mem_map.mpr ⟨c, List.mem_filter.mpr ⟨hc, by simp [hy]⟩, rfl⟩
  have hd : (withdrawInst iid s).clk.dues =
      s.clk.dues.filter (fun d => !(instDues iid ++ warningsFor iid s).contains d.kind) := rfl
  unfold heldDue
  rw [hd, List.find?_eq_none]
  intro d hd hk
  have hk' : d.kind = .yieldWarning c.id := by simpa using hk
  have := (List.mem_filter.mp hd).2
  simp [hk', hm] at this

/-- Terminal entry while no gap is open: the recording is finished, the others stand as they stood (R83). -/
theorem terminate_insts (iid : Nat) (fin : InstState) (c : Cause) (r : Option Nat) (s : State)
    (hg : ∀ t, (tunerRun t s).mon ≠ .gap) (hf : (findInst iid s).isSome = true) :
    (terminate iid fin c r s).lst = (modInst iid (finished fin c r s.clk.count) s).lst := by
  obtain ⟨i, hi⟩ := Option.isSome_iff_exists.mp hf
  have hg3 : ∀ t, (tunerRun t (leaveActive iid
      (modInst iid (finished fin c r (now s)) (withdrawInst iid s)))).mon ≠ .gap := by
    intro t
    rw [leaveActive_mon]
    exact hg t
  unfold terminate
  simp only [hi, chargeLeaving_noGap iid s hg]
  repeat' split
  all_goals simp only [setDirtyIf, setDirty, apply_ite State.lst, modPln_lst, ite_self]
  all_goals simp [monitorCheckOf_lst _ _ hg3]
  all_goals rfl

/-- Entering STOPPING while no gap is open: the recording takes its stop reason, the others stand as they stood (R148). -/
theorem enterStopping_insts (reason : StopReason) (iid : Nat) (i : Inst) (s : State)
    (hg : ∀ t, (tunerRun t s).mon ≠ .gap) (hf : findInst iid s = some i) (hr : i.state = .recording) :
    (enterStopping reason iid s).lst = (modInst iid (fun j => { j with
      state := .stopping, stopReason := some reason, overrun := none, stopAt := none, stopFixed := false
      entries := j.entries + 1
      window := j.window.map (fun w =>
        if w.ws < s.clk.count ∧ s.clk.count < w.we then { w with we := s.clk.count } else w) }) s).lst := by
  unfold enterStopping
  simp only [hf, hr, if_true, chargeLeaving_noGap iid s hg]
  simp only [setDirtyIf, setDirty, apply_ite State.lst, modPln_lst, ite_self]
  exact monitorCheckOf_lst i _ hg

/-- What the two entries do not do: no id changes. -/
theorem terminate_ids (iid : Nat) (fin : InstState) (c : Cause) (r : Option Nat) (s : State)
    (hg : ∀ t, (tunerRun t s).mon ≠ .gap) :
    (terminate iid fin c r s).lst.insts.map (fun i => i.id) = s.lst.insts.map (fun i => i.id) := by
  cases h : findInst iid s with
  | none => simp [terminate, h]
  | some i =>
    rw [terminate_insts iid fin c r s hg (by simp [h])]
    exact modInst_ids iid (finished fin c r s.clk.count) (fun _ => rfl) s

end Sys2Proof.Machine
end

