-- ==== Sys2Proof/Laws/Settle.lean ====
section
/-! SUPPORT. What the end of an event does: nothing but the beginning of a pass when the event has left alone what the
summaries, the waiting starts and the outputs are made from; and what every end of an event leaves. -/

namespace Sys2Proof.Machine

open Sys2Proof

theorem frameInHand_eq_withFrame (kind tag : Byte) (p : List Byte) (s : State) :
    frameInHand (frameArrived kind tag p (frameCheck kind tag p) s) = withFrame kind tag p s := by
  unfold frameInHand frameArrived withFrame startKeepalive freshKeepalive
  simp only [modLnk_wsv]
  cases s.wsv.host <;> cases s.wsv.keepCode <;> rfl

theorem onFrame_takes (kind tag : Byte) (p : List Byte) (act : State → State) (s : State) (h : Takes p s) :
    onFrame kind tag p act s = act (withFrame kind tag p s) := by
  obtain ⟨hl, hh, hr⟩ := h
  have h1 : ¬ Config.payloadCap < p.length := by omega
  have h2 : frameRefused s = false := by
    simp only [frameRefused, hr]
    simp only [bne_self_eq_false, Bool.or_false, decide_eq_false_iff_not]
    omega
  simp only [onFrame, h1, h2, if_false, frameInHand_eq_withFrame]
  rfl

/-- A taken frame whose payload reads. -/
theorem onMessage_ok {α : Type} (kind tag : Byte) (pr : Parser α) (p : List Byte) (act : α → State → State)
    (s : State) (m : α) (h : Takes p s) (hm : parseAll pr p = .ok m) :
    onMessage kind tag pr p act s = act m (withFrame kind tag p s) := by
  simp only [onMessage, onFrame_takes _ _ _ _ _ h, hm]

/-- A taken frame whose payload does not read is refused. -/
theorem onMessage_error {α : Type} (kind tag : Byte) (pr : Parser α) (p : List Byte) (act : α → State → State)
    (s : State) (e : Status) (h : Takes p s) (hm : parseAll pr p = .error e) :
    onMessage kind tag pr p act s = refuse kind tag e (withFrame kind tag p s) := by
  simp only [onMessage, onFrame_takes _ _ _ _ _ h, hm]

/-- Nothing the waiting starts wait for has changed when run records and claims stand as they stood. -/
theorem waitChanged_same_run (before after : State) (h : after.run = before.run) : waitChanged before after = false := by
  simp [waitChanged, h]
  intro c hc
  exact ⟨c, hc, ⟨⟨rfl, rfl⟩, rfl⟩, rfl⟩

theorem retryStarts_same_run (before s : State) (h : s.run = before.run) : retryStarts before s = s := by
  unfold retryStarts
  simp only [retryRounds, waitChanged_same_run before s h, Bool.and_false]
  rfl

theorem find_filter_ne {p : DueReq → Bool} (xs : List DueReq) (h : xs.find? p = none) :
    xs.filter (fun d => !p d) = xs := by
  rw [List.filter_eq_self]
  intro d hd
  simpa using List.find?_eq_none.mp h d hd

/-- The wake due request is left alone when it is already the one R184 asks for. -/
theorem syncWake_settled (s : State)
    (h : (heldDue .wakeDue s).map (fun d => d.time) = wakeTarget s) : syncWake s = s := by
  unfold syncWake
  rw [← h]
  cases hd : heldDue .wakeDue s with
  | none =>
    simp only [Option.map_none]
    unfold withdrawDue modClk
    unfold heldDue at hd
    have := find_filter_ne s.clk.dues hd
    show ({ s with clk := { s.clk with dues := s.clk.dues.filter (fun d => !d.kind == DueKind.wakeDue) } } : State) = s
    rw [this]
  | some d => simp [ensureDue, hd]

/-- An event that leaves alone the list, the run records, the host, the wake due request and the action set settles
the attention output, and a pass may begin. -/
theorem settle_base (before s : State) (hS : Settled before) (hl : s.lst = before.lst) (hr : s.run = before.run)
    (hw : s.wsv = before.wsv) (hd : heldDue .wakeDue s = heldDue .wakeDue before)
    (ha : s.lnk.actionSet = before.lnk.actionSet) : settle before s = beginPass (withAttn s) := by
  obtain ⟨h1, h2, h3, h4, -, -⟩ := hS
  have e1 : placeTerminals s = s := by
    unfold placeTerminals modLst
    simp [hl, h3]
    rw [← hl]
  have e2 : earliestPlanned s = s.lst.earliest := by
    rw [hl, h1]; unfold earliestPlanned plannedInsts; rw [hl]
  have e3 : actionIds s = s.lnk.actionSet := by
    rw [ha, h2]; unfold actionIds idsWhere; rw [hl]
  have e4 : handSummaries s = s := by
    unfold handSummaries modLnk modLst; simp only [e2, e3]
  have e5 : syncWake s = s := by
    apply syncWake_settled
    rw [hd, h4]; unfold wakeTarget; rw [hw, hl]
  have e6 : (runningCount before != runningCount s || before.lst.earliest != s.lst.earliest) = false := by
    simp [runningCount, hl]
  unfold settle
  rw [retryStarts_same_run before s hr]
  simp only [settleOutputs, e1, e4, e6, e5, retestStandby]
  rfl

/-- An event that leaves alone the notices too settles nothing: only a pass may begin. -/
theorem settle_quiet (before s : State) (hS : Settled before) (hl : s.lst = before.lst) (hr : s.run = before.run)
    (hw : s.wsv = before.wsv) (hd : heldDue .wakeDue s = heldDue .wakeDue before)
    (hn : s.lnk.notices = before.lnk.notices) (ha : s.lnk.actionSet = before.lnk.actionSet)
    (ht : s.lnk.attn = before.lnk.attn) : settle before s = beginPass s := by
  rw [settle_base before s hS hl hr hw hd ha]
  have h5 : before.lnk.attn = attnOf before.lnk := hS.2.2.2.2.1
  have e7 : withAttn s = s := by
    show ({ s with lnk := { s.lnk with attn := !s.lnk.notices.isEmpty || !s.lnk.actionSet.isEmpty } } : State) = s
    rw [hn, ha, show (!before.lnk.notices.isEmpty || !before.lnk.actionSet.isEmpty) = s.lnk.attn from by
      rw [ht, h5]; rfl]
  rw [e7]

/-- The dirty flag set at the end of an event, and the pass it begins, are what R93 and R94 state. -/
theorem beginPass_setDirty (s : State) : beginPass (setDirty s) = askPass s := by
  unfold beginPass setDirty askPass modPln clockSet
  rcases hp : s.pln.passState <;> rcases s.clk.cstate <;> simp [hp] <;> rfl

/-- No pass begins at the end of an event that leaves the Planner and the clock state alone. -/
theorem beginPass_settled (before s : State) (hS : Settled before) (hp : s.pln = before.pln)
    (hc : s.clk.cstate = before.clk.cstate) : beginPass s = s := by
  obtain ⟨-, -, -, -, -, h6⟩ := hS
  unfold beginPass
  rw [if_neg]
  rintro ⟨h1, h2, h3⟩
  rw [hp] at h1 h2
  have := h6 h1 h2
  simp [clockSet, hc, this] at h3

end Sys2Proof.Machine
end

