-- ==== Sys2Proof/Tests/Slice0.lean ====
section
/-! SUPPORT. The model's own tests: the WellFormed smoke, worked values of the manual, one step each, and for every
statement of Certificates/Slice0/Obligations.lean that has hypotheses the states and operands that meet them. -/

namespace Sys2Proof.Tests

-- one theorem after another: each evaluates in the kernel, and many at a time would want a thread each
set_option Elab.async false

open Sys2Proof Sys2Proof.Machine

/-! ## Small states -/

/-- The host is AWAKE and the clock runs at 100,000. -/
def awake : State :=
  { State.reset with
    clk := { powerOnClock with
      cstate := .running, count := 100000, sub := 5, nextMidnight := some 172800
      delays := [{ kind := .keepalive, left := 80 * Config.unitsPerSecond }] }
    wsv := { powerOnWake with host := .awake, attempts := 0, reason := .none, wakeOut := false } }

/-- The end-of-event summaries of a state put in order. -/
def quiet (s : State) : State := setAttention (syncWake (handSummaries (placeTerminals s)))

def key : EventKey := { service := 1, event := 2 }

def aRec : GuideRec :=
  { key := key, mux := 20, start := 100100, dur := 1800, series := some [65], episode := some [66],
    status := .running, pins := 0 }

def aBooking : Booking :=
  { id := 1, part := .event key { mux := 20, start := 100100, dur := 1800, series := some [65], episode := some [66] }
      false,
    bstate := .active, priority := 4, prePad := 100, postPad := 300, follow := true, minFraction := 500 }

/-- A recording with core [100100, 101900) and window [100000, 102200). -/
def anInst (st : InstState) : Inst :=
  { id := 5, booking := 1, origin := .event key, episode := some [66], service := 1, mux := 20, start := 100100,
    dur := 1800, prePad := 100, postPad := 300, window := some { ws := 100000, we := 102200 }, tuner := some .a,
    verdict := some .whole, planPriority := some 4, state := st, alts := [], segments := [], gapTenths := 0,
    stopReason := none, overrun := none, cutBy := none, startHeld := false, runEnd := none, outcome := none,
    stopAt := none, stopFixed := false, raiseDue := false, entries := 0 }

/-- The state with one recording, its booking and its event. -/
def holding (i : Inst) (s : State) : State :=
  quiet { s with
    lst := { s.lst with insts := [i], nextId := 6 }
    bkt := { s.bkt with bookings := [aBooking] }
    gst := { recs := [aRec] } }

/-- The recording is active on tuner A. -/
def active (s : State) : State :=
  { s with run := { s.run with tunerA := { s.run.tunerA with mux := some 20, active := [5] } } }

/-- The state at another count. -/
def at_ (t : Nat) (s : State) : State := { s with clk := { s.clk with count := t } }

/-- A request that has been delivered. -/
def due (k : DueKind) (s : State) : State :=
  { s with clk := { s.clk with dues := s.clk.dues ++ [{ kind := k, time := s.clk.count, delivered := true }] } }

/-- A delay with this much left. -/
def running (k : DelayKind) (left : Nat) (s : State) : State :=
  { s with clk := { s.clk with delays := s.clk.delays ++ [{ kind := k, left := left }] } }

/-- A tuner's monitor in a state. -/
def monitor (t : Tuner) (m : MonState) (tol : Nat) (drop : Option Nat) (s : State) : State :=
  withTuner t (fun r => { r with mon := m, tol := tol, drop := drop }) s

/-- A pass in flight. -/
def inPass (s : State) : State :=
  { s with pln := { s.pln with passState := .pass, snapshot := some (snapshotOf s) } }

def ask (r : ResetStage) (s : State) : State := { s with lnk := { s.lnk with reset := r } }
def host (h : HostState) (s : State) : State := { s with wsv := { s.wsv with host := h } }
def claim (cs : List Claim) (s : State) : State := { s with run := { s.run with claims := cs } }
def aClaim (n : Nat) (t : Tuner) (mux : Nat) : Claim := { id := n, tuner := t, mux := mux, priority := 3, yieldTo := none }
def booked (b : Booking) (s : State) : State := { s with bkt := { s.bkt with bookings := [b] } }

/-! ## WellFormed refuses an ill-formed term of each check -/

def long : List Byte := List.replicate 513 0

theorem test_wf_payload : WellFormed (.timeSet 0 long) = false := by decide +kernel
theorem test_wf_payload_full : WellFormed (.timeSet 0 (List.replicate 512 0)) = true := by decide +kernel
theorem test_wf_drop_form : WellFormed (.guideDropKeys 0 [1, 0, 5]) = false ∧
    WellFormed (.guideDropService 0 [0, 0]) = false := by decide +kernel
theorem test_wf_get_form : WellFormed (.guideGetEvent 0 []) = false ∧ WellFormed (.guideGetSummary 0 [1]) = false := by
  decide +kernel
theorem test_wf_history_form : WellFormed (.historyDropPair 0 [1, 0]) = false ∧
    WellFormed (.historyDropSeries 0 [0, 0]) = false := by decide +kernel
theorem test_wf_ids : WellFormed (.windowStart 0) = false ∧ WellFormed (.coreEnd 65536) = false ∧
    WellFormed (.windowClose 65535) = true := by decide +kernel
theorem test_wf_report : WellFormed (.recReportStarted 0 [0, 5, 1, 3]) = false ∧
    WellFormed (.recReportStartFailed 0 [0, 5, 0]) = false ∧ WellFormed (.recReportStopped 0 [0, 5, 0]) = false := by
  decide +kernel
theorem test_wf_claim : WellFormed (.viewClaimNew 0 [1, 1, 0, 0, 20, 3]) = false ∧
    WellFormed (.viewClaimChange 0 [0, 0, 0, 20, 3]) = false ∧ WellFormed (.yieldWarning 3) = false := by decide +kernel
theorem test_wf_bad_check : WellFormed (.badCheck 1 2 [] (frameCheck 1 2 [])) = false ∧
    WellFormed (.badCheck 1 2 [] (frameCheck 1 2 [] + 1)) = true := by decide +kernel
theorem test_wf_bad_kind : WellFormed (.badKind 0x01 0 []) = false ∧ WellFormed (.badKind 0x05 0 []) = true := by decide +kernel
theorem test_wf_line : WellFormed (.lineFramingError [0x5A, 0xFF, 0xFF, 0]) = false ∧
    WellFormed (.interByteTimeout []) = false ∧ WellFormed (.interByteTimeout [0x5A]) = true := by decide +kernel
theorem test_wf_length : WellFormed (.frameLengthExceeds512 2 0) = false ∧
    WellFormed (.frameLengthExceeds512 2 1) = true := by decide +kernel

/-! ## Values worked out in the manual, or by hand from its rules -/

/-- The generator, start value and bit order of R195 are those of the check whose value over the ASCII digits 1 to 9
is known to be 29B1 (hexadecimal). -/
theorem test_crc : crc [0x31, 0x32, 0x33, 0x34, 0x35, 0x36, 0x37, 0x38, 0x39] = 0x29B1 := by decide +kernel

/-- Section 8.10, a gap, an interruption and a resume: core 72,000 for 3,600 s, segments [71,880, 73,500) and
[73,700, 75,900), 372 tenths of gap: 3,363 s and 934 per-mille. -/
theorem test_recorded :
    let i : Inst := { anInst .stopping with
      start := 72000, dur := 3600, gapTenths := 372
      segments := [{ start := 71880, stop := some 73500 }, { start := 73700, stop := some 75900 }] }
    coreCovered i = 3400 ∧ recordedSeconds i = 3363 ∧ recordedFraction i = 934 := by decide +kernel

/-- Section 9.9, one evening in the TUNER_A bank: a HARD condition replaces a DEFERRED record, the further count is 3,
and a SOFT one is counted without a notice. -/
theorem test_bank :
    let c (k : CondClass) (x : CondCode) : Condition :=
      { bank := .tunerA, cls := k, code := x, iid := none, booking := none }
    let s := submitAll [c .deferred .signalGap, c .soft .tunerSwapped, c .deferred .signalGap, c .hard .lockAbandoned,
      c .deferred .startFailed] awake
    s.cnd.tunerA.held.map (fun r => r.code) = some .lockAbandoned ∧ s.cnd.tunerA.further = 4 ∧
      s.lnk.notices.length = 4 := by decide +kernel

/-- Section 2.12, status changes of an overrunning origin: at 86,400 the purge removes the ended record without a pin
and keeps the pinned one and the one that has not ended. -/
theorem test_rollover_purge :
    let r (sv ev st dur pins : Nat) : GuideRec :=
      { aRec with key := { service := sv, event := ev }, start := st, dur := dur, pins := pins }
    let s := withRecs [r 5 10 82800 3600 0, r 5 11 84600 1800 1, r 6 3 85500 3600 0]
      { awake with clk := { awake.clk with count := 86400, rollovers := 1 } }
    (purgeGuide s).gst.recs.map (fun x => x.key.event) = [11, 3] := by decide +kernel

/-- R195, R196: a frame read byte by byte in the receiver is judged good, and a byte more of payload is not lost. -/
theorem test_receiver : rxBytes idleRx (frameBytes 0x1A 9 [0, 1, 0, 2, 4]) =
    (rxAfter 0x1A 9 [0, 1, 0, 2, 4] (frameCheck 0x1A 9 [0, 1, 0, 2, 4]), .judged 0x1A 9 [0, 1, 0, 2, 4] true) := by
  decide +kernel

/-- R9, R8: a second of difference is slewed, not stepped. -/
theorem test_time_set_slews : ∃ t, exec (.timeSet 1 (be4 100001 ++ beInt 0 ++ [0])) awake = .next t ∧
    t.clk.cstate = .slewing ∧ t.clk.slewRem = 1 ∧ t.clk.count = 100000 := ⟨_, rfl, by decide +kernel⟩

/-- R194, R187: the first HELLO after power-on finds the host WAKING with reason POWER_ON. -/
theorem test_first_hello : ∃ t, exec (.hello 3 []) State.reset = .next t ∧
    t.wsv.host = .awake ∧ t.wsv.wakeOut = false ∧
    t.lnk.tx.map (fun r => (r.kind, r.tag, r.status)) = [(0x81, 3, .ok)] := ⟨_, rfl, by decide +kernel⟩

/-- R199, R176, R150: the length is judged before any field, so a flag byte of 2 or an unknown result in a payload of
no possible length is BAD_LENGTH; in one whose length suits it is BAD_FIELD. -/
theorem test_length_before_fields :
    parseAll pCondClear [0, 2, 9] = .error .badLength ∧ parseAll pCondClear [0, 2] = .error .badField ∧
    parseAll pReport [0, 5, 3, 0, 0] = .error .badLength ∧ parseAll pReport [0, 5, 3] = .error .badField ∧
    parseAll pClaim [2] = .error .badLength := by decide +kernel

/-- R56: the first index of a read limited to a series is that of the first entry returned. -/
theorem test_history_first :
    let e (s x : Byte) : HistEntry := { series := [s], episode := [x] }
    ∃ t, exec (.historyGet 1 (be2 0 ++ [1, 1, 66]))
        { awake with bkt := { awake.bkt with history := [e 65 1, e 66 2, e 65 3] } } = .next t ∧
      t.lnk.tx.map (fun r => r.body) = [.historyGet 3 1 [e 66 2] none] := ⟨_, rfl, by decide +kernel⟩

/-- R27: a recording of a SUSPENDED booking makes an airing of its episode relevant through pins alone. -/
theorem test_suspended_not_relevant :
    let r : GuideRec := { aRec with key := { service := 7, event := 7 }, series := none }
    let s := holding (anInst .recording) awake
    relevantRec s r = true ∧ relevantRec (booked { aBooking with bstate := .suspended } s) r = false ∧
    relevantRec (booked { aBooking with bstate := .suspended } s) { r with pins := 1 } = true := by decide +kernel

/-- R62: a booking waits for an airing of its episode while it has no recording, its source is no longer eligible (the
core ends at 101900) and no later eligible airing is held. A SUSPENDED booking and one with a recording do not wait, and an
airing of another series is none of the episode. -/
theorem test_awaited_airing :
    let r : GuideRec := { aRec with key := { service := 7, event := 7 }, start := 103000 }
    let s := at_ 101840 (booked aBooking awake)
    relevantRec s r = false ∧ relevantEntry s r = true ∧ awaited s { r with series := none } = false ∧
    relevantEntry (at_ 101839 s) r = false ∧
    awaited (at_ 101840 (holding (anInst .missed) awake)) r = false ∧
    awaited (booked { aBooking with bstate := .suspended } s) r = false := by decide +kernel

/-- R62, R27: an airing held before the change does not enter by its replacement; a record that the replacement makes an
airing of the episode does. A booking that a later eligible airing serves waits no longer. -/
theorem test_replaced_airing :
    let r : GuideRec := { aRec with key := { service := 7, event := 7 }, start := 103000 }
    let other := { r with series := none }
    let s (x : GuideRec) := { at_ 101840 (booked aBooking awake) with gst := { recs := [x] } }
    let early := { r with start := 100000 }
    relevantChange (s early) early { early with start := 103000 } = false ∧ relevantChange (s other) other r = true ∧
    awaited (s early) r = true ∧ awaited (s r) { r with start := 104000 } = false := by decide +kernel

/-- R83, R156: terminal entry withdraws the warning of the claim that yields to the recording; the mark stays. -/
theorem test_terminal_entry_withdraws_the_warning :
    let c (n iid : Nat) : Claim := { aClaim n .b 21 with yieldTo := some iid }
    let s := terminate 5 .cancelled .deleted none
      (due (.yieldWarning 2) (due (.yieldWarning 1) (claim [c 1 5, c 2 6] (holding (anInst .planned) awake))))
    heldDue (.yieldWarning 1) s = none ∧ (heldDue (.yieldWarning 2) s).isSome = true ∧
    s.run.claims = [c 1 5, c 2 6] := by decide +kernel

/-- R102: one in RECORDING that overruns occupies its tuner up to the cap, one in STARTING up to its W_e; a fixed stop
moment beyond the W_e held, or beyond the W_e that a lowered post-pad gives, is the end of the occupancy. -/
theorem test_running_occupancy :
    let j (st : InstState) : Inst := { anInst st with overrun := some 112700, stopAt := some .opened }
    let f (m : Nat) : Inst := { anInst .recording with stopAt := some (.at m), stopFixed := true }
    let p (post : Nat) := snapshotOf (booked { aBooking with postPad := post } awake)
    fixedKind (p 300) (j .recording) = (.overrun 102200, 112700) ∧
    fixedKind (p 300) (j .starting) = (.firm, 102200) ∧
    fixedKind (p 100) (f 102100) = (.firm, 102100) ∧ fixedKind (p 900) (f 102300) = (.firm, 102300) ∧
    fixedKind (p 100) { f 102200 with stopFixed := false } = (.trimmable, 102000) := by decide +kernel

/-- R121: a RECORDING neighbour's W_e is set no lower than now, though it overruns, so that one at now is not lowered. -/
theorem test_trim_floor :
    let c : Cand :=
      { pid := 9, booking := 1, priority := 4, minFraction := 500, origin := .event key, service := 1, mux := 21,
        start := 1003, dur := 600, prePad := 0, postPad := 0, alts := [], key := 1005 }
    let x : Occ :=
      { kind := .overrun 1000, pid := 5, tuner := .a, mux := 20, from_ := 400, to_ := some 1003,
        winEnd := 1000, recording := true, priority := 4, coreStart := 400, coreEnd := 990, mark := none }
    let r (x : Occ) := trimEarlier 1000 c { window := { ws := 1005, we := 1603 }, trimmed := [], ok := true } x
    (r x).ok = true ∧ (r x).window.ws = 1005 ∧ (r { x with recording := false }).ok = false := by decide +kernel

/-- R176, R177: a bank in these replies is the fields its rule lists, without the bank's number. -/
theorem test_cond_replies :
    bodyBytes (.condClear [{ id := .tunerA, bank := freshBank, gap := some { count := 4, threshold := 9, armed := false } }]) =
      [0, 0, 0, 0, 4] ∧
    bodyBytes (.condConfig [{ id := .clock, bank := freshBank, gap := none }]) = [0, 6] := by decide +kernel

/-- R78: a booking that holds twelve recordings not terminal is given no thirteenth. -/
theorem test_no_thirteenth (cands : List Cand) (a : InstallAcc) (kc : Nat × Creation)
    (h : 12 ≤ liveCount kc.2.booking a.s) : createOne cands a kc = a := by
  have hn : ¬ (bookingHeld kc.2.booking a.s = true ∧ liveCount kc.2.booking a.s < Config.perBooking) :=
    fun x => absurd x.2 (Nat.not_lt.mpr h)
  unfold createOne
  simp only [hn, if_false]
  split <;> rfl

/-- R13, R12: the local day of a time west of UTC on day 0 is −1. -/
theorem test_local_day : localDay 3600 (-7200) = -1 ∧ localDay 86400 0 = 1 := by decide +kernel

/-! ## States and operands that meet the hypotheses of the statements

One theorem for each statement that has hypotheses, named after it; where a statement has several clauses the theorem
has a part for each, at a boundary value where the clause has one. -/

theorem all_tuners {p : Tuner → Prop} (a : p .a) (b : p .b) : ∀ t, p t
  | .a => a
  | .b => b

/-- What every statement about a message asks. -/
abbrev Msg (p : List Byte) (s : State) : Prop := Settled s ∧ Takes p s

def slewing (r : Int) (phase : Nat) : State :=
  { awake with clk := { awake.clk with cstate := .slewing, slewRem := r, slewPhase := phase } }

def change (o : Int) (due : Bool) (s : State) : State :=
  { s with clk := { s.clk with change := some { time := 100000, offset := o }, changeDue := due } }

def rolled (s : State) : State := { s with clk := { s.clk with rollovers := 1 } }

def oldRec (pins : Nat) : GuideRec :=
  { aRec with key := { service := 1, event := 3 }, start := 90000, pins := pins }

def guided : State := withRecs [oldRec 0, aRec] (booked aBooking awake)

theorem witness_Resets : (ask (.due .warm) awake).lnk.reset = .due .warm ∧
    (ask (.due .cold) awake).lnk.reset = .due .cold ∧ awake.lnk.reset ≠ .due .warm ∧ awake.lnk.reset ≠ .due .cold := by
  decide +kernel

theorem witness_CrystalSecond :
    State.reset.clk.cstate = .unset ∧ (at_ 4294967295 awake).clk.cstate = .running ∧
    ((slewing 1 8).clk.cstate = .slewing ∧ (slewing 1 8).clk.slewPhase < 9) ∧
    ((slewing 1 9).clk.cstate = .slewing ∧ 9 ≤ (slewing 1 9).clk.slewPhase ∧ 0 < (slewing 1 9).clk.slewRem) ∧
    ((slewing (-1) 9).clk.cstate = .slewing ∧ 9 ≤ (slewing (-1) 9).clk.slewPhase ∧ (slewing (-1) 9).clk.slewRem < 0) := by
  decide +kernel

theorem witness_RolloverAndOffsetChange_rollover :
    (let s := rolled guided; Settled s ∧ GuideKept s ∧ NoOverrun s ∧ 0 < s.clk.rollovers ∧ s.pln.passState = .idle ∧
      s.clk.cstate ≠ .unset) ∧
    (let s := rolled State.reset; Settled s ∧ GuideKept s ∧ NoOverrun s ∧ 0 < s.clk.rollovers ∧
      s.pln.passState = .idle ∧ s.clk.cstate = .unset) ∧
    (let s := rolled (inPass guided); Settled s ∧ GuideKept s ∧ NoOverrun s ∧ 0 < s.clk.rollovers ∧
      s.pln.passState = .pass) ∧
    guided.clk.rollovers = 0 := by
  refine ⟨?_, ?_, ?_, ?_⟩ <;> decide +kernel

theorem witness_RolloverAndOffsetChange_offset :
    (let s := change 3600 true awake; Settled s ∧ s.clk.changeDue = true ∧
      s.clk.change = some { time := 100000, offset := 3600 } ∧ s.clk.offset ≠ 3600) ∧
    (let s := change 0 true awake; Settled s ∧ s.clk.changeDue = true ∧
      s.clk.change = some { time := 100000, offset := 0 } ∧ s.clk.offset = 0) ∧
    awake.clk.changeDue = false := by decide +kernel

def timePayload (t : Nat) (o : Int) : List Byte := be4 t ++ beInt o ++ [0]
def timeMsg (t : Nat) (o : Int) : TimeSetMsg := { time := t, offset := o, change := none }
def timePayload2 (t : Nat) (o : Int) (c : Nat) (l : Int) : List Byte := be4 t ++ beInt o ++ [1] ++ be4 c ++ beInt l
def timeMsg2 (t : Nat) (o : Int) (c : Nat) (l : Int) : TimeSetMsg :=
  { time := t, offset := o, change := some { time := c, offset := l } }

theorem witness_TimeSet_refused :
    Msg (timePayload2 100000 0 100000 3600) awake ∧
    parseAll pTimeSet (timePayload2 100000 0 100000 3600) = .ok (timeMsg2 100000 0 100000 3600) ∧
    (timeMsg2 100000 0 100000 3600).change = some { time := 100000, offset := 3600 } ∧ 100000 ≤ 100000 := by
  decide +kernel

theorem witness_TimeSet_stepped :
    let s := change 3600 false (at_ 99996 awake)
    Msg (timePayload2 99999 0 100004 3601) s ∧
    parseAll pTimeSet (timePayload2 99999 0 100004 3601) = .ok (timeMsg2 99999 0 100004 3601) ∧
    (∀ ch ∈ (timeMsg2 99999 0 100004 3601).change, 99999 < ch.time) ∧ s.clk.changeDue = false ∧
    (∀ ch ∈ s.clk.change, 99999 < ch.time ∧ s.clk.count < ch.time) ∧
    2 < (Int.ofNat 99999 - Int.ofNat s.clk.count).natAbs := by decide +kernel

/-- A step that also brings another offset, forward with both ends of the day in it and backward. -/
theorem witness_TimeSet_steppedAndOffset :
    (Msg (timePayload 172800 900) awake ∧ parseAll pTimeSet (timePayload 172800 900) = .ok (timeMsg 172800 900) ∧
      awake.clk.cstate ≠ .unset ∧ awake.clk.count < 172800 ∧ max (-50400) (min 50400 (Int.tdiv 900 900 * 900)) ≠
        awake.clk.offset) ∧
    (Msg (timePayload 99997 0) awake ∧ parseAll pTimeSet (timePayload 99997 0) = .ok (timeMsg 99997 0) ∧
      2 < (Int.ofNat 99997 - Int.ofNat awake.clk.count).natAbs ∧ 99997 < awake.clk.count ∧
      awake.clk.change = none ∧ awake.clk.changeDue = false) := by
  refine ⟨?_, ?_⟩ <;> decide +kernel

theorem witness_TimeSet_slewed :
    (Msg (timePayload 99998 0) awake ∧ parseAll pTimeSet (timePayload 99998 0) = .ok (timeMsg 99998 0) ∧
      (∀ ch ∈ (timeMsg 99998 0).change, 99998 < ch.time) ∧ awake.clk.changeDue = false ∧
      (∀ ch ∈ awake.clk.change, 99998 < ch.time ∧ awake.clk.count < ch.time) ∧
      awake.clk.cstate ≠ .unset ∧ (Int.ofNat 99998 - Int.ofNat awake.clk.count).natAbs ≤ 2) ∧
    (Msg (timePayload 100000 900) awake ∧ parseAll pTimeSet (timePayload 100000 900) = .ok (timeMsg 100000 900)) := by
  refine ⟨?_, ?_⟩ <;> decide +kernel

theorem witness_TimeSet_set :
    Msg (timePayload 0 0) State.reset ∧ parseAll pTimeSet (timePayload 0 0) = .ok (timeMsg 0 0) ∧
    State.reset.clk.cstate = .unset ∧ State.reset.clk.changeDue = false := by decide +kernel

theorem witness_ClockAndGuideReads :
    Takes [] awake ∧ Takes (beKey key) guided ∧ parseAll pKey (beKey key) = .ok key ∧
    recOf key guided.gst.recs = some aRec ∧ recOf key awake.gst.recs = none := by decide +kernel

theorem witness_BookingAndHistoryReads :
    (Takes [1] guided ∧ parseAll pU8 [1] = .ok 1 ∧ findBooking 1 guided = some aBooking ∧ findBooking 1 awake = none) ∧
    (parseAll pU8 [0] = .ok 0 ∧ parseAll pU8 [129] = .ok 129 ∧ parseAll pU8 [128] = .ok 128 ∧ Takes [128] guided) ∧
    (Takes (be2 1 ++ [0]) awake ∧ parseAll pHistGet (be2 1 ++ [0]) = .ok (1, none) ∧ awake.bkt.history.length < 1) ∧
    (parseAll pHistGet (be2 0 ++ [1, 1, 65]) = .ok (0, some [65]) ∧ Takes (be2 0 ++ [1, 1, 65]) awake ∧
      0 ≤ awake.bkt.history.length) := by decide +kernel

def planned : State := holding (anInst .planned) awake

theorem witness_InstanceActionLogAndSettingReads :
    Takes (be2 5) planned ∧ parseAll pU16 (be2 5) = .ok 5 ∧ findInst 5 planned = some (anInst .planned) ∧
    findInst 5 awake = none ∧ Takes [255] awake ∧ Takes [5] awake ∧ Takes [4] awake ∧
    (4 : Byte).toNat = bankNum .clock := by decide +kernel

def withQueries (n : Nat) (s : State) : State :=
  { s with lnk := { s.lnk with held := List.replicate n { tag := 1, query := .clash 0 } } }

def planPayload (a b n : Nat) : List Byte := be4 a ++ be4 b ++ be1 n

theorem witness_PlanQueries_plan :
    Takes (planPayload 0 200000 1) planned ∧ parseAll pPlanGet (planPayload 0 200000 1) = .ok (0, 200000, 1) ∧
    parseAll pPlanGet (planPayload 5 5 0) = .ok (5, 5, 0) ∧ Takes (planPayload 5 5 0) planned ∧
    parseAll pPlanGet (planPayload 0 200000 2) = .ok (0, 200000, 2) ∧ Takes (planPayload 0 200000 2) planned ∧
    State.reset.clk.cstate = .unset ∧ Takes (planPayload 0 200000 1) State.reset ∧
    planned.clk.cstate ≠ .unset ∧ planned.pln.passState = .idle ∧
    (sortBy selectionLt (planned.lst.insts.filter (selectedBy 0 200000))).length = 1 := by decide +kernel

theorem witness_PlanQueries_held :
    (let s := withQueries 3 (inPass planned); Takes (planPayload 0 200000 0) s ∧ Takes [0] s ∧
      s.clk.cstate ≠ .unset ∧ s.pln.passState = .pass ∧ s.lnk.held.length < 4 ∧ 0 ≤ s.pln.clashes.length) ∧
    (let s := withQueries 4 (inPass planned); Takes (planPayload 0 200000 0) s ∧ Takes [0] s ∧
      s.clk.cstate ≠ .unset ∧ s.pln.passState = .pass ∧ 4 ≤ s.lnk.held.length) ∧
    parseAll pU8 [0] = .ok 0 ∧ parseAll pU8 [1] = .ok 1 ∧ Takes [1] planned ∧ planned.pln.clashes.length < 1 := by
  decide +kernel

def entryPayload (ev st dur : Nat) : List Byte :=
  [1] ++ be2 1 ++ be2 ev ++ be2 20 ++ be4 st ++ be4 dur ++ [5] ++ be1 3 ++ beRef [65]

def entryMsg (ev st dur : Nat) : GuideEntry :=
  { key := { service := 1, event := ev }, mux := 20, start := st, dur := dur, series := some [65], episode := none
    status := some 3 }

theorem witness_GuidePut :
    (Msg (entryPayload 9 100200 60) State.reset ∧ State.reset.clk.cstate = .unset) ∧
    (Msg (entryPayload 9 100200 59) guided ∧ NoOverrun guided ∧
      parseAll pGuidePut (entryPayload 9 100200 59) = .ok [entryMsg 9 100200 59] ∧ guided.clk.cstate ≠ .unset ∧
      entryIgnored guided.clk.count (entryMsg 9 100200 59) = true) ∧
    (Msg (entryPayload 9 100200 60) guided ∧
      parseAll pGuidePut (entryPayload 9 100200 60) = .ok [entryMsg 9 100200 60] ∧
      (∀ n ∈ (entryMsg 9 100200 60).status, n < 5) ∧
      entryIgnored guided.clk.count (entryMsg 9 100200 60) = false ∧
      recOf (entryMsg 9 100200 60).key guided.gst.recs = none ∧ guided.gst.recs.length < 3072) ∧
    (Msg (entryPayload 2 100200 60) guided ∧
      parseAll pGuidePut (entryPayload 2 100200 60) = .ok [entryMsg 2 100200 60] ∧
      entryIgnored guided.clk.count (entryMsg 2 100200 60) = false ∧
      recOf (entryMsg 2 100200 60).key guided.gst.recs = some aRec) := by
  refine ⟨?_, ?_, ?_, ?_⟩ <;> decide +kernel

/-- A full store: 3072 records, the last of them starting at 100,100. -/
def full : State := withRecs (List.replicate 3072 aRec) awake

theorem witness_GuidePut_full :
    Msg (entryPayload 9 100100 60) full ∧ NoOverrun full ∧ full.clk.cstate ≠ .unset ∧
    entryIgnored full.clk.count (entryMsg 9 100100 60) = false ∧
    entryIgnored full.clk.count (entryMsg 9 100099 60) = false ∧
    recOf (entryMsg 9 100100 60).key full.gst.recs = none ∧ 3072 ≤ full.gst.recs.length ∧
    latestUnpinned full.gst.recs = some aRec ∧ aRec.start ≤ (entryMsg 9 100100 60).start ∧
    (entryMsg 9 100099 60).start < aRec.start := by decide +kernel

theorem witness_GuideDrop :
    (Msg ([0, 1] ++ beKey key) guided ∧ NoOverrun guided ∧
      parseAll pGuideDrop ([0, 1] ++ beKey key) = .ok (.keys [key]) ∧ recOf key guided.gst.recs = some aRec ∧
      Msg ([0, 1] ++ beKey key) awake ∧ NoOverrun awake ∧ recOf key awake.gst.recs = none) ∧
    (Msg ([1] ++ be2 1) guided ∧ parseAll pGuideDrop ([1] ++ be2 1) = .ok (.service 1) ∧
      Msg ([1] ++ be2 0) guided ∧ parseAll pGuideDrop ([1] ++ be2 0) = .ok (.service 0)) := by
  refine ⟨?_, ?_⟩ <;> decide +kernel

theorem witness_EventStatus :
    Msg (beKey key ++ [5]) guided ∧ NoOverrun guided ∧ parseAll pEventStatus (beKey key ++ [5]) = .ok (key, 5) ∧
    Msg (beKey key ++ [4]) guided ∧ parseAll pEventStatus (beKey key ++ [4]) = .ok (key, 4) ∧
    runStatusNum .running = 4 ∧ recOf key guided.gst.recs = some aRec ∧
    Msg (beKey key ++ [4]) awake ∧ NoOverrun awake ∧ recOf key awake.gst.recs = none := by decide +kernel

def noCommon : List Byte := [0, 0, 0, 0, 0]
def emptyCommon : CommonMsg :=
  { priority := none, prePad := none, postPad := none, follow := none, minFraction := none }
def manualPart (dur : Nat) : ManualPart :=
  { service := 1, mux := 20, t0 := 86399, dur := dur, mask := 127, firstDay := -1, lastDay := some 49710 }
def manualPayload (dur : Nat) : List Byte :=
  be2 1 ++ be2 20 ++ be4 86399 ++ be4 dur ++ [127] ++ beInt (-1) ++ beOpt beInt (some 49710) ++ noCommon
def seriesMsg (r : Ref) (sc : Option Nat) : BookSeriesMsg :=
  { ref := r, scope := sc, newOnly := none, common := emptyCommon }
def allBooked : State :=
  { guided with bkt := { guided.bkt with bookings := (List.range 128).map (fun k => { aBooking with id := k + 1 }) } }

theorem witness_AddCommands_event :
    (Msg (be2 0 ++ be2 2 ++ noCommon) guided ∧
      parseAll pBookEvent (be2 0 ++ be2 2 ++ noCommon) = .ok ({ service := 0, event := 2 }, emptyCommon)) ∧
    (Msg (beKey key ++ noCommon) awake ∧ parseAll pBookEvent (beKey key ++ noCommon) = .ok (key, emptyCommon) ∧
      key.service ≠ 0 ∧ recOf key awake.gst.recs = none) ∧
    (Msg (beKey key ++ noCommon) guided ∧ recOf key guided.gst.recs = some aRec ∧
      bookingOfKey key guided = some aBooking) ∧
    (let s := withRecs [aRec] awake; Msg (beKey key ++ noCommon) s ∧ recOf key s.gst.recs = some aRec ∧
      bookingOfKey key s = none ∧ lowestFree s = some 1) := by
  refine ⟨?_, ?_, ?_, ?_⟩ <;> decide +kernel

theorem witness_AddCommands_series :
    (Msg ([0, 0, 0] ++ noCommon) guided ∧ parseAll pBookSeries ([0, 0, 0] ++ noCommon) = .ok (seriesMsg [] none)) ∧
    (Msg ([1, 65, 0, 0] ++ noCommon) allBooked ∧
      parseAll pBookSeries ([1, 65, 0, 0] ++ noCommon) = .ok (seriesMsg [65] none) ∧
      bookingOfSeries [65] none allBooked = none ∧ lowestFree allBooked = none) ∧
    (Msg ([1, 65, 0, 0] ++ noCommon) guided ∧ bookingOfSeries [65] none guided = none ∧
      lowestFree guided = some 2) := by decide +kernel

theorem witness_AddCommands_manual :
    (Msg (manualPayload 59) guided ∧ parseAll pBookManual (manualPayload 59) = .ok (manualPart 59, emptyCommon) ∧
      ¬ 60 ≤ (manualPart 59).dur) ∧
    (Msg (manualPayload 60) guided ∧ parseAll pBookManual (manualPayload 60) = .ok (manualPart 60, emptyCommon) ∧
      (manualPart 60).mask ≠ 0 ∧ (manualPart 60).mask.toNat < 128 ∧
      ∀ d ∈ (manualPart 60).lastDay, -1 ≤ d ∧ d ≤ 49710 ∧ (manualPart 60).firstDay ≤ d) := by decide +kernel

def seriesBooking : Booking := { aBooking with part := .series [66] none true }
def spentBooking : Booking := { aBooking with bstate := .spent }
def suspendedBooking : Booking := { aBooking with bstate := .suspended }

def manualBooking : Booking := { aBooking with part := .manual (manualPart 60) }

theorem witness_BookChange_refused :
    (Msg [9, 1, 3] guided ∧ parseAll pBookChange [9, 1, 3] = .ok (9, [.priority 3]) ∧ findBooking 9 guided = none) ∧
    (Msg [1, 1, 3] (booked spentBooking awake) ∧ parseAll pBookChange [1, 1, 3] = .ok (1, [.priority 3]) ∧
      findBooking 1 (booked spentBooking awake) = some spentBooking ∧ spentBooking.bstate = .spent) ∧
    (Msg [1, 0] guided ∧ parseAll pBookChange [1, 0] = .ok (1, [.refused]) ∧
      findBooking 1 guided = some aBooking ∧ aBooking.bstate ≠ .spent ∧ fieldWritten aBooking .refused = none) ∧
    (Msg [1, 6, 0] guided ∧ parseAll pBookChange [1, 6, 0] = .ok (1, [.newOnly false]) ∧
      fieldWritten aBooking (.newOnly false) = none) ∧
    (Msg ([1, 10] ++ be4 59) (booked manualBooking awake) ∧
      parseAll pBookChange ([1, 10] ++ be4 59) = .ok (1, [.dur 59]) ∧
      findBooking 1 (booked manualBooking awake) = some manualBooking ∧ manualBooking.bstate ≠ .spent ∧
      fieldWritten manualBooking (.dur 59) = some { manualBooking with part := .manual (manualPart 59) } ∧
      (manualPart 59).dur < 60) := by
  refine ⟨?_, ?_, ?_, ?_, ?_⟩ <;> decide +kernel

theorem witness_BookChange_written :
    (Msg [1, 1, 8] guided ∧ parseAll pBookChange [1, 1, 8] = .ok (1, [.priority 8]) ∧
      fieldWritten aBooking (.priority 8) = some { aBooking with priority := 7 }) ∧
    (Msg ([1, 2] ++ be4 3601) guided ∧ parseAll pBookChange ([1, 2] ++ be4 3601) = .ok (1, [.prePad 3601]) ∧
      fieldWritten aBooking (.prePad 3601) = some { aBooking with prePad := 3600 }) ∧
    (Msg [1, 4, 1] guided ∧ parseAll pBookChange [1, 4, 1] = .ok (1, [.follow true]) ∧
      fieldWritten aBooking (.follow true) = some aBooking) ∧
    (Msg ([1, 5] ++ be2 99) guided ∧ parseAll pBookChange ([1, 5] ++ be2 99) = .ok (1, [.minFraction 99]) ∧
      fieldWritten aBooking (.minFraction 99) = some { aBooking with minFraction := 100 }) ∧
    (Msg [1, 6, 0] (booked seriesBooking awake) ∧
      fieldWritten seriesBooking (.newOnly false) = some { seriesBooking with part := .series [66] none false }) ∧
    (Msg ([1, 10] ++ be4 86400) (booked manualBooking awake) ∧
      parseAll pBookChange ([1, 10] ++ be4 86400) = .ok (1, [.dur 86400]) ∧
      fieldWritten manualBooking (.dur 86400) = some { manualBooking with part := .manual (manualPart 86400) }) := by
  refine ⟨?_, ?_, ?_, ?_, ?_, ?_⟩ <;> decide +kernel

/-- The kind part that the last of these leaves passes the tests, and the one of 59 s does not. -/
theorem witness_BookChange_manual : GoodManual (manualPart 86400) ∧ ¬ GoodManual (manualPart 59) :=
  ⟨⟨by decide, by decide, by decide, by decide, by decide, by decide, by decide, by decide, by decide, by decide⟩,
    fun h => absurd h.2.2.2.1 (by decide)⟩

theorem witness_BookChange_notManual : ∀ m, aBooking.part ≠ .manual m := nofun

theorem witness_SuspendAndResume :
    (Msg [9] guided ∧ parseAll pU8 [9] = .ok 9 ∧ findBooking 9 guided = none) ∧
    (Msg [1] guided ∧ parseAll pU8 [1] = .ok 1 ∧ findBooking 1 guided = some aBooking ∧ aBooking.bstate = .active) ∧
    (Msg [1] (booked spentBooking awake) ∧ findBooking 1 (booked spentBooking awake) = some spentBooking) ∧
    (Msg [1] (booked suspendedBooking awake) ∧
      findBooking 1 (booked suspendedBooking awake) = some suspendedBooking ∧
      suspendedBooking.bstate = .suspended) := by
  refine ⟨?_, ?_, ?_, ?_⟩ <;> decide +kernel

/-- Recordings in a list, on the tuners named. -/
def onTuners (insts : List Inst) (a b : List Nat) (s : State) : State :=
  quiet { s with
    lst := { s.lst with insts := insts, nextId := 20 }
    bkt := { s.bkt with bookings := [aBooking] }
    gst := { recs := [aRec] }
    run := { s.run with
      tunerA := { s.run.tunerA with active := a, mux := if a = [] then none else some 20 }
      tunerB := { s.run.tunerB with active := b, mux := if b = [] then none else some 20 } } }

/-- A recording in a state, stop moment at its window end. -/
def onAir (st : InstState) : Inst :=
  { anInst st with
    stopAt := some (.at 102200), segments := if st = .starting then [] else [{ start := 100000, stop := none }] }

/-- One booking with a recording in every state it can delete, and one of another booking. -/
def everyState : State :=
  running (.startConfirm 6) 20000 (onTuners [onAir .recording, { onAir .starting with id := 6 },
    { onAir .stopping with id := 7, stopReason := some .stopMoment, stopAt := none },
    { anInst .interrupted with id := 9, runEnd := some 102200, segments := [{ start := 100000, stop := some 100500 }] },
    { anInst .missed with id := 10 }, { anInst .clashed with id := 11 },
    { onAir .recording with id := 12, booking := 2, tuner := some .b }] [5, 6, 7] [12] awake)

theorem witness_BookDelete :
    (Msg [9] planned ∧ parseAll pU8 [9] = .ok 9 ∧ findBooking 9 planned = none) ∧
    (Msg [1] everyState ∧ parseAll pU8 [1] = .ok 1 ∧ (findBooking 1 everyState).isSome = true ∧
      DistinctIds everyState ∧ (∀ i ∈ everyState.lst.insts, i.booking ≠ 1 →
        i.state ≠ .interrupted ∧ ¬ (i.state = .planned ∧ i.startHeld = true)) ∧
      (∀ st ∈ [InstState.recording, .starting, .stopping, .interrupted, .missed, .clashed],
        ∃ i ∈ everyState.lst.insts, i.booking = 1 ∧ i.state = st)) ∧
    (∀ t, (tunerRun t everyState).mon ≠ .gap) := by
  refine ⟨?_, ?_, all_tuners ?_ ?_⟩ <;> decide +kernel

def pair (n k : Nat) : HistEntry := { series := List.replicate n 7, episode := List.replicate k 9 }
def fullHistory : State :=
  withHistory ((List.range 512).map (fun k => { series := be2 k, episode := [65] })) guided

theorem witness_HistoryPairs_inserted :
    pair 0 32 ∈ (withHistory [pair 0 32] guided).bkt.history ∧ pair 0 32 ∉ guided.bkt.history ∧
    guided.bkt.history.length < 512 ∧ pair 0 32 ∉ fullHistory.bkt.history ∧ fullHistory.bkt.history.length = 512 := by
  decide +kernel

theorem witness_HistoryPairs_added :
    (Msg (beHist (pair 33 1)) guided ∧ parseAll pHistEntry (beHist (pair 33 1)) = .ok (pair 33 1) ∧
      Msg (beHist (pair 0 0)) guided ∧ parseAll pHistEntry (beHist (pair 0 0)) = .ok (pair 0 0)) ∧
    (Msg (beHist (pair 0 32)) guided ∧ parseAll pHistEntry (beHist (pair 0 32)) = .ok (pair 0 32) ∧
      pair 0 32 ∉ guided.bkt.history ∧ guided.bkt.history.length < 512 ∧
      Msg (beHist (pair 0 32)) (withHistory [pair 0 32] guided) ∧
      pair 0 32 ∈ (withHistory [pair 0 32] guided).bkt.history) ∧
    (Msg (beHist (pair 0 32)) fullHistory ∧ pair 0 32 ∉ fullHistory.bkt.history ∧
      fullHistory.bkt.history.length = 512 ∧
      fullHistory.bkt.history = { series := be2 0, episode := [65] } :: fullHistory.bkt.history.drop 1) := by
  refine ⟨?_, ?_, ?_⟩ <;> decide +kernel

theorem witness_HistoryPairs_removed :
    (Msg (0 :: beHist (pair 1 33)) guided ∧ parseAll pHistDrop (0 :: beHist (pair 1 33)) = .ok (.pair (pair 1 33))) ∧
    (Msg (0 :: beHist (pair 32 1)) guided ∧ parseAll pHistDrop (0 :: beHist (pair 32 1)) = .ok (.pair (pair 32 1))) ∧
    (Msg (1 :: beRef (pair 33 1).series) guided ∧
      parseAll pHistDrop (1 :: beRef (pair 33 1).series) = .ok (.series (pair 33 1).series)) ∧
    (Msg (1 :: beRef []) guided ∧ parseAll pHistDrop (1 :: beRef []) = .ok (.series [])) := by
  refine ⟨?_, ?_, ?_, ?_⟩ <;> decide +kernel

theorem witness_OutcomeTake :
    (Msg (be2 9) planned ∧ parseAll pU16 (be2 9) = .ok 9 ∧ findInst 9 planned = none) ∧
    (Msg (be2 5) planned ∧ parseAll pU16 (be2 5) = .ok 5 ∧ findInst 5 planned = some (anInst .planned) ∧
      isTerminal (anInst .planned).state = false) ∧
    (let s := holding (anInst .missed) awake; Msg (be2 5) s ∧ findInst 5 s = some (anInst .missed) ∧
      isTerminal (anInst .missed).state = true ∧ DistinctIds s) := by
  refine ⟨?_, ?_, ?_⟩ <;> decide +kernel

theorem witness_Install :
    (inPass planned).pln.passState = .pass ∧ (inPass planned).pln.snapshot = some (snapshotOf planned) ∧
    planned.pln.passState = .idle := by decide +kernel

/-- The event 500 s ahead, booked, in the first pass. -/
def firstPass : State := inPass (withRecs [{ aRec with start := 100500 }] (booked aBooking awake))

theorem witness_InstallWritesThePlan_first :
    let r : GuideRec := { aRec with start := 100500 }
    let sn := snapshotOf (withRecs [r] (booked aBooking awake))
    firstPass.pln.passState = .pass ∧ firstPass.pln.snapshot = some sn ∧ sn.bookings = [aBooking] ∧
    firstPass.bkt.bookings = [aBooking] ∧ aBooking.bstate = .active ∧ sn.guide = [r] ∧ r.key = key ∧
    sn.insts = [] ∧ firstPass.lst.insts = [] ∧ sn.claims = [] ∧ firstPass.run.claims = [] ∧
    sn.now + 60 < r.start + r.dur ∧ (paddedWindow sn.now r aBooking).ws + 60 ≤ (paddedWindow sn.now r aBooking).we ∧
    firstPass.clk.count < (paddedWindow sn.now r aBooking).ws := by decide +kernel

theorem witness_InstallWritesThePlan_booking : aBooking.part =
    .event key { mux := 20, start := 100100, dur := 1800, series := some [65], episode := some [66] } false := rfl

/-- Claims on both tuners, of which the one on tuner A yields to the recording that the install creates. -/
theorem witness_InstallWritesThePlan_yields :
    let s := inPass (claim [aClaim 1 .a 30, aClaim 2 .b 31] firstPass)
    s.pln.passState = .pass ∧ s.pln.snapshot = some (snapshotOf (claim [aClaim 1 .a 30, aClaim 2 .b 31] firstPass)) ∧
    ∃ t, exec .install s = .next t ∧ t.run.claims.map (fun c => c.yieldTo) = [some 1, none] := by
  refine ⟨by decide +kernel, by decide +kernel, _, rfl, by decide +kernel⟩

/-- A plan of one recording whose booking was suspended before the pass. -/
theorem witness_InstallWritesThePlan_suspended :
    let s := inPass { planned with bkt := { planned.bkt with bookings := [{ aBooking with bstate := .suspended }] } }
    s.pln.passState = .pass ∧ s.pln.snapshot ≠ none ∧
    (∀ sn ∈ s.pln.snapshot, (sn.bookings.map (fun b => b.id)).Nodup ∧ ∀ b ∈ sn.bookings, b.bstate = .suspended) ∧
    ∃ t, exec .install s = .next t := by
  refine ⟨by decide +kernel, by decide +kernel, by decide +kernel, _, rfl⟩

/-- Two recordings past their windows in overrun, one on each tuner, and an event that one of them must make room for. -/
def overrunPass : State :=
  let j : Inst := { anInst .recording with
    id := 6, booking := 2, mux := 30, start := 98000, dur := 2000, window := some { ws := 98000, we := 100000 }
    planPriority := some 3, overrun := some 110000, stopAt := some .opened }
  let s := onTuners [j, { j with id := 7, tuner := some .b }] [6] [7] awake
  let b : Booking := { aBooking with id := 2, part := .series [90] none false, priority := 3 }
  inPass { s with gst := { recs := [{ aRec with start := 100200 }] }
                  bkt := { s.bkt with bookings := [aBooking, b] }
                  run := { s.run with tunerA := { s.run.tunerA with mux := some 30 }
                                      tunerB := { s.run.tunerB with mux := some 30 } } }

theorem witness_InstallWritesThePlan_cuts : overrunPass.pln.passState = .pass ∧ overrunPass.pln.snapshot ≠ none ∧
    ∃ t, exec .install overrunPass = .next t ∧ (t.lst.insts.map (fun i => (i.id, i.cutBy))) =
      [(6, some 20), (7, none), (20, none)] := by
  refine ⟨by decide +kernel, by decide +kernel, _, rfl, by decide +kernel⟩

/-- R50, R109, R133: the recording of a booking deleted during the pass takes no cut mark and keeps the one it has; on one
of a booking that is held, or that was deleted before the snapshot, the mark is cleared. -/
theorem test_deleted_booking_keeps_its_mark :
    let w : Work := { fixed := [], claims := [], placed := [], lost := [], displaced := [], records := [] }
    let s := holding { anInst .stopping with cutBy := some 9 } awake
    let gone := { s with bkt := { s.bkt with bookings := [] } }
    let marks (p u : State) := (writeCuts (snapshotOf p) w [] u).lst.insts.map (fun j => j.cutBy)
    marks s s = [none] ∧ marks s gone = [some 9] ∧ marks gone gone = [none] := by
  decide +kernel

/-- A recording that is stopping, marked, its booking deleted before the pass: the install clears the mark (R109). -/
theorem witness_InstallWritesThePlan_deletedBefore :
    let s := holding { anInst .stopping with cutBy := some 9 } (active awake)
    let u := inPass { s with bkt := { s.bkt with bookings := [] } }
    u.pln.passState = .pass ∧ (∃ t, exec .install u = .next t ∧
      t.lst.insts.map (fun j => (j.id, j.state, j.cutBy)) = [(5, .stopping, none)]) := by
  refine ⟨by decide +kernel, _, rfl, by decide +kernel⟩

/-- The plan of one recording, before and in a pass. -/
theorem witness_PlanKept : PlanKept planned ∧ PlanKept (inPass planned) := by
  have few (u : Tuner) (m : Nat) : (planned.lst.insts.filter (plannedAt u m)).length ≤ 4 :=
    (List.length_filter_le _ _).trans (by decide)
  have well : ∀ i ∈ planned.lst.insts, i.state = .planned → PlannedWell i := by
    intro i h _
    cases List.mem_singleton.mp h
    exact ⟨by decide, by decide, by decide, by decide, _, rfl, by decide⟩
  refine ⟨⟨?_, ?_, ?_, well, ?_, few⟩, ?_, ?_, ?_, well, ?_, few⟩ <;> decide +kernel

theorem witness_PlanKept_twoTimes :
    PlannedWell (anInst .planned) ∧ plannedAt .a 100000 (anInst .planned) = true ∧
    plannedAt .a 102200 (anInst .planned) = false :=
  ⟨⟨by decide, by decide, by decide, by decide, _, rfl, by decide⟩, by decide, by decide⟩

theorem witness_ListKept : ListKept State.reset ∧ ListKept (inPass everyState) := by
  refine ⟨?_, ?_⟩ <;> decide +kernel

/-- A series of one event asks for its one creation. -/
theorem witness_ExpansionKeepsTheBoundOfTwelve :
    ((expandBooking (snapshotOf (withRecs [aRec] (booked { aBooking with part := .series [65] none true } awake)))
      { aBooking with part := .series [65] none true }).map (fun r => r.creations.length)) = some 1 := by decide +kernel

/-! ### Run Control -/

def windowed (s : State) : State := due (.windowStart 5) s

theorem witness_WindowStart :
    (let s := windowed (at_ 101900 planned); Settled s ∧ DistinctIds s ∧ NotActive 5 s ∧ Delivered (.windowStart 5) s ∧
      findInst 5 s = some (anInst .planned) ∧ (tunerRun .a s).mon ≠ .gap ∧
      min (102200 - 60) (100100 + 1800) ≤ s.clk.count) ∧
    (let s := windowed (at_ 101899 (host .waking planned)); Settled s ∧ DistinctIds s ∧ NotActive 5 s ∧
      Delivered (.windowStart 5) s ∧ findInst 5 s = some (anInst .planned) ∧ (tunerRun .a s).mon ≠ .gap ∧
      s.clk.count < min (102200 - 60) (100100 + 1800) ∧ s.wsv.host ≠ .awake) ∧
    (let s := windowed planned; Settled s ∧ DistinctIds s ∧ NotActive 5 s ∧ Delivered (.windowStart 5) s ∧
      findInst 5 s = some (anInst .planned) ∧ (tunerRun .a s).mon ≠ .gap ∧ s.wsv.host = .awake ∧
      freeFor .a (anInst .planned) s = true) ∧
    (let s := windowed planned; s.clk.count < min (102200 - 60) (100100 + 1800) ∧
      (∀ j ∈ s.lst.insts, j.cutBy ≠ some 5) ∧ (∀ c ∈ s.run.claims, c.yieldTo ≠ some 5) ∧ s.clk.count ≤ 100000) := by
  refine ⟨?_, ?_, ?_, ?_⟩ <;> decide +kernel

/-- What a start attempt of the recording asks. -/
theorem attempts {s : State}
    (h : Settled s ∧ DistinctIds s ∧ NotActive 5 s ∧ Delivered (.windowStart 5) s ∧
      findInst 5 s = some (anInst .planned) ∧ s.clk.count < 101900 ∧ s.wsv.host = .awake ∧ NobodyWaits s)
    (ha : (tunerRun .a s).mon ≠ .gap) (hb : (tunerRun .b s).mon ≠ .gap) :
    Attempts 5 (anInst .planned) { ws := 100000, we := 102200 } .a s :=
  ⟨h.1, h.2.1, h.2.2.1, h.2.2.2.1, h.2.2.2.2.1, rfl, rfl, rfl, rfl, all_tuners ha hb, h.2.2.2.2.2.1,
    h.2.2.2.2.2.2.1, h.2.2.2.2.2.2.2⟩

/-- A recording of priority 3 in overrun past its window, on another multiplex. -/
def inTheWay (st : InstState) : Inst :=
  { anInst st with
    id := 6, booking := 2, mux := 30, start := 98000, dur := 1900, window := some { ws := 98000, we := 99900 }
    planPriority := some 3, overrun := some 110000, stopAt := some .opened
    segments := [{ start := 98000, stop := none }] }

def atB (i : Inst) : Inst := { i with id := 7, tuner := some .b }

/-- The recording is to start while others hold the tuners. -/
def blocked (js : List Inst) (a b : List Nat) (s : State) : State :=
  let u := onTuners (anInst .planned :: js) a b s
  windowed { u with run := { u.run with
    tunerA := { u.run.tunerA with mux := u.run.tunerA.mux.map (fun _ => 30) }
    tunerB := { u.run.tunerB with mux := u.run.tunerB.mux.map (fun _ => 30) } } }

def stoppingInst : Inst :=
  { inTheWay .stopping with overrun := none, stopAt := none, stopReason := some .stopMoment }

def waits : State := blocked [stoppingInst] [6] [] awake
def swaps : State := blocked [inTheWay .recording] [6] [] awake
def cuts : State := blocked [inTheWay .recording, atB (inTheWay .recording)] [6] [7] awake
def revokes : State := windowed (claim [aClaim 1 .a 30, aClaim 2 .b 30] planned)
def outranked : State := windowed (claim [{ aClaim 1 .a 30 with priority := 4 }, aClaim 2 .b 30] planned)

theorem witness_BusyTuner_attempts :
    (∀ s ∈ [waits, swaps, cuts, revokes, outranked], Attempts 5 (anInst .planned) { ws := 100000, we := 102200 } .a s) := by
  intro s h
  simp only [List.mem_cons, List.not_mem_nil, or_false] at h
  rcases h with rfl | rfl | rfl | rfl | rfl <;> refine attempts ?_ ?_ ?_ <;> decide +kernel

theorem witness_BusyTuner :
    (∀ s ∈ [waits, swaps, cuts, revokes, outranked], freeFor .a (anInst .planned) s = false ∧
      (∀ j ∈ s.lst.insts, j.cutBy ≠ some 5) ∧ (∀ c ∈ s.run.claims, c.yieldTo ≠ some 5) ∧ s.clk.count ≤ 100000) ∧
    (obstacles .a (anInst .planned) waits = [stoppingInst] ∧ claimObstacles .a (anInst .planned) waits = []) ∧
    (obstacles .a (anInst .planned) swaps = [inTheWay .recording] ∧ freeFor .b (anInst .planned) swaps = true) ∧
    (obstacles .a (anInst .planned) cuts = [inTheWay .recording] ∧ claimObstacles .a (anInst .planned) cuts = [] ∧
      freeFor .b (anInst .planned) cuts = false ∧ Cuttable (anInst .planned) (inTheWay .recording) cuts) ∧
    (obstacles .a (anInst .planned) revokes = [] ∧ (tunerRun .a revokes).active.length < 4 ∧
      claimObstacles .a (anInst .planned) revokes = [aClaim 1 .a 30] ∧ freeFor .b (anInst .planned) revokes = false ∧
      (aClaim 1 .a 30).priority < planPrio (anInst .planned)) ∧
    (claimObstacles .a (anInst .planned) outranked = [{ aClaim 1 .a 30 with priority := 4 }] ∧
      freeFor .b (anInst .planned) outranked = false ∧ planPrio (anInst .planned) ≤ 4) := by
  refine ⟨?_, ?_, ?_, ?_, ?_, ?_⟩ <;> decide +kernel

def lateStart : State := at_ 100101 (windowed planned)
def cutHandover : State := blocked [{ inTheWay .recording with planPriority := some 7, cutBy := some 5 }] [6] [] awake
def yielding : Claim := { aClaim 1 .a 30 with priority := 7, yieldTo := some 5 }
def yieldHandover : State := windowed (claim [yielding] planned)

theorem witness_LateStarts_attempts :
    (∀ s ∈ [lateStart, cutHandover, yieldHandover],
      Attempts 5 (anInst .planned) { ws := 100000, we := 102200 } .a s) := by
  intro s h
  simp only [List.mem_cons, List.not_mem_nil, or_false] at h
  rcases h with rfl | rfl | rfl <;> refine attempts ?_ ?_ ?_ <;> decide +kernel

theorem witness_LateStarts :
    (freeFor .a (anInst .planned) lateStart = true ∧ (∀ j ∈ lateStart.lst.insts, j.cutBy ≠ some 5) ∧
      (∀ c ∈ lateStart.run.claims, c.yieldTo ≠ some 5) ∧ 100000 < lateStart.clk.count ∧
      (anInst .planned).start < lateStart.clk.count) ∧
    (findInst 6 cutHandover = some { inTheWay .recording with planPriority := some 7, cutBy := some 5 } ∧
      (inTheWay .recording).mux ≠ (anInst .planned).mux ∧
      (∀ x ∈ cutHandover.lst.insts, x.cutBy = some 5 → x.id = 6) ∧ (tunerRun .a cutHandover).active = [6] ∧
      cutHandover.run.claims = []) ∧
    (yieldHandover.run.claims = [yielding] ∧ freeFor .a (anInst .planned) (withoutClaims yieldHandover) = true ∧
      (∀ j ∈ yieldHandover.lst.insts, j.cutBy ≠ some 5) ∧ yieldHandover.clk.count ≤ 100000) := by
  refine ⟨?_, ?_, ?_⟩ <;> decide +kernel

def heldInst : Inst := { anInst .planned with startHeld := true }

/-- A held start behind one that is stopping, late and not late. -/
def retrying (t : Nat) : State :=
  let s := onTuners [heldInst, stoppingInst] [6] [] (at_ t awake)
  { s with run := { s.run with tunerA := { s.run.tunerA with mux := some 30 } } }

theorem witness_LateStarts_retried :
    (∀ t ∈ [100100, 100101], Msg [0, 6, 2] (retrying t) ∧ DistinctIds (retrying t) ∧
      (retrying t).wsv.host = .awake ∧ findInst 6 (retrying t) = some stoppingInst ∧
      stoppingInst.stopReason ≠ some .abandoned ∧ (tunerRun .a (retrying t)).active = [6] ∧
      6 ∉ (tunerRun .b (retrying t)).active ∧ (tunerRun .a (retrying t)).mon ≠ .gap ∧
      (tunerRun .b (retrying t)).mon ≠ .gap ∧ findInst 5 (retrying t) = some heldInst ∧
      (∀ k ∈ (retrying t).lst.insts, k.id ≠ 5 → k.state ≠ .interrupted ∧
        ¬ (k.state = .planned ∧ k.startHeld = true)) ∧
      (∀ k ∈ (retrying t).lst.insts, k.cutBy ≠ some 5) ∧ (retrying t).run.claims = []) ∧
    parseAll pReport [0, 6, 2] = .ok (6, .stopped) := by decide +kernel

theorem witness_CoreEndAndHeldLimit :
    (let s := due (.coreEnd 5) (holding (anInst .pending) (at_ 101900 awake)); Settled s ∧ DistinctIds s ∧
      NotActive 5 s ∧ findInst 5 s = some (anInst .pending) ∧ Delivered (.coreEnd 5) s) ∧
    (let s := due (.coreEnd 5) (holding (anInst .planned) (at_ 101900 awake)); Settled s ∧ DistinctIds s ∧
      NotActive 5 s ∧ findInst 5 s = some (anInst .planned) ∧ Delivered (.coreEnd 5) s) ∧
    (let s := due (.heldLimit 5) (due (.coreEnd 5) (holding heldInst (at_ 101900 awake))); Settled s ∧ DistinctIds s ∧
      NotActive 5 s ∧ findInst 5 s = some heldInst ∧ Delivered (.coreEnd 5) s ∧ Delivered (.heldLimit 5) s) ∧
    (∀ t, (tunerRun t (due (.heldLimit 5) (due (.coreEnd 5) (holding heldInst (at_ 101900 awake))))).mon ≠ .gap) := by
  refine ⟨?_, ?_, ?_, all_tuners ?_ ?_⟩ <;> decide +kernel

/-- A claim yields to the recording that its core end makes MISSED. -/
theorem witness_CoreEndAndHeldLimit_yield :
    let c : Claim := { aClaim 2 .b 21 with yieldTo := some 5 }
    let s := due (.coreEnd 5) (due (.yieldWarning 2) (claim [c] (holding (anInst .planned) (at_ 101900 awake))))
    Settled s ∧ DistinctIds s ∧ NotActive 5 s ∧ findInst 5 s = some (anInst .planned) ∧ Delivered (.coreEnd 5) s ∧
    c ∈ s.run.claims ∧ c.yieldTo = some 5 ∧ (heldDue (.yieldWarning 2) s).isSome = true := by decide +kernel

/-- The same with an overrun up to 112,700. -/
def overrunInst (st : InstState) : Inst := { onAir st with overrun := some 112700, stopAt := some .opened }

/-- One recording active on tuner A. -/
def airing (i : Inst) (t : Nat) : State := active (holding i (at_ t awake))

theorem witness_OverrunBegins :
    let s := due (.coreEnd 5) (airing (onAir .recording) 101900)
    Settled s ∧ DistinctIds s ∧ Delivered (.coreEnd 5) s ∧ findInst 5 s = some (onAir .recording) ∧
    findBooking 1 s = some aBooking ∧ aBooking.follow = true ∧ 0 < s.run.overrunLimit ∧
    recOf key s.gst.recs = some aRec ∧ aRec.status = .running := by decide +kernel

theorem witness_OverrunDoesNotBegin :
    let s := due (.coreEnd 5) (withRecs [{ aRec with status := .startsSoon }] (airing (onAir .starting) 101900))
    (Settled s ∧ DistinctIds s ∧ Delivered (.coreEnd 5) s ∧ findInst 5 s = some (onAir .starting)) ∧
    ∀ k r, (onAir .starting).origin = .event k → recOf k s.gst.recs = some r → r.status ≠ .running ∧ r.status ≠ .pausing := by
  refine ⟨by decide +kernel, ?_⟩
  rintro k r ⟨⟩ h
  cases (show recOf key _ = some { aRec with status := .startsSoon } by decide +kernel).symm.trans h
  decide

theorem witness_OverrunEnds :
    let s := airing (overrunInst .recording) 112699
    Settled s ∧ DistinctIds s ∧ Takes (beKey key ++ [2]) s ∧
    parseAll pEventStatus (beKey key ++ [2]) = .ok (key, runStatusNum .startsSoon) ∧
    recOf key s.gst.recs = some aRec ∧ aRec.status ≠ .startsSoon ∧ findInst 5 s = some (overrunInst .recording) ∧
    (∀ j ∈ s.lst.insts, j.id ≠ 5 → j.overrun = none) ∧ s.clk.count < min (s.clk.count + 300) 112700 := by
  decide +kernel

theorem witness_StopMomentAndCap :
    (let s := due (.stopMoment 5) (airing (onAir .recording) 102200); Settled s ∧ DistinctIds s ∧
      findInst 5 s = some (onAir .recording) ∧ (tunerRun .a s).mon ≠ .gap ∧ Delivered (.stopMoment 5) s) ∧
    (let s := due (.overrunCap 5) (airing (overrunInst .recording) 112700); Settled s ∧ DistinctIds s ∧
      findInst 5 s = some (overrunInst .recording) ∧ (tunerRun .a s).mon ≠ .gap ∧ Delivered (.overrunCap 5) s) ∧
    (let s := due (.stopMoment 5) (airing (onAir .starting) 102200); Settled s ∧ DistinctIds s ∧
      findInst 5 s = some (onAir .starting) ∧ (tunerRun .a s).mon ≠ .gap ∧ Delivered (.stopMoment 5) s) ∧
    (let s := due (.overrunCap 5) (airing (overrunInst .starting) 112700); Settled s ∧ DistinctIds s ∧
      findInst 5 s = some (overrunInst .starting) ∧ (tunerRun .a s).mon ≠ .gap ∧ Delivered (.overrunCap 5) s) := by
  refine ⟨?_, ?_, ?_, ?_⟩ <;> decide +kernel

def ending (r : StopReason) : Inst := { onAir .stopping with stopReason := some r, stopAt := none }

theorem witness_ConfirmTimeouts :
    (let s := running (.startConfirm 5) 163834 (airing (onAir .starting) 101000); Settled s ∧ DistinctIds s ∧
      NobodyWaits s ∧ findInst 5 s = some (onAir .starting) ∧ (tunerRun .a s).mon ≠ .gap ∧
      5 ∈ (tunerRun .a s).active ∧ 5 ∉ (tunerRun .b s).active ∧ Elapses (.startConfirm 5) s) ∧
    (let s := running (.stopConfirm 5) 0 (airing (ending .abandoned) 101000); Settled s ∧ DistinctIds s ∧
      NobodyWaits s ∧ findInst 5 s = some (ending .abandoned) ∧ (tunerRun .a s).mon ≠ .gap ∧
      5 ∈ (tunerRun .a s).active ∧ 5 ∉ (tunerRun .b s).active ∧ Elapses (.stopConfirm 5) s) := by
  refine ⟨?_, ?_⟩ <;> decide +kernel

theorem witness_StartedReport :
    (Msg [0, 5, 0] awake ∧ DistinctIds awake ∧ parseAll pReport [0, 5, 0] = .ok (5, .started) ∧
      findInst 5 awake = none) ∧
    (let s := holding (anInst .cancelled) awake; Msg [0, 5, 0] s ∧ DistinctIds s ∧
      findInst 5 s = some (anInst .cancelled) ∧ (anInst .cancelled).state = .cancelled) ∧
    (let s := airing (onAir .recording) 101000; Msg [0, 5, 0] s ∧ DistinctIds s ∧
      findInst 5 s = some (onAir .recording)) ∧
    (let s := airing (onAir .starting) 102199; Msg [0, 5, 0] s ∧ DistinctIds s ∧
      findInst 5 s = some (onAir .starting) ∧ (onAir .starting).outcome = none ∧ (tunerRun .a s).mon = .off ∧
      (tunerRun .a s).grace = none ∧ s.clk.count < 102200) ∧
    (let s := airing (onAir .starting) 102200; Msg [0, 5, 0] s ∧ DistinctIds s ∧
      findInst 5 s = some (onAir .starting) ∧ (tunerRun .a s).mon ≠ .gap ∧ 102200 ≤ s.clk.count) := by
  refine ⟨?_, ?_, ?_, ?_, ?_⟩ <;> decide +kernel

theorem witness_StartedReport_givenUp : GaveUp (anInst .cancelled) ∧ ¬ GaveUp (onAir .recording) :=
  ⟨.inl rfl, by rintro (h | ⟨h, -⟩) <;> exact absurd h (by decide)⟩

/-- What the statement about the two ending reports asks. -/
abbrev Ends (i : Inst) (p : List Byte) (s : State) : Prop :=
  Settled s ∧ DistinctIds s ∧ NobodyWaits s ∧ Takes p s ∧ findInst 5 s = some i ∧ i.outcome = none ∧
    i.tuner = some .a ∧ (tunerRun .a s).mon ≠ .gap ∧ 5 ∈ (tunerRun .a s).active ∧ 5 ∉ (tunerRun .b s).active

theorem witness_FailedAndStoppedReports :
    (Ends (onAir .starting) [0, 5, 1, 0] (airing (onAir .starting) 101000) ∧
      parseAll pReport [0, 5, 1, 0] = .ok (5, .startFailed 0)) ∧
    (Ends (onAir .starting) [0, 5, 1, 9] (airing (onAir .starting) 101000) ∧
      parseAll pReport [0, 5, 1, 9] = .ok (5, .startFailed 9)) ∧
    (Ends (ending .abandoned) [0, 5, 2] (airing (ending .abandoned) 101000) ∧
      parseAll pReport [0, 5, 2] = .ok (5, .stopped)) ∧
    (Ends (onAir .recording) [0, 5, 2] (airing (onAir .recording) 102199) ∧
      (airing (onAir .recording) 102199).clk.count < 102200) ∧
    (Ends (onAir .recording) [0, 5, 2] (airing (onAir .recording) 102200) ∧
      102200 ≤ (airing (onAir .recording) 102200).clk.count) := by
  refine ⟨?_, ?_, ?_, ?_, ?_⟩ <;> decide +kernel

/-- A recording that ends DONE with 899 and with 900 per-mille, one of which enters the history; its booking is SPENT in
both. -/
theorem witness_HandedDone :
    (∀ t ∈ [101719, 101720], Ends (onAir .recording) [0, 5, 2] (airing (onAir .recording) t)) ∧
    (let after := fun (t : Nat) => doneTable (finished .done .hostStop none t (onAir .recording))
        (airing (onAir .recording) t);
      (after 101719).history = [] ∧ (after 101720).history = [{ series := [65], episode := [66] }] ∧
      (after 101719).bookings.map (fun b => b.bstate) = [.spent]) := by
  refine ⟨?_, ?_⟩ <;> decide +kernel

def claimPayload (id : Option Nat) (t m p : Nat) : List Byte := beOpt be1 id ++ be1 t ++ be2 m ++ be1 p
def claimMsg (id : Option Nat) (t m p : Nat) : ClaimMsg := { claim := id, tuner := t, mux := m, priority := p }
def claimA : Claim := aClaim 1 .a 20
def claimB : Claim := { aClaim 2 .b 21 with yieldTo := some 5 }

theorem witness_Claims_new :
    (Msg (claimPayload none 0 20 8) awake ∧
      parseAll pClaim (claimPayload none 0 20 8) = .ok (claimMsg none 0 20 8) ∧ awake.wsv.host = .awake ∧
      ∀ c ∈ awake.run.claims, c.id ≠ 1) ∧
    (Msg (claimPayload none 0 20 8) (host .standby awake) ∧ (host .standby awake).wsv.host ≠ .awake) ∧
    (let s := claim [claimA, claimB] awake; Msg (claimPayload none 0 20 8) s ∧ (∃ c ∈ s.run.claims, c.id = 1) ∧
      ∃ c ∈ s.run.claims, c.id = 2) ∧
    (let s := claim [claimA] awake; Msg (claimPayload none 0 20 8) s ∧ (∃ c ∈ s.run.claims, c.id = 1) ∧
      ∀ c ∈ s.run.claims, c.id ≠ 2) := by
  refine ⟨?_, ?_, ?_, ?_⟩ <;> decide +kernel

theorem witness_Claims_refused :
    (Msg (claimPayload none 2 20 3) awake ∧ parseAll pClaim (claimPayload none 2 20 3) = .ok (claimMsg none 2 20 3)) ∧
    (Msg (claimPayload (some 1) 1 0 3) awake ∧
      parseAll pClaim (claimPayload (some 1) 1 0 3) = .ok (claimMsg (some 1) 1 0 3)) ∧
    (Msg (claimPayload (some 1) 0 20 3) (host .waking awake) ∧ NobodyWaits (host .waking awake) ∧
      (host .waking awake).wsv.host ≠ .awake) := by
  refine ⟨?_, ?_, ?_⟩ <;> decide +kernel

theorem witness_Claims_changeBlocked :
    let s := claim [claimA, aClaim 2 .a 20] awake
    Msg (claimPayload (some 1) 0 22 3) s ∧ s.run.claims.find? (fun c => c.id == 1) = some claimA ∧
    ∃ c ∈ s.run.claims, c.tuner = .a ∧ c.mux ≠ 22 ∧ some c.id ≠ some 1 := by decide +kernel

theorem witness_Claims_blocked : ClaimBlocked none .a 22 (claim [claimA] awake) :=
  .inr ⟨claimA, by decide, by decide⟩

theorem witness_Claims_free : ¬ ClaimBlocked none .a 20 awake ∧ ¬ ClaimBlocked none .a 20 (claim [claimA] awake) ∧
    ¬ ClaimBlocked none .a 20 (claim [claimA, claimB] awake) ∧ ¬ ClaimBlocked (some 1) .a 20 (claim [claimA] awake) ∧
    ¬ ClaimBlocked (some 1) .a 22 (claim [claimA] awake) := by
  refine ⟨?_, ?_, ?_, ?_, ?_⟩ <;> decide +kernel

theorem witness_Claims_changed :
    let s := claim [claimA] awake
    (Msg (claimPayload (some 9) 0 20 3) s ∧ NobodyWaits s ∧
      parseAll pClaim (claimPayload (some 9) 0 20 3) = .ok (claimMsg (some 9) 0 20 3) ∧
      ∀ c ∈ s.run.claims, c.id ≠ 9) ∧
    (Msg (claimPayload (some 1) 0 20 3) s ∧
      parseAll pClaim (claimPayload (some 1) 0 20 3) = .ok (claimMsg (some 1) 0 20 3) ∧ s.wsv.host = .awake ∧
      s.run.claims.find? (fun c => c.id == 1) = some claimA ∧
      claimA.tuner = .a ∧ claimA.mux = 20 ∧ claimA.priority = min 7 3) ∧
    (Msg (claimPayload (some 1) 0 22 3) s ∧
      parseAll pClaim (claimPayload (some 1) 0 22 3) = .ok (claimMsg (some 1) 0 22 3) ∧ claimA.mux ≠ 22) := by
  refine ⟨?_, ?_, ?_⟩ <;> decide +kernel

theorem witness_Claims_released :
    let s := claim [claimA] awake
    Msg [1] s ∧ NobodyWaits s ∧ parseAll pU8 [1] = .ok 1 ∧ (∃ c ∈ s.run.claims, c.id = 1) ∧
    Msg [2] s ∧ parseAll pU8 [2] = .ok 2 ∧ ∀ c ∈ s.run.claims, c.id ≠ 2 := by decide +kernel

theorem witness_YieldWarningAndWindowClose_yield :
    (let s := due (.yieldWarning 2) (claim [claimB] awake); Settled s ∧ Delivered (.yieldWarning 2) s ∧
      s.run.claims.find? (fun x => x.id == 2) = some claimB ∧ claimB.yieldTo = some 5) ∧
    (let s := due (.yieldWarning 1) (claim [claimA] awake); Settled s ∧ Delivered (.yieldWarning 1) s ∧
      s.run.claims.find? (fun x => x.id == 1) = some claimA ∧ claimA.yieldTo = none) := by
  refine ⟨?_, ?_⟩ <;> decide +kernel

def onAirA : State := airing (onAir .recording) 100105

/-- A tick is about to come on tuner A. -/
def ticking (m : MonState) (tol : Nat) (drop : Option Nat) : State :=
  running (.lockTick .a) 163834 (monitor .a m tol drop onAirA)

theorem witness_LockMonitor_grace :
    (let s := due (.graceEnd .a) onAirA; Settled s ∧ Delivered (.graceEnd .a) s ∧
      ∃ i ∈ s.lst.insts, i.state = .recording ∧ i.tuner = some .a) ∧
    (let s := due (.graceEnd .b) onAirA; Settled s ∧ Delivered (.graceEnd .b) s ∧
      ∀ i ∈ s.lst.insts, ¬ (i.state = .recording ∧ i.tuner = some .b)) := by
  refine ⟨?_, ?_⟩ <;> decide +kernel

theorem witness_LockMonitor_tick :
    let d : DelayReq := { kind := .lockTick .a, left := 163834 }
    (∀ m ∈ [(MonState.watching, 0, none), (.dropping, 2, some 1001010), (.dropping, 1, some 1001010),
        (.gap, 0, some 1001010)],
      let s := ticking m.1 m.2.1 m.2.2
      Settled s ∧ heldDelay (.lockTick .a) s = some d ∧ s.clk.sub + d.left < Config.unitsPerSecond ∧
        (tunerRun .a s).mon = m.1 ∧ (tunerRun .a s).tol = m.2.1 ∧ (tunerRun .a s).drop = m.2.2) := by
  decide +kernel

/-- The closing of a gap: the share inside the core and inside the open segment, the last tenth of the core, and nothing
behind it; the threshold met at the last count the counter reaches, and not past it. -/
theorem witness_LockMonitor_gap :
    let s := ticking .gap 0 (some 1001010)
    let counted := fun (n : Nat) => withGap .a (fun g => { g with count := n, threshold := 65535 }) s
    (DistinctIds s ∧ RecordingOn .a (onAir .recording) ∧ onAir .recording ∈ s.lst.insts) ∧
    gapShare 1001010 1001059 (onAir .recording) = 49 ∧ gapShare 1018999 1019009 (onAir .recording) = 1 ∧
    gapShare 1019000 1019009 (onAir .recording) = 0 ∧
    NamesCharged .a 1001010 1001059 s (some 5) ∧
    (gapAdvanced .a (counted 65534)).lnk.notices.length = 1 ∧ (gapAdvanced .a (counted 65535)).lnk.notices = [] := by
  refine ⟨?_, ?_, ?_, ?_, ⟨?_, nofun⟩, ?_, ?_⟩
  · decide +kernel
  · decide +kernel
  · decide +kernel
  · decide +kernel
  · rintro n ⟨⟩; exact .inr ⟨onAir .recording, by decide +kernel⟩
  · decide +kernel
  · decide +kernel

theorem witness_LockAbandon :
    (let s := due (.abandon .a) (monitor .a .gap 0 (some 1001010) onAirA); Settled s ∧ DistinctIds s ∧
      Delivered (.abandon .a) s ∧ (tunerRun .a s).mon = .gap) ∧
    (let s := due (.abandon .b) onAirA; Settled s ∧ DistinctIds s ∧ Delivered (.abandon .b) s ∧
      (tunerRun .b s).mon ≠ .gap) := by
  refine ⟨?_, ?_⟩ <;> decide +kernel

def interruptedInst : Inst :=
  { anInst .interrupted with runEnd := some 102200, segments := [{ start := 100000, stop := some 100500 }] }

theorem witness_YieldWarningAndWindowClose_close :
    (let s := due (.windowClose 5) (holding interruptedInst (at_ 102140 awake)); Settled s ∧ DistinctIds s ∧
      NotActive 5 s ∧ Delivered (.windowClose 5) s ∧ findInst 5 s = some interruptedInst ∧ (tunerRun .a s).mon ≠ .gap) ∧
    (let s := due (.windowClose 5) planned; Settled s ∧ DistinctIds s ∧ NotActive 5 s ∧ Delivered (.windowClose 5) s ∧
      findInst 5 s = some (anInst .planned) ∧ (tunerRun .a s).mon ≠ .gap) := by
  refine ⟨?_, ?_⟩ <;> decide +kernel

/-! ### The Wake Supervisor -/

/-- The keepalive interval is about to end. -/
def lapsing (s : State) : State := { s with clk := { s.clk with delays := [{ kind := .keepalive, left := 163834 }] } }

theorem witness_KeepaliveExpiry :
    let s := lapsing onAirA
    (Settled s ∧ DistinctIds s ∧ Elapses .keepalive s ∧ s.wsv.host = .awake) ∧ ∀ t, (tunerRun t s).mon ≠ .gap := by
  refine ⟨?_, all_tuners ?_ ?_⟩ <;> decide +kernel

/-- Something is active on a tuner, which goes idle, or which was idle; and one recording is STOPPING. -/
theorem witness_KeepaliveExpiry_work :
    (∀ i ∈ [onAir .starting, onAir .recording, overrunInst .recording, ending .stopMoment, ending .abandoned],
      let s := lapsing (airing i 101900)
      Settled s ∧ DistinctIds s ∧ Elapses .keepalive s ∧ s.wsv.host = .awake ∧ i ∈ s.lst.insts ∧ WithHost i ∧
      (tunerRun .a s).active = [i.id] ∧ (tunerRun .b s).active = [] ∧ (tunerRun .b s).mux = none) ∧
    (ending .stopMoment).state = .stopping ∧ (onAir .starting).state ≠ .stopping := by decide +kernel

def waking (n : Nat) (s : State) : State :=
  { s with wsv := { s.wsv with host := .waking, attempts := n, wakeOut := true, reason := .recording 5 } }

def standing : State :=
  let s := quiet (host .standby planned)
  { s with clk := { s.clk with dues := [{ kind := .wakeDue, time := 99880, delivered := true }] } }

theorem witness_WakeAttempts :
    (Settled standing ∧ Delivered .wakeDue standing ∧ standing.wsv.host = .standby ∧
      standing.lst.earliest = some 100000 ∧
      (∃ i ∈ standing.lst.insts, i.id = 5 ∧ i.state = .planned ∧ winStart i = 100000) ∧
      ∀ i ∈ standing.lst.insts, i.state = .planned → winStart i = 100000 → 5 ≤ i.id) ∧
    (let s := running .wakeTimeout 163834 (waking 2 awake); Settled s ∧ Elapses .wakeTimeout s ∧
      s.wsv.host = .waking ∧ s.wsv.attempts < 3) ∧
    (let s := running .wakeTimeout 163834 (waking 3 (quiet (at_ 99999 planned))); Settled s ∧ Elapses .wakeTimeout s ∧
      s.wsv.host = .waking ∧ 3 ≤ s.wsv.attempts ∧ s.lst.earliest = some 100000 ∧ s.clk.count < 100000) ∧
    (let s := running .resetPulse 163834 awake; Settled s ∧ Elapses .resetPulse s) := by
  refine ⟨?_, ?_, ?_, ?_⟩ <;> decide +kernel

theorem witness_Hello :
    (Msg [] (waking 1 planned) ∧
      ∀ i ∈ (waking 1 planned).lst.insts, isRunning i.state = false ∧ ¬ (i.state = .planned ∧ i.startHeld = true)) ∧
    (∀ t, (tunerRun t (waking 1 planned)).mon ≠ .gap) ∧
    (Msg [] (claim [claimA] awake) ∧ (claim [claimA] awake).run.claims ≠ [] ∧ awake.wsv.keepCode = some 4) ∧
    (∀ t, (tunerRun t (claim [claimA] awake)).mon ≠ .gap) := by
  refine ⟨?_, all_tuners ?_ ?_, ?_, all_tuners ?_ ?_⟩ <;> decide +kernel

def fourSegments (i : Inst) : Inst :=
  { i with segments := [⟨1, some 2⟩, ⟨3, some 4⟩, ⟨5, some 6⟩, ⟨100000, if i.state = .recording then none else some 7⟩] }

theorem witness_Hello_work :
    let after := fun (i : Inst) (s : State) => Msg [] s ∧ DistinctIds s ∧ findInst 5 s = some i ∧
      (∀ j ∈ s.lst.insts, j.id ≠ 5 → isRunning j.state = false ∧ ¬ (j.state = .planned ∧ j.startHeld = true)) ∧
      (tunerRun .a s).mon ≠ .gap ∧ (tunerRun .b s).mon ≠ .gap ∧ (tunerRun .b s).active = []
    (∀ t ∈ [102194, 102195], after interruptedInst (host .waking (holding interruptedInst (at_ t awake)))) ∧
    after (fourSegments interruptedInst) (host .waking (holding (fourSegments interruptedInst) (at_ 102194 awake))) ∧
    after (ending .stopMoment) (airing (ending .stopMoment) 101000) ∧
    after (overrunInst .recording) (airing (overrunInst .recording) 102200) ∧
    (∀ t ∈ [102194, 102195], after (onAir .recording) (airing (onAir .recording) t)) ∧
    after (fourSegments (onAir .recording)) (airing (fourSegments (onAir .recording)) 102194) ∧
    (∀ t ∈ [101894, 101895], after heldInst (host .waking (holding heldInst (at_ t awake))) ∧
      after heldInst (holding heldInst (at_ t awake))) := by
  refine ⟨?_, ?_, ?_, ?_, ?_, ?_, ?_⟩ <;> decide +kernel

theorem witness_Standby :
    (Msg [] (waking 1 awake) ∧ (waking 1 awake).wsv.host ≠ .awake) ∧
    (Msg [] (at_ 99820 planned) ∧ StandbyClear (at_ 99820 planned)) ∧
    (Msg [] (at_ 99821 planned) ∧ ¬ StandbyClear (at_ 99821 planned)) := by
  refine ⟨?_, ?_, ?_⟩ <;> decide +kernel

theorem witness_CausesCleared : Takes [] awake ∧ Takes [0] awake ∧ Takes [1] awake ∧ Takes [2] awake ∧
    2 ≤ (2 : Byte).toNat := by decide +kernel

/-! ### The Condition Log and the Link Port -/

def missedCond : Condition := { bank := .plan, cls := .hard, code := .missed, iid := some 5, booking := some 1 }
def softRec : CondRec := { cls := .soft, code := .padTrimmed, iid := none, booking := none, time := 7 }

theorem witness_Submission :
    hasClass (bankAt .plan awake.cnd).mask .hard = false ∧ (bankAt .plan awake.cnd).held = none ∧
    hasClass (bankAt .plan awake.cnd).enable .hard = true ∧ hasClass (bankAt .plan awake.cnd).enable .soft = false ∧
    (bankAt .plan (withBank .plan (fun b => { b with held := some softRec }) awake).cnd).held = some softRec ∧
    hasClass (bankAt .plan (withBank .plan (fun b =>
      { b with mask := { b.mask with hard := true } }) awake).cnd).mask .hard = true := by decide +kernel

def configMsg (b : Nat) (m : Option ClassSet) (t : Option Nat) : CondConfigMsg :=
  { bank := b, mask := m, enable := none, threshold := t }

theorem witness_Banks :
    (Takes [4, 0] awake ∧ parseAll pCondClear [4, 0] = .ok (bankNum .clock, false)) ∧
    (Takes [1, 1] awake ∧ parseAll pCondClear [1, 1] = .ok (bankNum .tunerB, true) ∧ BankId.tunerB = tunerBank .b) ∧
    (Takes [2, 1] awake ∧ parseAll pCondClear [2, 1] = .ok (bankNum .plan, true)) ∧
    (Takes [0, 0, 0, 0] awake ∧ parseAll pCondConfig [0, 0, 0, 0] = .ok (configMsg 0 none none)) ∧
    (Takes [3, 1, 5, 0, 0] awake ∧ parseAll pCondConfig [3, 1, 5, 0, 0] =
      .ok (configMsg (bankNum .wake) (some { soft := true, deferred := false, hard := true }) none)) ∧
    (Takes [0, 0, 0, 1, 255, 255] awake ∧
      parseAll pCondConfig [0, 0, 0, 1, 255, 255] = .ok (configMsg (bankNum .tunerA) none (some 65535))) ∧
    (Takes [4, 0, 0, 1, 0, 1] awake ∧
      parseAll pCondConfig [4, 0, 0, 1, 0, 1] = .ok (configMsg (bankNum .clock) none (some 1))) := by
  refine ⟨?_, ?_, ?_, ?_, ?_, ?_, ?_⟩ <;> decide +kernel

theorem witness_Banks_all :
    (Takes [255, 0] awake ∧ parseAll pCondClear [255, 0] = .ok (255, false)) ∧
    (Takes [255, 1] awake ∧ parseAll pCondClear [255, 1] = .ok (255, true)) ∧
    (Takes [255, 1, 5, 0, 0] awake ∧ parseAll pCondConfig [255, 1, 5, 0, 0] =
      .ok (configMsg 255 (some { soft := true, deferred := false, hard := true }) none)) ∧
    (Takes [255, 0, 0, 1, 0, 9] awake ∧
      parseAll pCondConfig [255, 0, 0, 1, 0, 9] = .ok (configMsg 255 none (some 9))) ∧
    (Takes [5, 0] awake ∧ parseAll pCondClear [5, 0] = .ok (5, false)) ∧
    (Takes [254, 0, 0, 1, 0, 9] awake ∧
      parseAll pCondConfig [254, 0, 0, 1, 0, 9] = .ok (configMsg 254 none (some 9))) := by
  refine ⟨?_, ?_, ?_, ?_, ?_, ?_⟩ <;> decide +kernel

theorem witness_NoticeFetch : Msg [] (quiet (submit missedCond awake)) ∧
    (quiet (submit missedCond awake)).lnk.notices.length = 1 := by decide +kernel

theorem witness_ConfigSet :
    (Msg (be1 9 ++ be4 5) planned ∧ parseAll (pItems 5) (be1 9 ++ be4 5) = .ok [(9, 5)] ∧
      planned.wsv.standbyWanted = false) ∧
    (Msg (be1 8 ++ be4 14401) planned ∧ parseAll (pItems 5) (be1 8 ++ be4 14401) = .ok [(8, 14401)]) ∧
    (Msg (be1 1 ++ be4 0) planned ∧ parseAll (pItems 5) (be1 1 ++ be4 0) = .ok [(1, 0)]) ∧
    (∀ t, (tunerRun t planned).mon ≠ .gap) := by
  refine ⟨?_, ?_, ?_, all_tuners ?_ ?_⟩ <;> decide +kernel

theorem witness_FramesJudged :
    (Takes [] awake ∧ frameCheck 0x11 7 [] + 1 ≠ frameCheck 0x11 7 []) ∧ (0x05 : Byte) ∉ catalogue ∧
    (8 ≤ ({ awake with lnk := { awake.lnk with inHand := 8 } } : State).lnk.inHand) ∧
    (ask (.requested .cold) awake).lnk.reset ≠ .none := by decide +kernel

theorem witness_FramesJudged_partial :
    (rxQuiet awake.lnk.rx [0x5A, 0, 1]).isSome = true ∧
    ((rxQuiet awake.lnk.rx [0x5A, 0, 1]).map (fun r => r.rstate)) = some .header ∧
    awake.lnk.rx.rstate = .hunt ∧ 512 < (2 : Byte).toNat * 256 + (1 : Byte).toNat := by decide +kernel

/-- Payloads that do not suit, at the ends of the ranges of the lengths, and messages that come while the part takes none. -/
theorem witness_FramesJudged_messages :
    (∀ c ∈ [Instr.timeGet 7 [0], .resetPart 7 [], .outcomeTake 7 [1], .eventStatus 7 [0, 1, 0, 2], .guideGetEvent 7 [0],
        .configGet 7 [1, 2, 3, 4, 5, 6, 7, 8, 1], .configSet 7 [], .planGet 7 (be4 1 ++ be4 2)],
      ∃ m ∈ messageOf c, Msg m.2.2 planned ∧ wrongLength m.1 m.2.2.length = true) ∧
    wrongLength 0x0A 40 = false ∧ wrongLength 0x0A 45 = true ∧ wrongLength 0x0B 8 = false ∧ wrongLength 0x1B 4 = false ∧
    (Msg [0] planned ∧ unreadable 0x18 [0] = some .badLength ∧ planned.clk.cstate ≠ .unset) ∧
    (Msg [0, 2] planned ∧ unreadable 0x41 [0, 2] = some .badField ∧ unreadable 0x41 [0, 1] = none) ∧
    (unreadable 0x10 [0] = some .badLength ∧ unreadable 0x2D [2] = some .badField) := by
  refine ⟨?_, ?_, ?_, ?_, ?_, ?_, ?_, ?_⟩ <;> decide +kernel

theorem witness_FramesJudged_messagesDiscarded :
    let s : State := { planned with lnk := { planned.lnk with inHand := 8 } }
    Settled s ∧ Settled (ask (.requested .warm) planned) ∧ messageOf (.hello 7 []) = some (0x01, 7, []) ∧
    8 ≤ s.lnk.inHand ∧ (ask (.requested .warm) planned).lnk.reset ≠ .none := by decide +kernel

theorem witness_CausesCleared_replySent :
    let s : State := { awake with lnk := { awake.lnk with
      tx := [okTo 0x04 7 .empty], inHand := 1, reset := .requested .warm } }
    s.lnk.tx = okTo 0x04 7 .empty :: [] ∧ ∀ k, s.lnk.reset ≠ .due k :=
  ⟨rfl, nofun⟩

theorem witness_UndeliveredEvents : dueOf (.windowStart 5) = some (.windowStart 5) ∧
    ∀ d ∈ awake.clk.dues, d.kind = .windowStart 5 → d.delivered = false := by decide +kernel

theorem witness_ReceiverReads : idleRx.rstate = .hunt ∧ (List.replicate 512 (0x5A : Byte)).length ≤ 512 := by
  decide +kernel

/-- A step that every invariant's statement is about: HELLO at the front of the queue after power-on. -/
theorem witness_StepsKeep : ∃ t, step { State.reset with pending := [.hello 0 []] } = .next t ∧
    t.wsv.host = .awake := ⟨_, rfl, by decide +kernel⟩

theorem witness_Invariants : Settled State.reset ∧ ClockKept State.reset ∧ LogKept State.reset ∧ LinkKept State.reset ∧
    GuideKept guided ∧ BookingsKept guided ∧ RoomKept planned := by
  refine ⟨?_, ?_, ?_, ?_, ?_, ?_, ?_⟩ <;> decide +kernel

theorem witness_PlannerTunersHost : PlannerKept State.reset ∧ TunersKept State.reset ∧ HostKept State.reset := by
  refine ⟨?_, ?_, ?_⟩ <;> decide +kernel

end Sys2Proof.Tests
end

/-! PROOFS. The quiet operations: every shared operation but those of the Clock Unit itself leaves the time alone and keeps
the Condition Log in its ranges. -/

namespace Sys2Proof.Machine

-- one theorem after another: many at a time would want a thread each
set_option Elab.async false

open Sys2Proof

/-! ## What a quiet operation leaves alone -/

/-- The Clock Unit without the requests and delays that it serves for the other blocks (R3, R4). -/
def timeOf (c : Clock) : Clock := { c with dues := [], delays := [] }

/-- A gap counter in its range (R172). -/
abbrev GapKept (g : GapCounter) : Prop := g.count ≤ 65535 ∧ g.threshold ≤ 65535

/-- The ranges of the Condition Log, bank by bank and counter by counter. -/
abbrev CndKept (c : CondLog) : Prop := (∀ b, BankKept (bankAt b c)) ∧ ∀ t, GapKept (gapAt t c)

theorem logKept_iff (s : State) : LogKept s ↔ CndKept s.cnd := by
  constructor
  · rintro ⟨ha, hb, hp, hw, hc, ca, cb, ta, tb⟩
    refine ⟨fun b => ?_, fun t => ?_⟩
    · cases b
      case tunerA => exact ha
      case tunerB => exact hb
      case plan => exact hp
      case wake => exact hw
      case clock => exact hc
    · cases t
      case a => exact ⟨ca, ta⟩
      case b => exact ⟨cb, tb⟩
  · rintro ⟨hb, hg⟩
    exact ⟨hb .tunerA, hb .tunerB, hb .plan, hb .wake, hb .clock, (hg .a).1, (hg .b).1, (hg .a).2, (hg .b).2⟩

/-- From `s` to `t` only requests and delays of the Clock Unit have changed, and the Condition Log is still in its ranges. -/
structure Quiet (s t : State) : Prop where
  time : timeOf t.clk = timeOf s.clk
  log : CndKept s.cnd → CndKept t.cnd

/-- An operation that leaves the time and the whole log alone. -/
theorem Quiet.same {s t : State} (hc : timeOf t.clk = timeOf s.clk := by simp) (hl : t.cnd = s.cnd := by simp) :
    Quiet s t := ⟨hc, fun h => hl ▸ h⟩

theorem Quiet.refl (s : State) : Quiet s s := .same rfl rfl

theorem Quiet.trans {s t u : State} (h : Quiet s t) (k : Quiet t u) : Quiet s u :=
  ⟨k.time.trans h.time, fun hs => k.log (h.log hs)⟩

theorem Quiet.ite {p : Prop} [Decidable p] {s t u : State} (ht : Quiet s t) (hu : Quiet s u) :
    Quiet s (if p then t else u) := by
  split
  · exact ht
  · exact hu

/-- A fold over anything that carries a state is quiet where each of its steps is. -/
theorem Quiet.foldl_of {α β : Type} (p : β → State) {f : β → α → β} (h : ∀ b x, Quiet (p b) (p (f b x)))
    (xs : List α) (b : β) : Quiet (p b) (p (xs.foldl f b)) := by
  induction xs generalizing b with
  | nil => exact .refl (p b)
  | cons x xs ih => exact (h b x).trans (ih (f b x))

theorem Quiet.foldl {α : Type} {f : State → α → State} (h : ∀ u x, Quiet u (f u x)) (xs : List α) (s : State) :
    Quiet s (xs.foldl f s) := .foldl_of id h xs s

theorem setDirty_quiet (s : State) : Quiet s (setDirty s) := .same

theorem setDirtyIf_quiet (b : Bool) (s : State) : Quiet s (setDirtyIf b s) := .same

/-! ## Requests and delays (R3, R4) -/

@[simp] theorem requestDue_time (k : DueKind) (t : Nat) (s : State) :
    timeOf (requestDue k t s).clk = timeOf s.clk := rfl
@[simp] theorem withdrawDue_time (k : DueKind) (s : State) : timeOf (withdrawDue k s).clk = timeOf s.clk := rfl
@[simp] theorem withdrawDues_time (ks : List DueKind) (s : State) :
    timeOf (withdrawDues ks s).clk = timeOf s.clk := rfl
@[simp] theorem startDelay_time (k : DelayKind) (n : Nat) (s : State) :
    timeOf (startDelay k n s).clk = timeOf s.clk := rfl
@[simp] theorem cancelDelay_time (k : DelayKind) (s : State) : timeOf (cancelDelay k s).clk = timeOf s.clk := rfl

@[simp] theorem ensureDue_time (k : DueKind) (t : Nat) (s : State) :
    timeOf (ensureDue k t s).clk = timeOf s.clk := by
  unfold ensureDue
  repeat' split
  all_goals simp

@[simp] theorem startKeepalive_time (s : State) : timeOf (startKeepalive s).clk = timeOf s.clk := by
  unfold startKeepalive
  split <;> simp

@[simp] theorem syncWake_time (s : State) : timeOf (syncWake s).clk = timeOf s.clk := by
  unfold syncWake
  split <;> simp

@[simp] theorem withdrawInst_time (iid : Nat) (s : State) : timeOf (withdrawInst iid s).clk = timeOf s.clk := rfl

@[simp] theorem removeClaim_time (cid : Nat) (s : State) : timeOf (removeClaim cid s).clk = timeOf s.clk := rfl

@[simp] theorem revokeClaim_time (cid iid : Nat) (s : State) :
    timeOf (revokeClaim cid iid s).clk = timeOf s.clk := by simp [revokeClaim]

@[simp] theorem dropClaims_time (s : State) : timeOf (dropClaims s).clk = timeOf s.clk := by
  unfold dropClaims
  split <;> simp

@[simp] theorem waitForTuner_time (resume : Bool) (iid : Nat) (s : State) :
    timeOf (waitForTuner resume iid s).clk = timeOf s.clk := by
  unfold waitForTuner
  repeat' split
  all_goals simp

@[simp] theorem frameInHand_time (s : State) : timeOf (frameInHand s).clk = timeOf s.clk := by simp [frameInHand]

/-! ## The Condition Log (R166 to R173) -/

theorem setBank_kept {c : CondLog} {v : Bank} (b : BankId) (h : CndKept c) (hv : BankKept v) :
    CndKept (setBank b v c) := by
  refine ⟨fun k => ?_, fun t => by simpa using h.2 t⟩
  by_cases hk : k = b
  · subst hk
    simpa using hv
  · simpa only [bankAt_setBank_other hk] using h.1 k

theorem gapAt_setGap_other {t u : Tuner} (h : u ≠ t) (g : GapCounter) (c : CondLog) :
    gapAt u (setGap t g c) = gapAt u c := by
  match t, u, h with
  | .a, .b, _ => rfl
  | .b, .a, _ => rfl

theorem setGap_kept {c : CondLog} {g : GapCounter} (t : Tuner) (h : CndKept c) (hg : GapKept g) :
    CndKept (setGap t g c) := by
  refine ⟨fun b => by simpa using h.1 b, fun u => ?_⟩
  by_cases hu : u = t
  · subst hu
    simpa using hg
  · simpa only [gapAt_setGap_other hu] using h.2 u

/-- A record that is written marks nothing; a further one raises the overflow mark with the count (R169, R170). -/
theorem writeRecord_kept (r : CondRec) {b : Bank} (h : BankKept b) : BankKept (writeRecord r b) := by
  obtain ⟨hf, ho, hn⟩ := h
  unfold writeRecord
  split
  · exact ⟨hf, ho, nofun⟩
  · exact ⟨by simp, by simp, nofun⟩

theorem submit_quiet (c : Condition) (s : State) : Quiet s (submit c s) := by
  refine ⟨by simp, fun h => ?_⟩
  obtain ⟨-, e⟩ | ⟨-, e, -, -⟩ := submit_cases c s
  · rwa [e]
  · rw [e]
    exact setBank_kept _ h (writeRecord_kept _ (h.1 _))

theorem submitAll_quiet (cs : List Condition) (s : State) : Quiet s (submitAll cs s) :=
  .foldl (fun u c => submit_quiet c u) cs s

theorem submitFree_quiet (cs : List Condition) (s : State) : Quiet s (submitFree cs s) :=
  .ite (submitAll_quiet cs s) ((submitAll_quiet (freeOrderOf s.free cs) s).trans .same)

theorem advanceGap_quiet (t : Tuner) (s : State) : Quiet s (advanceGap t s) := by
  have hc : ∃ armed, (advanceGap t s).cnd = setGap t
      { gapAt t s.cnd with count := min 65535 ((gapAt t s.cnd).count + 1), armed := armed } s.cnd := by
    unfold advanceGap
    dsimp only
    split
    · exact ⟨false, rfl⟩
    · exact ⟨_, rfl⟩
  obtain ⟨armed, e⟩ := hc
  refine ⟨by simp, fun h => ?_⟩
  rw [e]
  exact setGap_kept t h ⟨by simp, (h.2 t).2⟩

/-! ## The lock monitors (R157 to R161) -/

theorem chargeGap_quiet (t : Tuner) (upTo iid : Nat) (s : State) : Quiet s (chargeGap t upTo iid s) := .same

theorem closeGap_quiet (t : Tuner) (s : State) : Quiet s (closeGap t s) :=
  have charged : Quiet s ((recordingOn t s).foldl (fun u i => chargeGap t (monTime s) i.id u) s) :=
    .foldl (fun u (i : Inst) => chargeGap_quiet t (monTime s) i.id u) _ s
  (charged.trans .same).trans ((advanceGap_quiet t _).trans (submit_quiet _ _))

theorem monitorOff_quiet (t : Tuner) (s : State) : Quiet s (monitorOff t s) := by
  have closed : Quiet s (if (tunerRun t s).mon = .gap then closeGap t s else s) :=
    .ite (closeGap_quiet t s) (.refl s)
  unfold monitorOff
  exact closed.trans .same

theorem monitorCheck_quiet (t : Tuner) (s : State) : Quiet s (monitorCheck t s) :=
  .ite (.refl s) (.ite (.refl s) (monitorOff_quiet t s))

theorem monitorCheckOf_quiet (i : Inst) (s : State) : Quiet s (monitorCheckOf i s) := by
  unfold monitorCheckOf
  split
  · exact monitorCheck_quiet _ s
  · exact .refl s

/-! ## The ends of a recording (R83, R141, R148, R149) -/

/-- The hand-offs at a terminal entry, after the recording has left its tuner (R83, R85). -/
theorem terminate_quiet (iid : Nat) (fin : InstState) (c : Cause) (r : Option Nat) (s : State) :
    Quiet s (terminate iid fin c r s) := by
  unfold terminate
  split
  · exact .refl s
  · rename_i i _
    have left : Quiet s (monitorCheckOf i (leaveActive iid (modInst iid (finished fin c r (now s))
        (withdrawInst iid (chargeLeaving iid s))))) := .trans .same (monitorCheckOf_quiet i _)
    refine left.trans ?_
    dsimp only
    repeat' split
    all_goals exact .same

theorem missInst_quiet (c : Cause) (iid : Nat) (s : State) : Quiet s (missInst c iid s) := by
  unfold missInst
  split
  · exact .refl s
  · exact (terminate_quiet _ _ _ _ s).trans (submit_quiet _ _)

theorem enterStopping_quiet (reason : StopReason) (iid : Nat) (s : State) :
    Quiet s (enterStopping reason iid s) := by
  unfold enterStopping
  split
  · exact .refl s
  · exact .ite (.trans .same ((monitorCheckOf_quiet _ _).trans (setDirtyIf_quiet _ _))) (.refl s)

theorem endStopping_quiet (c : Cause) (i : Inst) (s : State) : Quiet s (endStopping c i s) :=
  .ite (terminate_quiet _ _ _ _ s) (terminate_quiet _ _ _ _ s)

theorem cutOverrun_quiet (t : Tuner) (i : Inst) (s : State) : Quiet s (cutOverrun t i s) :=
  (enterStopping_quiet _ _ s).trans (submit_quiet _ _)

/-! ## Starting (R142 to R144) -/

theorem startOn_quiet (t : Tuner) (resume late : Bool) (iid : Nat) (s : State) :
    Quiet s (startOn t resume late iid s) := by
  unfold startOn
  split
  · exact .refl s
  · dsimp only
    refine .ite (.trans ?_ (submit_quiet _ _)) ?_
    all_goals exact .ite .same .same

theorem revokeClaim_quiet (cid iid : Nat) (s : State) : Quiet s (revokeClaim cid iid s) := .same

theorem handovers_quiet (t : Tuner) (iid : Nat) (s : State) : Quiet s (handovers t iid s) :=
  (Quiet.foldl (fun u j => cutOverrun_quiet t j u) _ s).trans
    (.foldl (fun u (c : Claim) => revokeClaim_quiet c.id iid u) _ _)

theorem waitForTuner_quiet (resume : Bool) (iid : Nat) (s : State) : Quiet s (waitForTuner resume iid s) := .same

/-- R144, one line for each of its four ways: wait, swap, cut and start or wait, wait. -/
theorem blockedStart_quiet (t : Tuner) (resume late : Bool) (i : Inst) (s : State) :
    Quiet s (blockedStart t resume late i s) := by
  have hcut : Quiet s ((obstacleClaims t i s).foldl (fun u c => revokeClaim c.id i.id u)
      ((obstacleInsts t i s).foldl (fun u j => cutOverrun t j u) s)) :=
    (Quiet.foldl (fun u j => cutOverrun_quiet t j u) _ s).trans
      (.foldl (fun u (c : Claim) => revokeClaim_quiet c.id i.id u) _ _)
  have hswap : Quiet s (setDirty (submit (condFor (tunerBank (otherTuner t)) .soft .tunerSwapped i)
      (startOn (otherTuner t) resume late i.id s))) :=
    (startOn_quiet _ _ _ _ s).trans ((submit_quiet _ _).trans (setDirty_quiet _))
  exact .ite (waitForTuner_quiet _ _ s) (.ite hswap (.ite
    (hcut.trans (.ite (startOn_quiet _ _ _ _ _) (waitForTuner_quiet _ _ _))) (waitForTuner_quiet _ _ s)))

theorem startAttempt_quiet (resume late : Bool) (iid : Nat) (s : State) :
    Quiet s (startAttempt resume late iid s) := by
  unfold startAttempt
  split
  · exact .refl s
  · split
    · exact .refl s
    · exact (Quiet.ite (.refl s) (handovers_quiet _ iid s)).trans
        (.ite (startOn_quiet _ _ _ _ _) (blockedStart_quiet _ _ _ _ _))

/-! ## Interruption, resume and the waiting starts (R144, R162, R163) -/

theorem interruptInst_quiet (iid : Nat) (s : State) : Quiet s (interruptInst iid s) := by
  unfold interruptInst
  split
  · exact .refl s
  · split
    · exact .trans .same ((monitorCheckOf_quiet _ _).trans (setDirtyIf_quiet _ _))
    · exact .trans .same ((monitorCheckOf_quiet _ _).trans (setDirtyIf_quiet _ _))
    · exact endStopping_quiet _ _ s
    · exact .refl s

theorem interruptHost_quiet (s : State) : Quiet s (interruptHost s) :=
  (Quiet.trans (t := dropClaims s) .same (.foldl (fun u iid => interruptInst_quiet iid u) _ _)).trans
    ((monitorOff_quiet .a _).trans (monitorOff_quiet .b _))

theorem judgeResume_quiet (iid : Nat) (s : State) : Quiet s (judgeResume iid s) := by
  unfold judgeResume
  split
  · exact .refl s
  · exact .ite (.ite (terminate_quiet _ _ _ _ s)
      (.ite ((terminate_quiet _ _ _ _ s).trans (submit_quiet _ _)) (startAttempt_quiet _ _ _ s))) (.refl s)

theorem retryHeld_quiet (iid : Nat) (s : State) : Quiet s (retryHeld iid s) := by
  unfold retryHeld
  split
  · exact .refl s
  · exact .ite (startAttempt_quiet _ _ _ s) (.refl s)

theorem takeHeld_quiet (iid : Nat) (s : State) : Quiet s (takeHeld iid s) := by
  unfold takeHeld
  split
  · exact .refl s
  · exact .ite (.ite (startAttempt_quiet _ _ _ s) (missInst_quiet _ _ s)) (.refl s)

theorem takeUpWork_quiet (s : State) : Quiet s (takeUpWork s) :=
  (Quiet.foldl (fun u iid => judgeResume_quiet iid u) _ s).trans (.foldl (fun u iid => takeHeld_quiet iid u) _ _)

theorem retryWaiting_quiet (s : State) : Quiet s (retryWaiting s) :=
  (Quiet.foldl (fun u iid => judgeResume_quiet iid u) _ s).trans (.foldl (fun u iid => retryHeld_quiet iid u) _ _)

theorem retryRounds_quiet (fuel : Nat) (before s : State) : Quiet s (retryRounds fuel before s) := by
  induction fuel generalizing before s with
  | zero => exact .refl s
  | succ fuel ih => exact .ite ((retryWaiting_quiet s).trans (ih s _)) (.refl s)

theorem retryStarts_quiet (before s : State) : Quiet s (retryStarts before s) := retryRounds_quiet _ before s

/-! ## Overrun, and the end of an event (R82, R152, R153) -/

theorem fixOverrun_quiet (iid : Nat) (s : State) : Quiet s (fixOverrun iid s) := by
  unfold fixOverrun
  split
  · exact .refl s
  · split
    · exact .refl s
    · exact .ite (.trans .same ((enterStopping_quiet _ _ _).trans (setDirty_quiet _))) .same

theorem handStatus_quiet (k : EventKey) (st : Option RunStatus) (s : State) : Quiet s (handStatus k st s) :=
  .ite (.refl s) (.foldl (fun u iid => fixOverrun_quiet iid u) _ s)

theorem settleOutputs_quiet (before s : State) : Quiet s (settleOutputs before s) :=
  .same (by simp [settleOutputs]) (by simp)

theorem quiet_settle (before s : State) : Quiet s (settle before s) :=
  (retryStarts_quiet before s).trans (settleOutputs_quiet before _)

end Sys2Proof.Machine

/-! PROOFS. The commands of the other blocks are quiet: each is a chain of quiet operations. -/

namespace Sys2Proof.Machine

-- one theorem after another: many at a time would want a thread each
set_option Elab.async false

open Sys2Proof

/-! ## Frames and events -/

theorem answerOk_quiet (kind tag : Byte) (b : ReplyBody) (s : State) : Quiet s (answerOk kind tag b s) := .same

theorem onFrame_quiet {act : State → State} (h : ∀ u, Quiet u (act u)) (kind tag : Byte) (p : List Byte)
    (s : State) : Quiet s (onFrame kind tag p act s) :=
  .ite (.refl s) (.ite .same (.trans .same (h _)))

theorem onMessage_quiet {α : Type} {pr : Parser α} {p : List Byte} {act : α → State → State}
    (h : ∀ m, parseAll pr p = .ok m → ∀ u, Quiet u (act m u)) (kind tag : Byte) (s : State) :
    Quiet s (onMessage kind tag pr p act s) := by
  refine onFrame_quiet (fun u => ?_) kind tag p s
  split
  · exact h _ ‹_› u
  · exact .same

theorem onDue_quiet {act : State → State} (h : ∀ u, Quiet u (act u)) (k : DueKind) (s : State) :
    Quiet s (onDue k act s) := by
  unfold onDue
  obtain ⟨-, e⟩ | ⟨-, e⟩ := takeDue_cases k s
  · rw [e]
    exact .trans .same ((h _).trans (quiet_settle s _))
  · rw [e]
    exact .refl s

/-! ## The Booking Table (chapter 3) -/

theorem addBooking_quiet (kind tag : Byte) (dup : Option Booking) (part : BookingPart) (c : CommonMsg) (s : State) :
    Quiet s (addBooking kind tag dup part c s) := by
  unfold addBooking
  repeat' split
  all_goals exact .same

theorem bookEvent_quiet (tag : Byte) (m : EventKey × CommonMsg) (s : State) : Quiet s (bookEvent tag m s) := by
  unfold bookEvent
  repeat' split
  · exact .same
  · exact .same
  · exact addBooking_quiet _ _ _ _ _ s

theorem bookSeries_quiet (tag : Byte) (m : BookSeriesMsg) (s : State) : Quiet s (bookSeries tag m s) :=
  .ite .same (addBooking_quiet _ _ _ _ _ s)

theorem bookManual_quiet (tag : Byte) (m : ManualPart × CommonMsg) (s : State) : Quiet s (bookManual tag m s) :=
  .ite .same (addBooking_quiet _ _ _ _ _ s)

theorem bookChange_quiet (tag : Byte) (m : Nat × List ChangeField) (s : State) : Quiet s (bookChange tag m s) := by
  unfold bookChange
  repeat' split
  all_goals exact .same

theorem moveBooking_quiet (kind tag : Byte) (st : BookingState) (bid : Nat) (s : State) :
    Quiet s (moveBooking kind tag st bid s) := by
  unfold moveBooking setBookingState
  repeat' split
  all_goals exact .same

theorem deleteInst_quiet (iid : Nat) (s : State) : Quiet s (deleteInst iid s) := by
  unfold deleteInst
  split
  · exact .refl s
  · split
    case h_5 => exact enterStopping_quiet _ _ s
    all_goals first | exact terminate_quiet _ _ _ _ s | exact .refl s

@[simp] theorem dropBooking_clk (bid : Nat) (s : State) : (dropBooking bid s).clk = s.clk := rfl
@[simp] theorem dropBooking_cnd (bid : Nat) (s : State) : (dropBooking bid s).cnd = s.cnd := rfl

theorem bookDelete_quiet (tag : Byte) (bid : Nat) (s : State) : Quiet s (bookDelete tag bid s) := by
  have deleted : Quiet s ((idsOfBooking bid (fun _ => true) s).foldl (fun u iid => deleteInst iid u)
      (setDirty (dropBooking bid s))) := .trans .same (.foldl (fun u iid => deleteInst_quiet iid u) _ _)
  exact .ite (deleted.trans .same) .same

theorem bookGet_quiet (tag : Byte) (bid : Nat) (s : State) : Quiet s (bookGet tag bid s) := by
  unfold bookGet
  split
  all_goals exact .same

theorem bookList_quiet (tag : Byte) (n : Nat) (s : State) : Quiet s (bookList tag n s) := .ite .same .same

theorem historyAdd_quiet (tag : Byte) (e : HistEntry) (s : State) : Quiet s (historyAdd tag e s) := .ite .same .same

theorem dropEntries_quiet (tag : Byte) (p : HistEntry → Bool) (s : State) : Quiet s (dropEntries tag p s) :=
  .same (by simp [dropEntries]) (by simp [dropEntries])

theorem historyDrop_quiet (tag : Byte) (m : HistDropMsg) (s : State) : Quiet s (historyDrop tag m s) := by
  cases m with
  | pair e => exact .ite .same (dropEntries_quiet tag _ s)
  | series r => exact .ite .same (dropEntries_quiet tag _ s)

theorem historyGet_quiet (tag : Byte) (m : Nat × Option Ref) (s : State) : Quiet s (historyGet tag m s) :=
  .ite .same .same

/-! ## The Guide Store (chapter 2) -/

theorem removeRec_quiet (r : GuideRec) (s : State) : Quiet s (removeRec r s) :=
  .trans (.same (by simp [takeRec]) (by simp [takeRec])) (handStatus_quiet _ _ _)

theorem replaceEntry_quiet (e : GuideEntry) (old : GuideRec) (s : State) : Quiet s (replaceEntry e old s) := by
  have placed (b : Bool) (r : GuideRec) : Quiet s (setDirtyIf b (placeRec r (takeRec e.key s))) :=
    .same (by simp [placeRec, takeRec]) (by simp [placeRec, takeRec])
  exact .ite (placed _ _) ((placed _ _).trans (handStatus_quiet _ _ _))

theorem insertEntry_quiet (e : GuideEntry) (s : State) : Quiet s (insertEntry e s) :=
  .same (by simp [insertEntry, placeRec]) (by simp [insertEntry, placeRec])

theorem putEntry_quiet (t : Nat) (sc : State × PutCounts) (e : GuideEntry) : Quiet sc.1 (putEntry t sc e).1 := by
  unfold putEntry
  dsimp only
  repeat' split
  · exact .refl _
  · exact replaceEntry_quiet _ _ _
  · exact insertEntry_quiet _ _
  · exact .refl _
  · exact .trans (.same (by simp [takeRec]) (by simp [takeRec])) (insertEntry_quiet _ _)
  · exact .refl _

theorem guidePut_quiet (tag : Byte) (es : List GuideEntry) (s : State) : Quiet s (guidePut tag es s) :=
  (Quiet.foldl_of Prod.fst (putEntry_quiet (now s)) es (s, ⟨0, 0, 0, 0⟩)).trans (answerOk_quiet _ _ _ _)

theorem dropKey_quiet (sc : State × Nat × Nat) (k : EventKey) : Quiet sc.1 (dropKey sc k).1 := by
  unfold dropKey
  split
  · exact removeRec_quiet _ _
  · exact .refl _

theorem guideDrop_quiet (tag : Byte) (m : GuideDropMsg) (s : State) : Quiet s (guideDrop tag m s) := by
  cases m with
  | keys ks => exact (Quiet.foldl_of Prod.fst dropKey_quiet ks (s, 0, 0)).trans (answerOk_quiet _ _ _ _)
  | service n =>
    have dropped : Quiet s ((s.gst.recs.filter (fun r => r.key.service == n)).foldl (fun u r => removeRec r u) s) :=
      .foldl (fun u r => removeRec_quiet r u) _ s
    exact .ite .same (dropped.trans .same)

theorem eventStatus_quiet (tag : Byte) (m : EventKey × Nat) (s : State) : Quiet s (eventStatus tag m s) := by
  unfold eventStatus
  split
  · exact .same
  · split
    · exact .same
    · dsimp only
      split
      · exact .same
      · exact .trans (.trans .same (handStatus_quiet _ _ _)) (answerOk_quiet _ _ _ _)

theorem guideGet_quiet (tag : Byte) (p : List Byte) (s : State) : Quiet s (guideGet tag p s) := by
  unfold guideGet guideSummary guideGetKey
  repeat' split
  all_goals exact .same

theorem purgeGuide_quiet (s : State) : Quiet s (purgeGuide s) := .foldl (fun u r => removeRec_quiet r u) _ s

theorem handRollover_quiet (s : State) : Quiet s (handRollover s) :=
  .ite .same (.ite (.trans .same ((purgeGuide_quiet _).trans (setDirty_quiet _))) (.trans .same (purgeGuide_quiet _)))

/-! ## Reading and taking (chapters 5 to 7) -/

theorem instanceGet_quiet (tag : Byte) (iid : Nat) (s : State) : Quiet s (instanceGet tag iid s) := by
  unfold instanceGet
  split
  all_goals exact .same

theorem answerPlanGet_quiet (tag : Byte) (a b k : Nat) (s : State) : Quiet s (answerPlanGet tag a b k s) :=
  .ite .same .same

theorem answerClashGet_quiet (tag : Byte) (k : Nat) (s : State) : Quiet s (answerClashGet tag k s) :=
  .ite .same .same

theorem holdOr_quiet {ans : State → State} (h : ∀ u, Quiet u (ans u)) (kind tag : Byte) (q : Query) (s : State) :
    Quiet s (holdOr kind tag q ans s) := by
  unfold holdOr
  split
  · exact h s
  · exact .ite .same .same

theorem planGet_quiet (tag : Byte) (m : Nat × Nat × Nat) (s : State) : Quiet s (planGet tag m s) :=
  .ite .same (.ite .same (holdOr_quiet (answerPlanGet_quiet tag _ _ _) _ _ _ s))

theorem clashGet_quiet (tag : Byte) (k : Nat) (s : State) : Quiet s (clashGet tag k s) :=
  .ite .same (.ite .same (holdOr_quiet (answerClashGet_quiet tag _) _ _ _ s))

theorem answerAllHeld_quiet (s : State) : Quiet s (answerAllHeld s) := by
  refine .trans (t := modLnk (fun l => { l with held := [] }) s) .same (.foldl (fun u q => ?_) _ _)
  unfold answerHeld
  split
  · exact answerPlanGet_quiet _ _ _ _ u
  · exact answerClashGet_quiet _ _ u

theorem leaveList_quiet (i : Inst) (s : State) : Quiet s (leaveList i s) :=
  .same (by simp [leaveList]) (by simp [leaveList])

theorem outcomeTake_quiet (tag : Byte) (iid : Nat) (s : State) : Quiet s (outcomeTake tag iid s) := by
  unfold outcomeTake
  split
  · exact .same
  · exact .ite ((leaveList_quiet _ s).trans (answerOk_quiet _ _ _ _)) .same

/-! ## Run Control (chapter 8) -/

theorem takeWindowStart_quiet (iid : Nat) (s : State) : Quiet s (takeWindowStart iid s) := by
  unfold takeWindowStart
  split
  · exact .refl s
  · exact .ite (.ite (missInst_quiet _ _ s) (.ite (startAttempt_quiet _ _ _ s) .same)) (.refl s)

theorem enterOverrun_quiet (i : Inst) (s : State) : Quiet s (enterOverrun i s) :=
  .same (by simp [enterOverrun]) (by simp [enterOverrun])

theorem takeCoreEnd_quiet (iid : Nat) (s : State) : Quiet s (takeCoreEnd iid s) := by
  unfold takeCoreEnd
  split
  · exact .refl s
  · split
    all_goals first
      | exact missInst_quiet _ _ s
      | exact .ite (.refl s) (missInst_quiet _ _ s)
      | exact .ite (enterOverrun_quiet _ s) (.refl s)
      | exact .refl s

theorem takeHeldLimit_quiet (iid : Nat) (s : State) : Quiet s (takeHeldLimit iid s) := by
  unfold takeHeldLimit
  split
  · exact .refl s
  · exact .ite (missInst_quiet _ _ s) (.refl s)

theorem takeOverrunCap_quiet (iid : Nat) (s : State) : Quiet s (takeOverrunCap iid s) := by
  unfold takeOverrunCap
  split
  · exact .refl s
  · split
    · exact .same
    · exact enterStopping_quiet _ _ s

theorem failStart_quiet (c : Cause) (r : Option Nat) (i : Inst) (s : State) : Quiet s (failStart c r i s) :=
  (terminate_quiet _ _ _ _ s).trans (submit_quiet _ _)

theorem takeStartTimeout_quiet (iid : Nat) (s : State) : Quiet s (takeStartTimeout iid s) := by
  unfold takeStartTimeout
  split
  · exact .refl s
  · exact .ite (failStart_quiet _ _ _ s) (.refl s)

theorem takeStopTimeout_quiet (iid : Nat) (s : State) : Quiet s (takeStopTimeout iid s) := by
  unfold takeStopTimeout
  split
  · exact .refl s
  · exact .ite ((endStopping_quiet _ _ s).trans (submit_quiet _ _)) (.refl s)

theorem armMonitor_quiet (t : Tuner) (s : State) : Quiet s (armMonitor t s) := .ite .same (.refl s)

theorem takeStarted_quiet (i : Inst) (s : State) : Quiet s (takeStarted i s) := by
  have armed (u : State) : Quiet u (match i.tuner with | some t => armMonitor t u | none => u) := by
    split
    · exact armMonitor_quiet _ u
    · exact .refl u
  exact .ite (.trans (.trans .same (armed _)) (enterStopping_quiet _ _ _)) (.trans .same (armed _))

theorem takeHostStop_quiet (i : Inst) (s : State) : Quiet s (takeHostStop i s) :=
  .ite ((terminate_quiet _ _ _ _ s).trans (submit_quiet _ _)) (terminate_quiet _ _ _ _ s)

theorem answerReport_quiet (tag : Byte) (iid : Nat) (s : State) : Quiet s (answerReport tag iid s) := by
  unfold answerReport
  exact .same

theorem recReport_quiet (tag : Byte) (m : Nat × Report) (s : State) : Quiet s (recReport tag m s) := by
  unfold recReport
  refine .ite .same ?_
  split
  · exact .same
  · refine .ite .same ?_
    split
    · exact (takeStarted_quiet _ s).trans (answerReport_quiet _ _ _)
    · exact (failStart_quiet _ _ _ s).trans (answerReport_quiet _ _ _)
    · exact (endStopping_quiet _ _ s).trans (answerReport_quiet _ _ _)
    · exact (takeHostStop_quiet _ s).trans (answerReport_quiet _ _ _)
    · exact .same

theorem viewClaim_quiet (tag : Byte) (m : ClaimMsg) (s : State) : Quiet s (viewClaim tag m s) := by
  unfold viewClaim newClaim changeClaim
  dsimp only
  repeat' split
  all_goals exact .same

theorem viewRelease_quiet (tag : Byte) (n : Nat) (s : State) : Quiet s (viewRelease tag n s) := .ite .same .same

theorem takeYieldWarning_quiet (n : Nat) (s : State) : Quiet s (takeYieldWarning n s) := by
  unfold takeYieldWarning
  repeat' split
  all_goals exact .same

theorem takeGraceEnd_quiet (t : Tuner) (s : State) : Quiet s (takeGraceEnd t s) := .ite .same .same

theorem monitorTick_quiet (t : Tuner) (locked : Bool) (s : State) : Quiet s (monitorTick t locked s) := by
  unfold monitorTick declareGap
  split
  case h_7 => exact (closeGap_quiet t s).trans .same
  case h_5 => exact .ite .same .same
  all_goals exact .same

theorem takeTick_quiet (t : Tuner) (locked : Bool) (s : State) : Quiet s (takeTick t locked s) :=
  .trans (.trans .same (monitorTick_quiet t locked _)) (.ite (.refl _) .same)

theorem takeAbandon_quiet (t : Tuner) (s : State) : Quiet s (takeAbandon t s) := by
  have closed : Quiet s (modTuner t (fun r => { r with mon := .watching }) (closeGap t s)) :=
    (closeGap_quiet t s).trans .same
  exact .ite (closed.trans ((submit_quiet _ _).trans ((Quiet.foldl (fun u (i : Inst) => enterStopping_quiet _ i.id u) _ _).trans
    ((monitorOff_quiet t _).trans (setDirty_quiet _))))) (.refl s)

theorem takeWindowClose_quiet (iid : Nat) (s : State) : Quiet s (takeWindowClose iid s) := by
  unfold takeWindowClose
  split
  · exact .refl s
  · exact .ite (terminate_quiet _ _ _ _ s) (.refl s)

/-! ## The Wake Supervisor (chapter 10) -/

@[simp] theorem startWakeTimeout_time (s : State) : timeOf (startWakeTimeout s).clk = timeOf s.clk := rfl
@[simp] theorem startWakeTimeout_cnd (s : State) : (startWakeTimeout s).cnd = s.cnd := rfl

@[simp] theorem beginPulse_time (s : State) : timeOf (beginPulse s).clk = timeOf s.clk := rfl
@[simp] theorem beginPulse_cnd (s : State) : (beginPulse s).cnd = s.cnd := rfl

theorem modWsv_quiet (f : WakeSup → WakeSup) (s : State) : Quiet s (modWsv f s) := .same

theorem takeKeepalive_quiet (s : State) : Quiet s (takeKeepalive s) :=
  have pulsed (u : State) : Quiet u (startWakeTimeout (beginPulse u)) := .same
  .ite (((submit_quiet _ s).trans (pulsed _)).trans ((modWsv_quiet _ _).trans (interruptHost_quiet _))) (.refl s)

theorem takeWakeDue_quiet (s : State) : Quiet s (takeWakeDue s) := by
  unfold takeWakeDue
  split
  all_goals exact .same

theorem takeWakeTimeout_quiet (s : State) : Quiet s (takeWakeTimeout s) :=
  have pulsed (u : State) : Quiet u (startWakeTimeout (beginPulse u)) := .same
  .ite (.ite ((modWsv_quiet _ s).trans (pulsed _)) ((modWsv_quiet _ s).trans (submit_quiet _ _))) (.refl s)

theorem helloAwake_quiet (s : State) : Quiet s (helloAwake s) := by
  unfold helloAwake
  exact .same

theorem helloWork_quiet (previous : HostState) (n : Nat) (s : State) : Quiet s (helloWork previous n s) := by
  unfold helloWork
  split
  · exact ((submit_quiet _ s).trans (interruptHost_quiet _)).trans (takeUpWork_quiet _)
  all_goals exact .trans .same (takeUpWork_quiet _)

theorem hello_quiet (tag : Byte) (s : State) : Quiet s (hello tag s) := by
  have worked : Quiet s (retryStarts s (helloWork s.wsv.host (runningCount s) (helloAwake s))) :=
    (helloAwake_quiet s).trans ((helloWork_quiet _ _ _).trans (retryStarts_quiet s _))
  unfold hello helloDone
  exact worked.trans ((answerOk_quiet _ _ _ _).trans (modWsv_quiet _ _))

theorem standby_quiet (tag : Byte) (s : State) : Quiet s (standby tag s) := by
  unfold standby acceptStandby
  repeat' split
  all_goals exact .same

theorem causeClear_quiet (tag : Byte) (s : State) : Quiet s (causeClear tag s) := by
  unfold causeClear
  exact .same

theorem resetPart_quiet (tag : Byte) (n : Nat) (s : State) : Quiet s (resetPart tag n s) := by
  unfold resetPart
  split
  all_goals exact .same

/-! ## The Link Port (chapter 11) -/

theorem noticeFetch_quiet (tag : Byte) (s : State) : Quiet s (noticeFetch tag s) := by
  unfold noticeFetch
  exact .same

theorem actionsGet_quiet (tag : Byte) (s : State) : Quiet s (actionsGet tag s) := by
  unfold actionsGet
  exact .same

theorem retimeAbandon_quiet (t : Tuner) (s : State) : Quiet s (retimeAbandon t s) := by
  unfold retimeAbandon
  refine .ite ?_ (.refl s)
  split
  · exact .refl s
  · dsimp only
    split
    · rename_i e
      obtain ⟨-, e'⟩ | ⟨-, e'⟩ := takeDue_cases (.abandon t)
        (requestDue (.abandon t) (_ / 10 + s.run.abandonLimit) s)
      · rw [e'] at e
        cases e
        exact .trans .same (takeAbandon_quiet t _)
      · rw [e'] at e
        cases e
    · exact .same

theorem writeSetting_quiet (n v : Nat) (s : State) : Quiet s (writeSetting n v s) := by
  unfold writeSetting writeWakeLead writeKeepCode
  split
  case h_7 => exact .trans .same ((retimeAbandon_quiet .a _).trans (retimeAbandon_quiet .b _))
  all_goals exact .same

theorem configSet_quiet (tag : Byte) (items : List (Nat × Nat)) (s : State) : Quiet s (configSet tag items s) := by
  have written : Quiet s (items.foldl (fun u x => writeSetting x.1 (settingClamp x.1 x.2) u) s) :=
    .foldl (fun u (x : Nat × Nat) => writeSetting_quiet x.1 _ u) items s
  exact .ite .same (.ite .same (written.trans .same))

theorem configGet_quiet (tag : Byte) (ns : List Nat) (s : State) : Quiet s (configGet tag ns s) :=
  .ite .same (.ite .same .same)

end Sys2Proof.Machine

/-! PROOFS. The install is quiet: what it writes to recordings, bookings and claims leaves time and log alone, and its
conditions and its hand-off are chains of quiet operations. -/

namespace Sys2Proof.Machine

-- one theorem after another: many at a time would want a thread each
set_option Elab.async false

open Sys2Proof

/-! ## Expansion's results (R75, R76) -/

theorem removeInst_quiet (iid : Nat) (s : State) : Quiet s (removeInst iid s) := by
  unfold removeInst
  split
  · exact .refl s
  · exact .ite (.trans .same (leaveList_quiet _ _)) (.refl s)

theorem makeRoom_quiet (a : InstallAcc) : Quiet a.s (makeRoom a).s := by
  unfold makeRoom
  repeat' split
  · exact .refl _
  · exact .refl _
  · exact leaveList_quiet _ _

theorem createOne_quiet (cands : List Cand) (a : InstallAcc) (kc : Nat × Creation) :
    Quiet a.s (createOne cands a kc).s := by
  unfold createOne
  dsimp only
  repeat' split
  · exact .refl _
  · exact (makeRoom_quiet a).trans .same
  · exact makeRoom_quiet a
  · exact .refl _

theorem refreshOne_quiet (s : State) (c : Cand) : Quiet s (refreshOne s c) := by
  unfold refreshOne rewriteInst
  repeat' split
  all_goals exact .same

theorem refreshRunning_quiet (s : State) (r : Refresh) : Quiet s (refreshRunning s r) := by
  unfold refreshRunning
  repeat' split
  all_goals exact .same

theorem applyExpansion_quiet (r : PassResult) (cands : List Cand) (s : State) :
    Quiet s (applyExpansion r cands s).s :=
  (Quiet.foldl (fun u iid => removeInst_quiet iid u) _ s).trans
    ((Quiet.foldl refreshOne_quiet _ _).trans ((Quiet.foldl refreshRunning_quiet _ _).trans
      (Quiet.foldl_of InstallAcc.s (createOne_quiet cands) _ ⟨_, [], []⟩)))

/-! ## The plan results and the marks (R99, R107 to R109) -/

theorem writeRunning_quiet (p : Snapshot) (w : Work) (s : State) (iid : Nat) : Quiet s (writeRunning p w s iid) := by
  unfold writeRunning
  repeat' split
  all_goals exact .same

theorem writePlaced_quiet (since : List Occ) (m : Merge) (x : Placed) : Quiet m.a.s (writePlaced since m x).a.s := by
  unfold writePlaced
  repeat' split
  all_goals exact .same

theorem writeLost_quiet (a : InstallAcc) (x : LostCand) : Quiet a.s (writeLost a x).s := by
  unfold writeLost
  repeat' split
  all_goals exact .same

theorem writeShort_quiet (ids : List (Nat × Nat)) (s : State) (c : Cand) : Quiet s (writeShort ids s c) := by
  unfold writeShort
  repeat' split
  all_goals exact .same

theorem applyPlan_quiet (p : Snapshot) (r : PassResult) (a : InstallAcc) : Quiet a.s (applyPlan p r a).s :=
  (Quiet.foldl (writeRunning_quiet p r.work) _ a.s).trans
    ((Quiet.foldl_of (fun m : Merge => m.a.s) (writePlaced_quiet _) _ ⟨{ a with s := _ }, _⟩).trans
      ((Quiet.foldl_of InstallAcc.s writeLost_quiet _ _).trans (.foldl (writeShort_quiet _) _ _)))

theorem applyMarks_quiet (p : Snapshot) (r : PassResult) (a : InstallAcc) : Quiet a.s (applyMarks p r a).s :=
  .same rfl rfl

/-! ## The booking side (R64, R77) -/

theorem applyUpdate_quiet (a : InstallAcc) (r : BookingResult) : Quiet a.s (applyUpdate a r).s := by
  unfold applyUpdate
  split
  · exact .same rfl rfl
  · exact .refl _

theorem applySpent_quiet (s : State) (r : BookingResult) : Quiet s (applySpent s r) := by
  unfold applySpent
  repeat' split
  all_goals exact .same

theorem applyBookings_quiet (r : PassResult) (a : InstallAcc) : Quiet a.s (applyBookings r a).s :=
  (Quiet.foldl_of InstallAcc.s applyUpdate_quiet _ a).trans (.foldl applySpent_quiet _ _)

/-! ## The hand-off to Run Control (R111, R140, R151, R156) -/

theorem postPlanChanged_quiet (b : Bool) (s : State) : Quiet s (postPlanChanged b s) := .ite .same .same

theorem syncInst_quiet (s : State) (iid : Nat) : Quiet s (syncInst s iid) := by
  unfold syncInst syncPlanned
  dsimp only
  repeat' split
  all_goals exact .same

theorem syncClaim_quiet (before s : State) (c : Claim) : Quiet s (syncClaim before s c) := by
  unfold syncClaim
  dsimp only
  repeat' split
  all_goals exact .same

theorem takeFresh_quiet {act : State → State} (h : ∀ u, Quiet u (act u)) (before : List DueReq) (k : DueKind)
    (s : State) : Quiet s (takeFresh before k act s) := by
  unfold takeFresh
  split
  · exact .refl s
  · refine .ite ?_ (.refl s)
    obtain ⟨-, e⟩ | ⟨-, e⟩ := takeDue_cases k s
    · rw [e]
      exact .trans .same (h _)
    · rw [e]
      exact .refl s

theorem takeFreshInst_quiet (before : List DueReq) (s : State) (iid : Nat) : Quiet s (takeFreshInst before s iid) :=
  (takeFresh_quiet (takeWindowStart_quiet iid) _ _ s).trans ((takeFresh_quiet (takeCoreEnd_quiet iid) _ _ _).trans
    ((takeFresh_quiet (enterStopping_quiet _ iid) _ _ _).trans (takeFresh_quiet (takeWindowClose_quiet iid) _ _ _)))

theorem handOff_quiet (before s : State) : Quiet s (handOff before s) :=
  (Quiet.foldl syncInst_quiet _ s).trans ((Quiet.foldl (syncClaim_quiet before) _ _).trans
    ((Quiet.foldl (fun u (c : Claim) => takeFresh_quiet (takeYieldWarning_quiet c.id) _ _ u) _ _).trans
      (.foldl (takeFreshInst_quiet _) _ _)))

/-! ## The whole install (R107 to R114) -/

theorem renewPlan_quiet (p : Snapshot) (r : PassResult) (ids : List (Nat × Nat)) (s : State) :
    Quiet s (renewPlan p r ids s) := .same rfl rfl

theorem recomputePins_quiet (s : State) : Quiet s (recomputePins s) := .same rfl rfl

theorem endPass_quiet (s : State) : Quiet s (endPass s) := .ite .same .same

theorem installPass_quiet (p : Snapshot) (s : State) : Quiet s (installPass p s) := by
  unfold installPass
  have results (r : PassResult) (cands : List Cand) :
      Quiet s (applyBookings r (applyMarks p r (applyPlan p r (applyExpansion r cands s)))).s :=
    (applyExpansion_quiet r cands s).trans ((applyPlan_quiet p r _).trans
      ((applyMarks_quiet p r _).trans (applyBookings_quiet r _)))
  have installed (a : InstallAcc) (h : Quiet s a.s) (r : PassResult) :
      Quiet s (renewPlan p r a.ids (recomputePins (submitFree a.conds a.s))) :=
    h.trans ((submitFree_quiet _ _).trans ((recomputePins_quiet _).trans (renewPlan_quiet p r _ _)))
  exact (installed _ (results _ _) _).trans ((postPlanChanged_quiet _ _).trans ((handOff_quiet s _).trans
    ((retryStarts_quiet s _).trans ((answerAllHeld_quiet _).trans (endPass_quiet _)))))

end Sys2Proof.Machine

/-! PROOFS. The Clock Unit and the Condition Log keep their ranges through every step (R1, R5, R9, R15, R166, R170, R172). -/

namespace Sys2Proof.Machine

-- one theorem after another: many at a time would want a thread each
set_option Elab.async false

open Sys2Proof

/-! ## What a reader of a payload takes (R208) -/

theorem pBind_ok {α β : Type} {p : Parser α} {f : α → Parser β} {bs : List Byte} {r : Parsed β}
    (h : pBind p f bs = .ok r) : ∃ a b, p bs = .ok a ∧ f a.val a.rest = .ok b ∧ r.val = b.val := by
  unfold pBind at h
  split at h
  · rename_i a ha
    cases hb : f a.val a.rest with
    | error e => simp [hb, Except.map] at h
    | ok b =>
      rw [hb] at h
      cases h
      exact ⟨a, b, ha, hb, rfl⟩
  · cases h

theorem pMap_ok {α β : Type} {f : α → β} {p : Parser α} {bs : List Byte} {r : Parsed β}
    (h : pMap f p bs = .ok r) : ∃ a, p bs = .ok a ∧ r.val = f a.val := by
  obtain ⟨a, b, ha, hb, e⟩ := pBind_ok h
  cases hb
  exact ⟨a, ha, e⟩

theorem parseAll_ok {α : Type} {p : Parser α} {bs : List Byte} {m : α} (h : parseAll p bs = .ok m) :
    ∃ r, p bs = .ok r ∧ r.val = m := by
  unfold parseAll at h
  split at h
  case h_1 a e =>
    cases h
    exact ⟨_, e, rfl⟩
  all_goals cases h

/-- An optional field that is present was read by the reader of the field. -/
theorem pOpt_ok {α : Type} {p : Parser α} {bs : List Byte} {r : Parsed (Option α)} {v : α}
    (h : pOpt p bs = .ok r) (hv : r.val = some v) : ∃ cs q, p cs = .ok q ∧ q.val = v := by
  obtain ⟨a, b, -, hb, e⟩ := pBind_ok h
  split at hb
  · obtain ⟨q, hq, e'⟩ := pMap_ok hb
    rw [e, e'] at hv
    exact ⟨_, q, hq, Option.some.inj hv⟩
  · cases hb
    simp [e] at hv

theorem pU16_le {bs : List Byte} {r : Parsed Nat} (h : pU16 bs = .ok r) : r.val ≤ 65535 := by
  unfold pU16 at h
  split at h
  · cases h
    dsimp only
    omega
  · cases h

theorem pU32_le {bs : List Byte} {r : Parsed Nat} (h : pU32 bs = .ok r) : r.val ≤ 4294967295 := by
  unfold pU32 at h
  split at h
  · cases h
    dsimp only
    omega
  · cases h

/-- The time field of a TIME_SET is a schedule time (R5, R208). -/
theorem pTimeSet_time_le {p : List Byte} {m : TimeSetMsg} (h : parseAll pTimeSet p = .ok m) :
    m.time ≤ Config.maxTime := by
  obtain ⟨r, hr, rfl⟩ := parseAll_ok h
  obtain ⟨t, b, ht, hb, e⟩ := pBind_ok hr
  obtain ⟨o, c, -, hc, e'⟩ := pBind_ok hb
  obtain ⟨d, -, e''⟩ := pMap_ok hc
  rw [e, e', e'']
  exact pU32_le ht

/-- A threshold of a COND_CONFIG is in the range of a gap counter (R174, R208). -/
theorem pCondConfig_threshold_le {p : List Byte} {m : CondConfigMsg} {v : Nat}
    (h : parseAll pCondConfig p = .ok m) (hv : m.threshold = some v) : v ≤ 65535 := by
  obtain ⟨r, hr, rfl⟩ := parseAll_ok h
  obtain ⟨n, b, -, hb, e⟩ := pBind_ok hr
  obtain ⟨mask, c, -, hc, e'⟩ := pBind_ok hb
  obtain ⟨en, d, -, hd, e''⟩ := pBind_ok hc
  obtain ⟨t, ht, e'''⟩ := pMap_ok hd
  rw [e, e', e'', e'''] at hv
  obtain ⟨cs, q, hq, rfl⟩ := pOpt_ok ht hv
  exact pU16_le hq

/-! ## The Clock Unit's ranges -/

/-- The ranges of the Clock Unit, of the clock alone. -/
abbrev ClkKept (c : Clock) : Prop :=
  c.count ≤ Config.maxTime ∧ (c.cstate = .unset → c.count = 0) ∧ c.sub < Config.unitsPerSecond ∧
  -2 ≤ c.slewRem ∧ c.slewRem ≤ 2 ∧ (c.cstate = .slewing ↔ c.slewRem ≠ 0) ∧ c.slewPhase < 10 ∧
  OffsetFormed c.offset ∧ (∀ ch ∈ c.change, OffsetFormed ch.offset) ∧ (c.changeDue = true → c.change ≠ none)

/-- The invariant of the clock and the log. -/
abbrev ClockLogKept (s : State) : Prop := ClockKept s ∧ LogKept s

theorem clockLogKept_iff (s : State) : ClockLogKept s ↔ ClkKept s.clk ∧ CndKept s.cnd :=
  and_congr Iff.rfl (logKept_iff s)

/-- The requests and delays are in no range of the Clock Unit's. -/
theorem clkKept_timeOf (c : Clock) : ClkKept (timeOf c) ↔ ClkKept c := Iff.rfl

theorem Quiet.keeps {s t : State} (h : Quiet s t) (hs : ClockLogKept s) : ClockLogKept t := by
  obtain ⟨hc, hl⟩ := (clockLogKept_iff s).mp hs
  refine (clockLogKept_iff t).mpr ⟨?_, h.log hl⟩
  rw [← clkKept_timeOf, h.time]
  exact hc

/-- Changing the clock alone keeps the invariant where it keeps the ranges of the clock. -/
theorem modClk_keeps {f : Clock → Clock} {s : State} (hf : ClkKept s.clk → ClkKept (f s.clk)) (hs : ClockLogKept s) :
    ClockLogKept (modClk f s) := ⟨hf hs.1, hs.2⟩

/-- The end of a delay lets the crystal run to a moment of the same second (R4). -/
theorem takeDelay_clockLogKept {k : DelayKind} {s t : State} (h : takeDelay k s = some t) (hs : ClockLogKept s) :
    ClockLogKept t := by
  obtain ⟨e, hsub, -⟩ := takeDelay_keeps h
  obtain ⟨⟨h1, h2, h3, h4⟩, hl⟩ := hs
  rw [e]
  refine ⟨⟨h1, h2, ?_, h4⟩, hl⟩
  obtain hsub | hsub := hsub
  · simpa [hsub] using h3
  · exact hsub

theorem onDelay_clockLogKept {act : State → State} (h : ∀ u, Quiet u (act u)) {k : DelayKind} {s : State}
    (hs : ClockLogKept s) : ClockLogKept (onDelay k act s) := by
  unfold onDelay
  split
  · exact hs
  · rename_i u hu
    exact ((h u).trans (quiet_settle s _)).keeps (takeDelay_clockLogKept hu hs)

/-- The inter-byte timer runs out within the second, or is stopped (R197). -/
theorem interByteEnd_clockLogKept {s : State} (hs : ClockLogKept s) : ClockLogKept (interByteEnd s) := by
  unfold interByteEnd
  have started : ClockLogKept (startDelay .interByte Config.interByteUnits s) := Quiet.keeps .same hs
  dsimp only
  cases h : takeDelay .interByte (startDelay .interByte Config.interByteUnits s) with
  | none => exact Quiet.keeps (t := cancelDelay .interByte _) .same started
  | some t => exact takeDelay_clockLogKept h started

/-! ## The crystal second (R1, R9) -/

/-- Moving the count within schedule time leaves the rest of the ranges alone. -/
theorem moveCount_kept {c : Clock} {t : Nat} (ht : t ≤ Config.maxTime) (hu : c.cstate ≠ .unset) (h : ClkKept c) :
    ClkKept (moveCount t c) := by
  obtain ⟨-, -, h3, h4, h5, h6, h7, h8, h9, h10⟩ := h
  refine ⟨ht, fun e => absurd e hu, h3, h4, h5, h6, h7, h8, h9, ?_⟩
  intro hd hn
  simp only [moveCount, deliverDues] at hd hn
  simp only [hn, Bool.or_false] at hd
  exact h10 hd hn

theorem advance_kept {c : Clock} (n : Nat) (hu : c.cstate ≠ .unset) (h : ClkKept c) : ClkKept (advance n c) :=
  moveCount_kept (Nat.min_le_left _ _) hu h

/-- Before the tenth second of a slew the count moves on by one (R9). -/
theorem slewSecond_early {c : Clock} (h : c.slewPhase < 9) :
    slewSecond c = advance 1 { c with slewPhase := c.slewPhase + 1 } := by
  simp [slewSecond, show c.slewPhase + 1 < 10 by omega]

/-- The slew of a clock at the end of a phase: RUNNING when no remainder is left (R9). -/
def slewTo (r : Int) (c : Clock) : Clock :=
  { c with slewPhase := 0, slewRem := r, cstate := if r = 0 then .running else c.cstate }

/-- The tenth second of a slew onward moves the count by two (R9). -/
theorem slewSecond_forward {c : Clock} (h : 9 ≤ c.slewPhase) (hr : 0 < c.slewRem) :
    slewSecond c = slewTo (c.slewRem - 1) (advance 2 c) := by
  simp only [slewSecond, show ¬ c.slewPhase + 1 < 10 by omega, hr, if_true, if_false, slewTo]
  split <;> simp_all [advance, moveCount, deliverDues]

/-- The tenth second of a slew backward holds the count (R9). -/
theorem slewSecond_hold {c : Clock} (h : 9 ≤ c.slewPhase) (hr : c.slewRem ≤ 0) :
    slewSecond c = slewTo (c.slewRem + 1) c := by
  simp only [slewSecond, show ¬ c.slewPhase + 1 < 10 by omega, show ¬ 0 < c.slewRem by omega, if_false, slewTo]
  split <;> simp_all

theorem slewTo_kept {r : Int} {c : Clock} (hs : c.cstate = .slewing) (hl : -2 ≤ r) (hu : r ≤ 2) (h : ClkKept c) :
    ClkKept (slewTo r c) := by
  obtain ⟨h1, -, h3, -, -, -, -, h8⟩ := h
  refine ⟨h1, ?_, h3, hl, hu, ?_, by simp [slewTo], h8⟩
  · simp only [slewTo, hs]
    split <;> exact nofun
  · simp only [slewTo, hs]
    split <;> simp_all

theorem slewSecond_kept {c : Clock} (hs : c.cstate = .slewing) (h : ClkKept c) : ClkKept (slewSecond c) := by
  have hu : c.cstate ≠ .unset := by simp [hs]
  have hr := h.2.2.2
  by_cases hp : c.slewPhase < 9
  · rw [slewSecond_early hp]
    obtain ⟨h1, h2, h3, h4, h5, h6, -, h8⟩ := h
    exact advance_kept 1 hu ⟨h1, h2, h3, h4, h5, h6, Nat.succ_lt_succ hp, h8⟩
  · by_cases hf : 0 < c.slewRem
    · rw [slewSecond_forward (by omega) hf]
      exact slewTo_kept hs (by omega) (by omega) (advance_kept 2 hu h)
    · rw [slewSecond_hold (by omega) (by omega)]
      exact slewTo_kept hs (by omega) (by omega) h

theorem crystalSecond_kept {c : Clock} (h : ClkKept c) : ClkKept (crystalSecond c) := by
  obtain ⟨h1, h2, -, h4⟩ := h
  have h0 : ClkKept { elapseDelays (Config.unitsPerSecond - c.sub) c with sub := 0 } :=
    ⟨h1, h2, by simp, h4⟩
  unfold crystalSecond
  dsimp only
  split
  · exact h0
  · exact advance_kept 1 (by simp_all) h0
  · exact slewSecond_kept (by assumption) h0

/-! ## Setting the clock and its offset (R5 to R10, R15) -/

/-- R5: an offset brought into form is a multiple of 900 within 14 hours of UTC. -/
theorem formOffset_formed (o : Int) : OffsetFormed (formOffset o) := by
  unfold formOffset
  generalize Int.tdiv o 900 = q
  omega

theorem formChange_formed (c : Option OffsetChange) : ∀ ch ∈ formChange c, OffsetFormed ch.offset := by
  intro ch hch
  obtain ⟨ch', -, rfl⟩ := Option.mem_map.mp hch
  exact formOffset_formed _

theorem applyChange_kept {ch : OffsetChange} {c : Clock} (hc : c.change = some ch) (h : ClkKept c) :
    ClkKept (applyChange ch c) := by
  obtain ⟨h1, h2, h3, h4, h5, h6, h7, -, h9, -⟩ := h
  exact ⟨h1, h2, h3, h4, h5, h6, h7, h9 ch hc, nofun, nofun⟩

theorem replaceOffset_kept {o : Int} {ch : Option OffsetChange} {c : Clock} (ho : OffsetFormed o)
    (hc : ∀ x ∈ ch, OffsetFormed x.offset) (h : ClkKept c) : ClkKept (replaceOffset o ch c) := by
  obtain ⟨h1, h2, h3, h4, h5, h6, h7, -⟩ := h
  refine ⟨h1, h2, h3, h4, h5, h6, h7, ho, hc, ?_⟩
  intro hd hn
  simp only [replaceOffset] at hd hn
  simp [hn] at hd

/-- A RUNNING clock has no remainder; its offsets are judged as they stood (R2, R9). -/
theorem clkKept_running {c : Clock} (hr : c.cstate = .running) (hz : c.slewRem = 0) (ht : c.count ≤ Config.maxTime)
    (hsub : c.sub < Config.unitsPerSecond) (hp : c.slewPhase < 10)
    (ho : OffsetFormed c.offset ∧ (∀ ch ∈ c.change, OffsetFormed ch.offset) ∧ (c.changeDue = true → c.change ≠ none)) :
    ClkKept c := ⟨ht, by simp [hr], hsub, by simp [hz], by simp [hz], by simp [hr, hz], hp, ho⟩

theorem stepClock_kept {t : Nat} {c : Clock} (ht : t ≤ Config.maxTime) (h : ClkKept c) : ClkKept (stepClock t c) := by
  obtain ⟨h1, -, -, -, -, -, -, h8⟩ := h
  unfold stepClock
  dsimp only
  split
  · exact moveCount_kept ht nofun (clkKept_running rfl rfl h1 (by simp) (by simp) h8)
  · exact clkKept_running rfl rfl ht (by simp) (by simp) h8

/-- R8: a slew is of 2 s at most. -/
theorem slewClock_kept {d : Int} {c : Clock} (hd : d.natAbs ≤ 2) (h : ClkKept c) :
    ClkKept (slewClock d c) := by
  obtain ⟨h1, -, h3, -, -, -, h7, h8⟩ := h
  unfold slewClock
  split
  · exact clkKept_running rfl rfl h1 h3 h7 h8
  · rename_i hz
    exact ⟨h1, nofun, h3, by dsimp only; omega, by dsimp only; omega, by simp [hz], by simp, h8⟩

theorem setCount_kept {t : Nat} {c : Clock} (ht : t ≤ Config.maxTime) (h : ClkKept c) : ClkKept (setCount t c) := by
  unfold setCount
  split
  · obtain ⟨-, -, -, -, -, -, -, h8⟩ := h
    exact clkKept_running rfl rfl ht (by simp [firstSet, deliverDues]) (by simp [firstSet, deliverDues]) h8
  · split
    · exact stepClock_kept ht h
    · rename_i hs
      exact slewClock_kept (by simpa [isStep] using hs) h

theorem timeSet_clockLogKept (tag : Byte) {m : TimeSetMsg} {s : State} (hm : m.time ≤ Config.maxTime)
    (hs : ClockLogKept s) : ClockLogKept (timeSet tag m s) := by
  have set : ClockLogKept (takeTimeSet tag m s) := by
    have h := modClk_keeps (f := fun _ => replaceOffset (formOffset m.offset) (formChange m.change)
      (setCount m.time s.clk)) (fun h => replaceOffset_kept (formOffset_formed _) (formChange_formed _)
        (setCount_kept hm h)) hs
    have submitted := submitFree_quiet (timeSetConds m s.clk (setCount m.time s.clk)) (modClk (fun _ =>
      replaceOffset (formOffset m.offset) (formChange m.change) (setCount m.time s.clk)) s)
    exact (submitted.trans (.same (by simp [takeTimeSet]) (by simp [takeTimeSet]))).keeps h
  unfold timeSet
  split
  · split
    · exact Quiet.keeps .same hs
    · exact set
  · exact set

/-! ## The messages of the Condition Log (R174 to R178) -/

theorem clearedBank_kept (b : Bank) : BankKept (clearedBank b) :=
  ⟨Nat.zero_le _, ⟨nofun, fun h => absurd h (Nat.lt_irrefl 0)⟩, fun _ => rfl⟩

theorem clearBank_kept (counter : Bool) {c : CondLog} (b : BankId) (h : CndKept c) : CndKept (clearBank counter c b) := by
  have h1 : CndKept (setBank b (clearedBank (bankAt b c)) c) := setBank_kept b h (clearedBank_kept _)
  unfold clearBank
  dsimp only
  split
  · exact setGap_kept _ h1 ⟨by simp, (h1.2 _).2⟩
  · exact h1

theorem configBank_kept {m : CondConfigMsg} (hm : ∀ v, m.threshold = some v → v ≤ 65535) {c : CondLog} (b : BankId)
    (h : CndKept c) : CndKept (configBank m c b) := by
  have h1 (old : Bank) (e : old = bankAt b c) : CndKept (setBank b
      { old with mask := m.mask.getD old.mask, enable := m.enable.getD old.enable } c) := by
    subst e
    exact setBank_kept b h (h.1 b)
  unfold configBank
  dsimp only
  split
  · rename_i v t hv _
    exact setGap_kept t (h1 _ rfl) ⟨((h1 _ rfl).2 t).1, hm v hv⟩
  · exact h1 _ rfl

/-- A fold keeps what each of its steps keeps of the log. -/
theorem foldl_cndKept {f : CondLog → BankId → CondLog} (hf : ∀ c b, CndKept c → CndKept (f c b)) (bs : List BankId)
    {c : CondLog} (h : CndKept c) : CndKept (bs.foldl f c) := by
  induction bs generalizing c with
  | nil => exact h
  | cons b bs ih => exact ih (hf c b h)

theorem condRead_quiet (tag : Byte) (n : Nat) (s : State) : Quiet s (condRead tag n s) := by
  unfold condRead
  split
  all_goals exact .same

theorem condClear_quiet (tag : Byte) (m : Nat × Bool) (s : State) : Quiet s (condClear tag m s) := by
  unfold condClear
  split
  · exact .same
  · rename_i bs _
    refine .ite .same ⟨by simp, fun h => ?_⟩
    simpa using foldl_cndKept (fun c b => clearBank_kept m.2 b) bs h

theorem condConfig_quiet (tag : Byte) {m : CondConfigMsg} (hm : ∀ v, m.threshold = some v → v ≤ 65535) (s : State) :
    Quiet s (condConfig tag m s) := by
  unfold condConfig
  refine .ite .same ?_
  split
  · exact .same
  · rename_i bs _
    refine .ite .same ⟨by simp, fun h => ?_⟩
    simpa using foldl_cndKept (fun c b => configBank_kept hm b) bs h

/-! ## The resets (R16, R179) -/

theorem freshLog_kept : CndKept freshLog := (logKept_iff State.reset).mp (by decide)

theorem warmLog_kept {c : CondLog} (h : CndKept c) : CndKept (warmLog c) := by
  refine ⟨fun b => ?_, fun t => ?_⟩
  · cases b <;> exact clearedBank_kept _
  · cases t
    · exact ⟨Nat.zero_le _, (h.2 .a).2⟩
    · exact ⟨Nat.zero_le _, (h.2 .b).2⟩

theorem warmReset_quiet (s : State) : Quiet s (warmReset s) :=
  ⟨by simp only [warmReset, beginPass_clk, startKeepalive_time]; rfl, fun h => by simpa [warmReset] using warmLog_kept h⟩

theorem coldReset_quiet (s : State) : Quiet s (coldReset s) :=
  ⟨by simp only [coldReset, startKeepalive_time]; rfl, fun _ => by simpa [coldReset] using freshLog_kept⟩

/-! ## Every command -/

/-- A command that answers a state reached quietly. -/
theorem Quiet.answers {s u t : State} (q : Quiet s u) (hs : ClockLogKept s)
    (h : (.next u : Host.Outcome State Fault Refusal) = .next t) : ClockLogKept t := by
  cases h
  exact q.keeps hs

/-- A command that settles a state reached quietly. -/
theorem Quiet.settles {s u t : State} (q : Quiet s u) (hs : ClockLogKept s)
    (h : (.next (settle s u) : Host.Outcome State Fault Refusal) = .next t) : ClockLogKept t :=
  (q.trans (quiet_settle s u)).answers hs h

theorem execDayRollover_clockLogKept {s t : State} (hs : ClockLogKept s) (h : execDayRollover s = .next t) :
    ClockLogKept t := by
  unfold execDayRollover at h
  split at h
  · exact (Quiet.refl s).answers hs h
  · cases h
    have taken : ClockLogKept (modClk rolloverTaken s) := modClk_keeps (fun h => h) hs
    exact ((handRollover_quiet _).trans (quiet_settle s _)).keeps taken

theorem execOffsetChange_clockLogKept {s t : State} (hs : ClockLogKept s) (h : execOffsetChange s = .next t) :
    ClockLogKept t := by
  unfold execOffsetChange at h
  split at h
  · rename_i ch _ hc
    cases h
    have applied : ClockLogKept (modClk (applyChange ch) s) := modClk_keeps (applyChange_kept hc) hs
    have logged := Quiet.ite (p := ch.offset = s.clk.offset) (.refl (modClk (applyChange ch) s))
      (submit_quiet (clockCond .offsetChanged) _)
    exact (logged.trans ((setDirty_quiet _).trans (quiet_settle s _))).keeps applied
  · exact (Quiet.refl s).answers hs h

theorem execTimeSet_clockLogKept {tag : Byte} {p : List Byte} {s t : State} (hs : ClockLogKept s)
    (h : execTimeSet tag p s = .next t) : ClockLogKept t := by
  cases h
  refine (quiet_settle s _).keeps ?_
  unfold onMessage onFrame
  split
  · exact hs
  · dsimp only
    split
    · exact Quiet.keeps .same hs
    · have taken : ClockLogKept (frameInHand (frameArrived 0x10 tag p (frameCheck 0x10 tag p) s)) :=
        Quiet.keeps .same hs
      split
      · exact timeSet_clockLogKept tag (pTimeSet_time_le ‹_›) taken
      · exact Quiet.keeps .same taken

theorem reset_clockLogKept : ClockLogKept State.reset := ⟨by decide, by decide⟩

theorem timeGet_quiet (tag : Byte) (s : State) : Quiet s (timeGet tag s) := answerOk_quiet _ _ _ s

section Commands

variable {s t : State} {kind tag : Byte} {p : List Byte}

theorem execWarmReset_quiet (h : execWarmReset s = .next t) : Quiet s t := by
  unfold execWarmReset at h
  split at h
  · cases h
    exact warmReset_quiet s
  · cases h
    exact .refl s

theorem execColdReset_quiet (h : execColdReset s = .next t) : Quiet s t := by
  unfold execColdReset at h
  split at h
  · cases h
    exact coldReset_quiet s
  · cases h
    exact .refl s

theorem execInstall_quiet (h : execInstall s = .next t) : Quiet s t := by
  unfold execInstall at h
  split at h
  · cases h
    exact (installPass_quiet _ s).trans (settleOutputs_quiet s _)
  · cases h
    exact .refl s

/-- GUIDE_PUT judges the clock before its payload (log entry 13). -/
theorem execGuidePut_quiet (h : execGuidePut tag p s = .next t) : Quiet s t := by
  cases h
  refine (onFrame_quiet (fun u => .ite ?_ .same) _ _ _ _).trans (quiet_settle s _)
  split
  · exact .same
  · exact .ite .same (guidePut_quiet tag _ u)

theorem execBadCheck_quiet {check : BitVec 16} (h : execBadCheck kind tag p check s = .next t) : Quiet s t := by
  unfold execBadCheck answerBadCheck at h
  dsimp only at h
  repeat' split at h
  all_goals
    cases h
    exact .same

theorem execBadKind_quiet (h : execBadKind kind tag p s = .next t) : Quiet s t := by
  unfold execBadKind at h
  split at h
  · cases h
    exact .refl s
  · cases h
    refine onFrame_quiet (fun u => ?_) _ _ _ _
    unfold answerBadKind
    exact .same

theorem execFrameDiscardedInHand_quiet (h : execFrameDiscardedInHand kind tag p s = .next t) : Quiet s t := by
  unfold execFrameDiscardedInHand at h
  split at h
  all_goals
    cases h
    exact .same

theorem execLineFramingError_quiet {bs : List Byte} (h : execLineFramingError bs s = .next t) : Quiet s t := by
  unfold execLineFramingError at h
  split at h
  all_goals
    cases h
    exact .same

theorem execInterByteTimeout_clockLogKept {bs : List Byte} (hs : ClockLogKept s)
    (h : execInterByteTimeout bs s = .next t) : ClockLogKept t := by
  unfold execInterByteTimeout at h
  split at h
  · cases h
    exact hs
  · split at h
    · cases h
      exact hs
    · cases h
      exact interByteEnd_clockLogKept (Quiet.keeps .same hs)

theorem execReplySent_quiet (h : execReplySent s = .next t) : Quiet s t := by
  unfold execReplySent at h
  split at h
  all_goals
    cases h
    exact .same

theorem execFrameLengthExceeds512_quiet {high low : Byte} (h : execFrameLengthExceeds512 high low s = .next t) :
    Quiet s t := by
  unfold execFrameLengthExceeds512 at h
  split at h
  all_goals
    cases h
    exact .same

end Commands

/-- One command keeps the ranges: the commands of the Clock Unit and the ends of delays by their own lemmas, every other
one because it is quiet. -/
theorem exec_clockLogKept (c : Instr) {s t : State} (hs : ClockLogKept s) (h : exec c s = .next t) :
    ClockLogKept t := by
  cases c with
  | powerOn =>
    cases h
    exact reset_clockLogKept
  | warmReset => exact (execWarmReset_quiet h).keeps hs
  | coldReset => exact (execColdReset_quiet h).keeps hs
  | crystalSecond =>
    cases h
    exact modClk_keeps crystalSecond_kept hs
  | dayRollover => exact execDayRollover_clockLogKept hs h
  | offsetChange => exact execOffsetChange_clockLogKept hs h
  | timeSet tag p => exact execTimeSet_clockLogKept hs h
  | timeGet tag p => exact Quiet.answers (onMessage_quiet (fun _ _ u => timeGet_quiet tag u) _ _ _) hs h
  | guidePut tag p => exact (execGuidePut_quiet h).keeps hs
  | guideDropKeys tag p => exact Quiet.settles (onMessage_quiet (fun m _ => guideDrop_quiet tag m) _ _ _) hs h
  | guideDropService tag p => exact Quiet.settles (onMessage_quiet (fun m _ => guideDrop_quiet tag m) _ _ _) hs h
  | eventStatus tag p => exact Quiet.settles (onMessage_quiet (fun m _ => eventStatus_quiet tag m) _ _ _) hs h
  | guideGetEvent tag p => exact Quiet.answers (onFrame_quiet (guideGet_quiet tag p) _ _ _ _) hs h
  | guideGetSummary tag p => exact Quiet.answers (onFrame_quiet (guideGet_quiet tag p) _ _ _ _) hs h
  | bookEvent tag p => exact Quiet.settles (onMessage_quiet (fun m _ => bookEvent_quiet tag m) _ _ _) hs h
  | bookSeries tag p => exact Quiet.settles (onMessage_quiet (fun m _ => bookSeries_quiet tag m) _ _ _) hs h
  | bookManual tag p => exact Quiet.settles (onMessage_quiet (fun m _ => bookManual_quiet tag m) _ _ _) hs h
  | bookChange tag p => exact Quiet.settles (onMessage_quiet (fun m _ => bookChange_quiet tag m) _ _ _) hs h
  | bookSuspend tag p => exact Quiet.settles (onMessage_quiet (fun m _ => moveBooking_quiet _ tag _ m) _ _ _) hs h
  | bookResume tag p => exact Quiet.settles (onMessage_quiet (fun m _ => moveBooking_quiet _ tag _ m) _ _ _) hs h
  | bookDelete tag p => exact Quiet.settles (onMessage_quiet (fun m _ => bookDelete_quiet tag m) _ _ _) hs h
  | bookGet tag p => exact Quiet.answers (onMessage_quiet (fun m _ => bookGet_quiet tag m) _ _ _) hs h
  | bookList tag p => exact Quiet.answers (onMessage_quiet (fun m _ => bookList_quiet tag m) _ _ _) hs h
  | historyAdd tag p => exact Quiet.settles (onMessage_quiet (fun m _ => historyAdd_quiet tag m) _ _ _) hs h
  | historyDropPair tag p => exact Quiet.settles (onMessage_quiet (fun m _ => historyDrop_quiet tag m) _ _ _) hs h
  | historyDropSeries tag p => exact Quiet.settles (onMessage_quiet (fun m _ => historyDrop_quiet tag m) _ _ _) hs h
  | historyGet tag p => exact Quiet.answers (onMessage_quiet (fun m _ => historyGet_quiet tag m) _ _ _) hs h
  | instanceGet tag p => exact Quiet.answers (onMessage_quiet (fun m _ => instanceGet_quiet tag m) _ _ _) hs h
  | planGet tag p => exact Quiet.answers (onMessage_quiet (fun m _ => planGet_quiet tag m) _ _ _) hs h
  | outcomeTake tag p => exact Quiet.settles (onMessage_quiet (fun m _ => outcomeTake_quiet tag m) _ _ _) hs h
  | clashGet tag p => exact Quiet.answers (onMessage_quiet (fun m _ => clashGet_quiet tag m) _ _ _) hs h
  | install => exact (execInstall_quiet h).keeps hs
  | windowStart n => exact Quiet.answers (onDue_quiet (takeWindowStart_quiet n) _ s) hs h
  | coreEnd n => exact Quiet.answers (onDue_quiet (takeCoreEnd_quiet n) _ s) hs h
  | heldStartLimit n => exact Quiet.answers (onDue_quiet (takeHeldLimit_quiet n) _ s) hs h
  | stopMoment n => exact Quiet.answers (onDue_quiet (enterStopping_quiet _ n) _ s) hs h
  | overrunCap n => exact Quiet.answers (onDue_quiet (takeOverrunCap_quiet n) _ s) hs h
  | startConfirmTimeout n =>
    cases h
    exact onDelay_clockLogKept (takeStartTimeout_quiet n) hs
  | stopConfirmTimeout n =>
    cases h
    exact onDelay_clockLogKept (takeStopTimeout_quiet n) hs
  | recReportStarted tag p => exact Quiet.settles (onMessage_quiet (fun m _ => recReport_quiet tag m) _ _ _) hs h
  | recReportStartFailed tag p => exact Quiet.settles (onMessage_quiet (fun m _ => recReport_quiet tag m) _ _ _) hs h
  | recReportStopped tag p => exact Quiet.settles (onMessage_quiet (fun m _ => recReport_quiet tag m) _ _ _) hs h
  | viewClaimNew tag p => exact Quiet.settles (onMessage_quiet (fun m _ => viewClaim_quiet tag m) _ _ _) hs h
  | viewClaimChange tag p => exact Quiet.settles (onMessage_quiet (fun m _ => viewClaim_quiet tag m) _ _ _) hs h
  | viewRelease tag p => exact Quiet.settles (onMessage_quiet (fun m _ => viewRelease_quiet tag m) _ _ _) hs h
  | yieldWarning n => exact Quiet.answers (onDue_quiet (takeYieldWarning_quiet n) _ s) hs h
  | lockGraceEnd u => exact Quiet.answers (onDue_quiet (takeGraceEnd_quiet u) _ s) hs h
  | lockMonitorTick u locked =>
    cases h
    exact onDelay_clockLogKept (takeTick_quiet u locked) hs
  | lockAbandon u => exact Quiet.answers (onDue_quiet (takeAbandon_quiet u) _ s) hs h
  | windowClose n => exact Quiet.answers (onDue_quiet (takeWindowClose_quiet n) _ s) hs h
  | keepaliveExpiry =>
    cases h
    exact onDelay_clockLogKept (takeKeepalive_quiet) hs
  | wakeDue => exact Quiet.answers (onDue_quiet (takeWakeDue_quiet) _ s) hs h
  | wakeTimeout =>
    cases h
    exact onDelay_clockLogKept (takeWakeTimeout_quiet) hs
  | resetPulseEnd =>
    cases h
    exact onDelay_clockLogKept (modWsv_quiet _) hs
  | hello tag p =>
    exact Quiet.answers ((onMessage_quiet (fun _ _ u => hello_quiet tag u) _ _ _).trans (settleOutputs_quiet s _)) hs h
  | standby tag p => exact Quiet.settles (onMessage_quiet (fun _ _ u => standby_quiet tag u) _ _ _) hs h
  | causeClear tag p => exact Quiet.answers (onMessage_quiet (fun _ _ u => causeClear_quiet tag u) _ _ _) hs h
  | resetPart tag p => exact Quiet.answers (onMessage_quiet (fun m _ => resetPart_quiet tag m) _ _ _) hs h
  | condRead tag p => exact Quiet.answers (onMessage_quiet (fun m _ => condRead_quiet tag m) _ _ _) hs h
  | condClear tag p => exact Quiet.answers (onMessage_quiet (fun m _ => condClear_quiet tag m) _ _ _) hs h
  | condConfig tag p =>
    exact Quiet.answers (onMessage_quiet
      (fun _ hm => condConfig_quiet tag (fun _ => pCondConfig_threshold_le hm)) _ _ _) hs h
  | noticeFetch tag p => exact Quiet.settles (onMessage_quiet (fun _ _ u => noticeFetch_quiet tag u) _ _ _) hs h
  | actionsGet tag p => exact Quiet.answers (onMessage_quiet (fun _ _ u => actionsGet_quiet tag u) _ _ _) hs h
  | configSet tag p => exact Quiet.settles (onMessage_quiet (fun m _ => configSet_quiet tag m) _ _ _) hs h
  | configGet tag p => exact Quiet.answers (onFrame_quiet (configGet_quiet tag _) _ _ _ _) hs h
  | badCheck kind tag p check => exact (execBadCheck_quiet h).keeps hs
  | badKind kind tag p => exact (execBadKind_quiet h).keeps hs
  | frameDiscardedInHand kind tag p => exact (execFrameDiscardedInHand_quiet h).keeps hs
  | lineFramingError bs => exact (execLineFramingError_quiet h).keeps hs
  | interByteTimeout bs => exact execInterByteTimeout_clockLogKept hs h
  | replySent => exact (execReplySent_quiet h).keeps hs
  | frameLengthExceeds512 high low => exact (execFrameLengthExceeds512_quiet h).keeps hs

/-- Settles O52: a step takes a command off the queue, which no range speaks of, and the command keeps the ranges. -/
theorem stepsKeepTheClockAndTheLog : Obligations.StepsKeepTheClockAndTheLog := by
  intro s t hs h
  unfold step at h
  split at h
  · cases h
    exact hs
  · rename_i c rest _
    exact exec_clockLogKept c (s := { s with pending := rest }) hs h

end Sys2Proof.Machine

/-! PROOFS. The resets, the crystal second, the undelivered events and the local conversion. -/

namespace Sys2Proof.Machine

-- one theorem after another: many at a time would want a thread each
set_option Elab.async false

open Sys2Proof

/-! ## The resets (R16, R34, R57, R92, R116, R165, R179, R194, R209) -/

/-- After a reset the host is AWAKE, so the keepalive interval runs unless its code is OFF (R194). -/
theorem startKeepalive_awake {s : State} (h : s.wsv.host = .awake) (hd : s.clk.delays = []) :
    startKeepalive s = modClk (fun c => { c with delays := keepaliveAfterReset s.wsv.keepCode }) s := by
  unfold startKeepalive keepaliveAfterReset
  cases hk : s.wsv.keepCode <;> simp only [h]
  · simp [modClk, ← hd]
  · simp [startDelay, modClk, hd, secs, keepaliveSecs]

/-- A dirty flag raised by a reset is a pass asked for (R93, R94, R116). -/
theorem beginPass_dirty {s : State} (b : Bool) (hp : s.pln.passState = .idle) (hd : s.pln.dirty = false) :
    beginPass (modPln (fun p => { p with dirty := b }) s) = askPassIf b s := by
  cases b with
  | false =>
    have same : modPln (fun p => { p with dirty := false }) s = s := by rw [← hd]; rfl
    rw [same, beginPass, if_neg (by simp [hd])]
    rfl
  | true =>
    rw [askPassIf, if_pos rfl, ← beginPass_setDirty]
    simp [setDirty, modPln, hp]

/-- Settles O4, part by part from the equations of the two resets. -/
theorem resetsKeepWhatTheirRulesKeep : Obligations.ResetsKeepWhatTheirRulesKeep := by
  refine ⟨fun s h => ?_, fun s h => ?_, fun s h => ?_, fun s h => ?_⟩
  · show execWarmReset s = _
    rw [execWarmReset, if_pos h, warmReset, startKeepalive_awake rfl rfl]
    refine congrArg _ (Eq.trans ?_ (beginPass_dirty _ ?_ ?_)) <;> rfl
  · exact if_neg h
  · show execColdReset s = _
    rw [execColdReset, if_pos h, coldReset, startKeepalive_awake rfl rfl]
    rfl
  · exact if_neg h

/-- Settles O3: every clause reads a field of the power-on state. -/
theorem powerOnValues : Obligations.PowerOnValues := by
  intro s
  refine ⟨_, rfl, ?_⟩
  have tuners (u : Tuner) : tunerRun u { State.reset with free := s.free, pending := s.pending } = idleTuner := by
    cases u <;> rfl
  have banks (b : BankId) : bankAt b freshLog = freshBank := by cases b <;> rfl
  have gaps (u : Tuner) : gapAt u freshLog = freshGap := by cases u <;> rfl
  simp only [tuners]
  simp [State.reset, powerOnClock, freshBookings, freshList, freshPlanner, freshRun, powerOnWake, freshLink, idleRx,
    idleTuner, banks, gaps, freshBank, freshGap, Config.wakeSecs, Config.unitsPerSecond]

/-- Settles O50: the lists after power-on are empty, and the settings stand in their ranges. -/
theorem resetMeetsEveryInvariant : Obligations.ResetMeetsEveryInvariant := by
  have room : RoomKept State.reset := by decide
  have noInst : State.reset.lst.insts = [] := rfl
  have noSnapshot : State.reset.pln.snapshot = none := rfl
  refine ⟨by decide, by decide, by decide, by decide, by decide, by decide, by decide, room, by decide, by decide,
    ⟨room, ?_⟩, ⟨room, ?_⟩⟩
  · simp [noInst, noSnapshot]
  · simp [noInst, noSnapshot]

/-! ## The crystal second (R1, R3, R4, R9, R14, R15) -/

theorem deliverDues_dues (c : Clock) :
    (deliverDues c).dues = c.dues.map (fun d => { d with delivered := d.delivered || decide (d.time ≤ c.count) }) := by
  refine List.map_congr_left (fun d _ => ?_)
  by_cases h : d.time ≤ c.count <;> simp [h]

section MoveCount

variable (t n : Nat) (c : Clock)

@[simp] theorem moveCount_count : (moveCount t c).count = t := rfl
@[simp] theorem moveCount_cstate : (moveCount t c).cstate = c.cstate := rfl
@[simp] theorem moveCount_slewRem : (moveCount t c).slewRem = c.slewRem := rfl
@[simp] theorem moveCount_slewPhase : (moveCount t c).slewPhase = c.slewPhase := rfl
@[simp] theorem moveCount_sub : (moveCount t c).sub = c.sub := rfl
@[simp] theorem moveCount_offset : (moveCount t c).offset = c.offset := rfl
@[simp] theorem moveCount_change : (moveCount t c).change = c.change := rfl
@[simp] theorem moveCount_nextMidnight : (moveCount t c).nextMidnight = c.nextMidnight := rfl
@[simp] theorem moveCount_delays : (moveCount t c).delays = c.delays := rfl
@[simp] theorem moveCount_rollovers : (moveCount t c).rollovers =
    if c.count / 86400 < t / 86400 then c.rollovers + 1 else c.rollovers := rfl
@[simp] theorem moveCount_dues : (moveCount t c).dues =
    c.dues.map (fun d => { d with delivered := d.delivered || decide (d.time ≤ t) }) :=
  deliverDues_dues { c with count := t }

theorem moveCount_changeDue {t : Nat} {c : Clock} {ch : OffsetChange} (h : c.change = some ch) :
    (moveCount t c).changeDue = (c.changeDue || decide (ch.time ≤ t)) := by simp [moveCount, deliverDues, h]

end MoveCount

/-- The clock once the crystal has run to the end of the second, before the count moves (R1, R4). -/
def secondEnd (c : Clock) : Clock := { elapseDelays (Config.unitsPerSecond - c.sub) c with sub := 0 }

/-- What a crystal second can do: nothing to the count of an UNSET clock; one second on; or one of the three seconds of a
slew, before the tenth, at the tenth forward, at the tenth backward (R1, R2, R9). -/
theorem crystalSecond_cases (c : Clock) :
    (c.cstate = .unset ∧ crystalSecond c = secondEnd c) ∨
    (c.cstate = .running ∧ crystalSecond c = advance 1 (secondEnd c)) ∨
    (c.cstate = .slewing ∧ c.slewPhase < 9 ∧
      crystalSecond c = advance 1 { secondEnd c with slewPhase := c.slewPhase + 1 }) ∨
    (c.cstate = .slewing ∧ 9 ≤ c.slewPhase ∧ 0 < c.slewRem ∧
      crystalSecond c = slewTo (c.slewRem - 1) (advance 2 (secondEnd c))) ∨
    (c.cstate = .slewing ∧ 9 ≤ c.slewPhase ∧ c.slewRem ≤ 0 ∧
      crystalSecond c = slewTo (c.slewRem + 1) (secondEnd c)) := by
  have slews (h : c.cstate = .slewing) : crystalSecond c = slewSecond (secondEnd c) := by
    simp [crystalSecond, secondEnd, elapseDelays, h]
  cases h : c.cstate with
  | unset => simp [crystalSecond, secondEnd, elapseDelays, h]
  | running => simp [crystalSecond, secondEnd, elapseDelays, h]
  | slewing =>
    rw [slews h]
    obtain hp | hp := Nat.lt_or_ge c.slewPhase 9
    · exact .inr (.inr (.inl ⟨rfl, hp, slewSecond_early (c := secondEnd c) hp⟩))
    · obtain hr | hr := lt_or_ge 0 c.slewRem
      · exact .inr (.inr (.inr (.inl ⟨rfl, hp, hr, slewSecond_forward (c := secondEnd c) hp hr⟩)))
      · exact .inr (.inr (.inr (.inr ⟨rfl, hp, hr, slewSecond_hold (c := secondEnd c) hp hr⟩)))

/-- Settles O5, by the five ways of a crystal second. -/
theorem crystalSecondMovesTheCount : Obligations.CrystalSecondMovesTheCount := by
  intro s
  refine ⟨modClk crystalSecond s, rfl, rfl, ?_⟩
  rw [modClk_clk]
  have change (n : Nat) (c : Clock) (hc : c.change = s.clk.change) (hd : c.changeDue = s.clk.changeDue) :
      ∀ ch ∈ s.clk.change, (advance n c).changeDue =
        (s.clk.changeDue || decide (ch.time ≤ (advance n c).count)) := by
    intro ch hch
    rw [← hd]
    exact moveCount_changeDue (hc.trans hch)
  obtain ⟨h, e⟩ | ⟨h, e⟩ | ⟨h, hp, e⟩ | ⟨h, hp, hr, e⟩ | ⟨h, hp, hr, e⟩ := crystalSecond_cases s.clk
  · simp [e, h, secondEnd, elapseDelays]
  · have due := change 1 (secondEnd s.clk) rfl rfl
    rw [e]
    simpa [h, secondEnd, elapseDelays, advance] using due
  · have due := change 1 { secondEnd s.clk with slewPhase := s.clk.slewPhase + 1 } rfl rfl
    rw [e]
    simpa [h, hp, hp.not_ge, secondEnd, elapseDelays, advance] using due
  · have due := change 2 (secondEnd s.clk) rfl rfl
    have last : s.clk.slewRem - 1 = 0 ↔ s.clk.slewRem = 1 := by omega
    rw [e]
    simpa [h, hp, hp.not_gt, hr, hr.not_gt, last, slewTo, secondEnd, elapseDelays, advance] using due
  · have last : s.clk.slewRem + 1 = 0 ↔ s.clk.slewRem = -1 := by omega
    rw [e]
    simp [h, hp, hp.not_gt, hr.not_gt, last, slewTo, secondEnd, elapseDelays]

/-! ## Undelivered events, and the local conversion (R3, R12, R13) -/

/-- An event whose request has not been delivered is not taken (R3; log entry 2). -/
theorem onDue_undelivered {k : DueKind} {s : State} (act : State → State)
    (h : ∀ d ∈ s.clk.dues, d.kind = k → d.delivered = false) : onDue k act s = s := by
  unfold onDue
  obtain ⟨⟨d, hd, hk, hv⟩, -⟩ | ⟨-, e⟩ := takeDue_cases k s
  · rw [h d hd hk] at hv
    cases hv
  · rw [e]

/-- Settles O47: each command of the part's own clock takes its request by `onDue`. -/
theorem undeliveredEventsDoNothing : Obligations.UndeliveredEventsDoNothing := by
  intro c k s hk h
  have taken (act : State → State) : (.next (onDue k act s) : Host.Outcome State Fault Refusal) = .next s :=
    congrArg _ (onDue_undelivered act h)
  unfold dueOf at hk
  split at hk
  case h_11 => cases hk
  all_goals
    cases hk
    exact taken _

/-- Settles O48: floor division and its remainder give the time back (R12, R13). -/
theorem localConversionRoundTrip : Obligations.LocalConversionRoundTrip := by
  intro t o ht
  have day : localDay t o = (Int.ofNat t + o) / 86400 := Int.fdiv_eq_ediv_of_nonneg _ (by decide)
  have back : localDay t o * 86400 + Int.ofNat ((Int.ofNat t + o) % 86400).toNat - o = Int.ofNat t := by
    rw [day]
    simp only [Int.ofNat_eq_natCast]
    omega
  simp only [convertLocal, back]
  simp only [Int.ofNat_eq_natCast, Int.toNat_natCast]
  exact if_pos ⟨by omega, by omega⟩

end Sys2Proof.Machine

/-! PROOFS. The day rollover, the offset change and TIME_SET. -/

namespace Sys2Proof.Machine

-- one theorem after another: many at a time would want a thread each
set_option Elab.async false

open Sys2Proof

/-! ## The day rollover (R14, R32) -/

theorem noOverrun_of_lst {s t : State} (e : t.lst = s.lst) (h : NoOverrun s) : NoOverrun t :=
  fun i hi => h i (e ▸ hi)

/-- The end of an event is handed to Run Control only where a recording overruns (R28, R153). -/
theorem handStatus_noOverrun {s : State} (h : NoOverrun s) (k : EventKey) (st : Option RunStatus) :
    handStatus k st s = s := by
  unfold handStatus
  split
  · rfl
  · have none : idsWhere (fun i => i.origin == .event k && i.overrun.isSome &&
        (i.state == .starting || i.state == .recording)) s = [] := by
      rw [idsWhere, List.filter_eq_nil_iff.mpr (fun i hi => by simp [h i hi])]
      rfl
    rw [none]
    rfl

theorem setDirty_setDirtyIf (b : Bool) (s : State) : setDirty (setDirtyIf b s) = setDirty s := by
  cases b
  · rfl
  · cases hp : s.pln.passState <;> simp [setDirtyIf, setDirty, modPln, hp]

theorem setDirtyIf_setDirtyIf (b c : Bool) (s : State) : setDirtyIf b (setDirtyIf c s) = setDirtyIf (b || c) s := by
  cases b
  · rfl
  · exact setDirty_setDirtyIf c s

theorem setRecs_setDirtyIf (recs : List GuideRec) (b : Bool) (s : State) :
    setRecs recs (setDirtyIf b s) = setDirtyIf b (setRecs recs s) := by cases b <;> rfl

/-- Records removed one after another while no recording overruns: those of their keys leave, and the dirty flag may be
set (R27, R32). -/
theorem removeRecs_noOverrun (xs : List GuideRec) {s : State} (h : NoOverrun s) :
    ∃ b, xs.foldl (fun u r => removeRec r u) s =
      setDirtyIf b (setRecs (s.gst.recs.filter (fun r => xs.all (fun x => r.key != x.key))) s) := by
  induction xs generalizing s with
  | nil => exact ⟨false, by simp [setDirtyIf, setRecs]⟩
  | cons x xs ih =>
    have first : removeRec x s = setDirtyIf (relevantRec s x) (takeRec x.key s) :=
      handStatus_noOverrun (s := setDirtyIf (relevantRec s x) (takeRec x.key s)) (noOverrun_of_lst (by simp [takeRec]) h) _ _
    obtain ⟨b, e⟩ := ih (s := removeRec x s) (noOverrun_of_lst (by simp [first, takeRec]) h)
    refine ⟨b || relevantRec s x, ?_⟩
    rw [List.foldl_cons, e, first, setRecs_setDirtyIf, setDirtyIf_setDirtyIf]
    simp [takeRec, setRecs, List.filter_filter, Bool.and_comm]

/-- Ended, and not pinned (R32). -/
def purges (s : State) (r : GuideRec) : Bool := decide (r.start + r.dur ≤ s.clk.count) && r.pins == 0

theorem purgeable_eq (s : State) : purgeable s = s.gst.recs.filter (purges s) := rfl

/-- The purge while no recording overruns: the ended records that no pin holds leave (R32). -/
theorem purgeGuide_noOverrun {s : State} (h : NoOverrun s) (hk : (s.gst.recs.map (fun r => r.key)).Nodup) :
    ∃ b, purgeGuide s = setDirtyIf b (setRecs (s.gst.recs.filter (fun r => !purges s r)) s) := by
  obtain ⟨b, e⟩ := removeRecs_noOverrun (purgeable s) h
  refine ⟨b, e.trans ?_⟩
  congr 2
  refine List.filter_congr (fun r hr => ?_)
  rw [Bool.eq_iff_iff, List.all_eq_true, Bool.not_eq_true', purgeable_eq]
  constructor
  · intro hall
    by_contra hp
    have := hall r (List.mem_filter.mpr ⟨hr, by simpa using hp⟩)
    simp at this
  · intro hp x hx
    obtain ⟨hx, hpx⟩ := List.mem_filter.mp hx
    by_contra hne
    have : r = x := List.inj_on_of_nodup_map hk hr hx (by simpa using hne)
    subst this
    simp [hp] at hpx

/-- The Planner after a day rollover asked it for a pass (R14, R93, R94). -/
def AskedBy (s t : State) : Prop :=
  t.clk.cstate = s.clk.cstate ∧
  (s.pln.passState = .idle → s.clk.cstate ≠ .unset → t.pln.passState = .pass ∧ t.pln.dirty = false) ∧
  (s.pln.passState = .idle → s.clk.cstate = .unset → t.pln.passState = .idle ∧ t.pln.dirty = true) ∧
  (s.pln.passState = .pass → t.pln = { s.pln with again := true })

theorem askedBy_setDirty {s u : State} (hp : u.pln = s.pln) (hc : u.clk.cstate = s.clk.cstate) :
    AskedBy s (beginPass (setDirty u)) := by
  refine ⟨by simpa using hc, fun hi hs => ?_, fun hi hs => ?_, fun hi => ?_⟩
  · simp [beginPass, setDirty, clockSet, hp, hc, hi, hs]
  · simp [beginPass, setDirty, clockSet, hp, hc, hi, hs]
  · simp [beginPass, setDirty, hp, hi]

/-- A purge after the pass was asked for may set the dirty flag again (R27). -/
theorem askedBy_again {s t : State} (h : AskedBy s t) (b : Bool) (recs : List GuideRec) :
    AskedBy s (beginPass (setDirtyIf b (setRecs recs t))) := by
  obtain ⟨hc, hset, hunset, hpass⟩ := h
  refine ⟨by simpa using hc, fun hi hs => ?_, fun hi hs => ?_, fun hi => ?_⟩
  · obtain ⟨hp, hd⟩ := hset hi hs
    cases b <;> simp [beginPass, setDirtyIf, setDirty, hp, hd]
  · obtain ⟨hp, hd⟩ := hunset hi hs
    cases b <;> simp [beginPass, setDirtyIf, setDirty, clockSet, hc, hs, hp, hd]
  · have hp := hpass hi
    cases b <;> simp [beginPass, setDirtyIf, setDirty, hp, hi]

/-- The rollover handed to the Guide Store and the Planner, in either order: the ended records purged, a pass asked for at
the end of the event, and every other part but the model's counter as it stood (log entry 8). -/
theorem handRollover_noOverrun {s : State} (h : NoOverrun s) (hk : (s.gst.recs.map (fun r => r.key)).Nodup) :
    (∃ n p, handRollover s =
      { s with gst := { recs := s.gst.recs.filter (fun r => !purges s r) }, free := n, pln := p }) ∧
    AskedBy s (beginPass (handRollover s)) := by
  unfold handRollover
  split
  · rename_i he
    have kept : s.gst.recs.filter (fun r => !purges s r) = s.gst.recs := by
      rw [List.isEmpty_iff, purgeable_eq, List.filter_eq_nil_iff] at he
      exact List.filter_eq_self.mpr (fun r hr => by simpa using he r hr)
    exact ⟨⟨s.free, _, by rw [kept]; rfl⟩, askedBy_setDirty rfl rfl⟩
  · split
    · obtain ⟨b, e⟩ := purgeGuide_noOverrun (s := bumpFree s) h hk
      rw [e, setDirty_setDirtyIf]
      exact ⟨⟨_, _, rfl⟩, askedBy_setDirty rfl rfl⟩
    · have begun : ∃ p, beginPass (setDirty (bumpFree s)) = { s with free := s.free + 1, pln := p } := by
        unfold beginPass
        split
        · exact ⟨_, rfl⟩
        · exact ⟨_, rfl⟩
      obtain ⟨p, hp⟩ := begun
      obtain ⟨b, e⟩ := purgeGuide_noOverrun (s := beginPass (setDirty (bumpFree s))) (noOverrun_of_lst (by simp) h)
        (by simpa using hk)
      rw [e]
      refine ⟨?_, askedBy_again (askedBy_setDirty rfl rfl) b _⟩
      rw [hp]
      cases b
      · exact ⟨_, _, rfl⟩
      · exact ⟨_, _, rfl⟩

/-! ## The offset change (R15) -/

/-- Of the Link Port only the notice queue has changed. -/
def NoticesOnly (s t : State) : Prop := ∃ ns o, t.lnk = { s.lnk with notices := ns, overflow := o }

theorem NoticesOnly.refl (s : State) : NoticesOnly s s := ⟨_, _, rfl⟩

theorem NoticesOnly.trans {s t u : State} (h : NoticesOnly s t) (k : NoticesOnly t u) : NoticesOnly s u := by
  obtain ⟨ns, o, e⟩ := h
  obtain ⟨ns', o', e'⟩ := k
  exact ⟨ns', o', by rw [e', e]⟩

theorem postNotice_noticesOnly (b : NoticeBody) (s : State) : NoticesOnly s (postNotice b s) := by
  obtain ⟨-, e⟩ | ⟨-, e⟩ := postNotice_cases b s
  · exact ⟨_, _, by rw [e]⟩
  · exact ⟨_, _, by rw [e]⟩

theorem submit_noticesOnly (c : Condition) (s : State) : NoticesOnly s (submit c s) := by
  obtain ⟨-, e⟩ | ⟨-, -, hoff, hon⟩ := submit_cases c s
  · rw [e]
    exact .refl s
  · cases he : hasClass (bankAt c.bank s.cnd).enable c.cls with
    | false => exact ⟨_, _, hoff he⟩
    | true =>
      obtain ⟨ns, o, e⟩ := postNotice_noticesOnly (.condition c.bank c.cls c.code c.iid) s
      exact ⟨ns, o, (hon he).trans e⟩

@[simp] theorem submit_actionSet (c : Condition) (s : State) : (submit c s).lnk.actionSet = s.lnk.actionSet := by
  obtain ⟨ns, o, e⟩ := submit_noticesOnly c s
  rw [e]

/-- An event that asks for a pass and otherwise leaves alone what the end of an event looks at (R94, R204). -/
theorem settle_setDirty {before s : State} (hS : Settled before) (hl : s.lst = before.lst) (hr : s.run = before.run)
    (hw : s.wsv = before.wsv) (hd : s.clk.dues = before.clk.dues) (ha : s.lnk.actionSet = before.lnk.actionSet) :
    settle before (setDirty s) = askPass (withAttn s) :=
  (settle_base before (setDirty s) hS hl hr hw (by simp [heldDue, hd]) ha).trans (beginPass_setDirty (withAttn s))

/-- Settles O6: the rollover by the two orders of its hand-offs, the offset change by the end of its event. -/
theorem rolloverAndOffsetChangeAreTaken : Obligations.RolloverAndOffsetChangeAreTaken := by
  refine ⟨fun s hS hG hN h0 => ?_, fun s h0 => if_pos h0, fun s ch hS hd hc => ?_, fun s hd => ?_⟩
  · obtain ⟨-, hk, -, -⟩ := hG
    obtain ⟨⟨n, p, e⟩, hp⟩ := handRollover_noOverrun (s := modClk rolloverTaken s) hN hk
    have hne : s.clk.rollovers ≠ 0 := by omega
    have run : exec .dayRollover s = .next (beginPass (handRollover (modClk rolloverTaken s))) := by
      refine (if_neg hne).trans (congrArg _ ?_)
      rw [e]
      exact settle_quiet s _ hS rfl rfl rfl rfl rfl rfl rfl
    obtain ⟨-, hset, hunset, hpass⟩ := hp
    refine ⟨_, run, ?_, ?_, hset, hunset, hpass, ?_⟩
    · rw [beginPass_clk, e]
      rfl
    · rw [beginPass_gst, e]
      rfl
    · simp [e]
  · have run : exec .offsetChange s = .next (settle s (setDirty (if ch.offset = s.clk.offset
        then modClk (applyChange ch) s else submit offsetChanged (modClk (applyChange ch) s)))) := by
      show execOffsetChange s = _
      simp only [execOffsetChange, hd, hc]
      rfl
    refine run.trans (congrArg _ (settle_setDirty hS ?_ ?_ ?_ ?_ ?_))
    all_goals
      split
      · rfl
      · simp [applyChange]
  · show execOffsetChange s = _
    simp only [execOffsetChange, hd]

end Sys2Proof.Machine

/-! PROOFS. TIME_SET (R5 to R10): what it makes of the clock, what it logs, and the end of its event. -/

namespace Sys2Proof.Machine

-- one theorem after another: many at a time would want a thread each
set_option Elab.async false

open Sys2Proof

/-! ## The end of an event that has moved the count or changed the standby wanted flag -/

/-- As `settle_base`, for an event that leaves the wake due request at the time R184 asks for, whatever else it has done to
the clock, the host and the Planner: of the state before it, the end of an event reads the list and the run records alone. -/
theorem settle_wake {before s : State} (hS : Settled before) (hl : s.lst = before.lst) (hr : s.run = before.run)
    (hd : (heldDue .wakeDue s).map (fun d => d.time) = wakeTarget s) (ha : s.lnk.actionSet = before.lnk.actionSet) :
    settle before s = beginPass (withAttn s) := by
  obtain ⟨h1, h2, h3, -, h5, -⟩ := hS
  have hd' : (heldDue .wakeDue s).map (fun d => d.time) =
      wakeTarget { s with lst := before.lst } := by rw [hd, ← hl]
  exact settle_base { before with clk := s.clk, wsv := s.wsv, pln := { before.pln with dirty := false } } s
    ⟨h1, h2, h3, hd', h5, nofun⟩ hl hr rfl rfl ha

/-- The pass that the dirty flag of an event asks for (R93, R94, R96). -/
theorem passAsked_beginPass {s u : State} (h : u.pln = (setDirty s).pln) : PassAsked s (beginPass u) := by
  have hu : u = setDirty { u with pln := s.pln } := by
    show u = { u with pln := (setDirty s).pln }
    rw [← h]
  have hb : { beginPass u with pln := s.pln } = { u with pln := s.pln } := by
    unfold beginPass
    split <;> rfl
  unfold PassAsked
  rw [hb, ← beginPass_setDirty, ← hu]

/-- No pass begins where none waits for the clock and the event set no dirty flag (R94). -/
theorem beginPass_noDirty {s u : State} (hS : Settled s) (hc : s.clk.cstate ≠ .unset) (hp : u.pln = s.pln) :
    beginPass u = u := by
  obtain ⟨-, -, -, -, -, h6⟩ := hS
  refine if_neg ?_
  rintro ⟨hi, hd, -⟩
  rw [hp] at hi hd
  exact hc (h6 hi hd)

/-! ## Refused messages -/

theorem refuse_eq {kind : Byte} (h : reportsAgain kind = false) (tag : Byte) (st : Status) (s : State) :
    refuse kind tag st s = withReply (refusalTo kind tag st) s := by
  simp only [refuse, h, Bool.false_and]
  rfl

/-- An event that only answers settles nothing (R82, R204). -/
theorem settle_answered {s : State} (hS : Settled s) (kind tag : Byte) (p : List Byte) (r : Reply) :
    settle s (answered kind tag p r s) = answered kind tag p r s := by
  rw [settle_quiet s (answered kind tag p r s) hS rfl rfl rfl rfl rfl rfl rfl]
  exact beginPass_settled s (answered kind tag p r s) hS rfl rfl

/-! ## Setting the count (R6 to R8) -/

theorem setCount_unset {t : Nat} {c : Clock} (hu : c.cstate = .unset) : setCount t c = firstSet t c := by
  simp [setCount, hu]

theorem setCount_set {t : Nat} {c : Clock} (hu : c.cstate ≠ .unset) :
    setCount t c = if isStep t c then stepClock t c else slewClock (timeDiff t c) c := by
  unfold setCount
  split
  · exact absurd ‹_› hu
  · rfl

theorem setCount_forward {t : Nat} {c : Clock} (hu : c.cstate ≠ .unset) (hd : 2 < (timeDiff t c).natAbs)
    (hf : c.count < t) :
    setCount t c = moveCount t { c with sub := 0, slewRem := 0, slewPhase := 0, cstate := .running } := by
  rw [setCount_set hu, if_pos (by simpa [isStep] using hd)]
  exact if_pos hf

theorem setCount_backward {t : Nat} {c : Clock} (hu : c.cstate ≠ .unset) (hd : 2 < (timeDiff t c).natAbs)
    (hb : t < c.count) : setCount t c = { c with
      sub := 0, slewRem := 0, slewPhase := 0, cstate := .running, count := t, nextMidnight := some (midnightAfter t) } := by
  rw [setCount_set hu, if_pos (by simpa [isStep] using hd)]
  exact if_neg (by omega)

theorem setCount_slew {t : Nat} {c : Clock} (hu : c.cstate ≠ .unset) (hd : ¬ 2 < (timeDiff t c).natAbs) :
    setCount t c = slewClock (timeDiff t c) c := by
  rw [setCount_set hu, if_neg (by simpa [isStep] using hd)]

/-- A step goes forward or backward (R7). -/
theorem step_forward_or_backward {t : Nat} {c : Clock} (hd : 2 < (timeDiff t c).natAbs) : c.count < t ∨ t < c.count := by
  simp only [timeDiff, Int.ofNat_eq_natCast] at hd
  omega

/-- What a TIME_SET can do to the count: set an UNSET clock; step it forward or backward by more than 2 s; or slew it. -/
theorem setCount_cases (t : Nat) (c : Clock) :
    setCount t c = firstSet t c ∨
    setCount t c = moveCount t { c with sub := 0, slewRem := 0, slewPhase := 0, cstate := .running } ∨
    setCount t c = { c with
      sub := 0, slewRem := 0, slewPhase := 0, cstate := .running, count := t, nextMidnight := some (midnightAfter t) } ∨
    setCount t c = slewClock (timeDiff t c) c := by
  by_cases hu : c.cstate = .unset
  · exact .inl (setCount_unset hu)
  · by_cases hd : 2 < (timeDiff t c).natAbs
    · obtain hf | hb := step_forward_or_backward hd
      · exact .inr (.inl (setCount_forward hu hd hf))
      · exact .inr (.inr (.inl (setCount_backward hu hd hb)))
    · exact .inr (.inr (.inr (setCount_slew hu hd)))

/-- A first setting and a step set the count and the state (R6, R7). -/
theorem setCount_big {t : Nat} {c : Clock} (h : c.cstate = .unset ∨ 2 < (timeDiff t c).natAbs) :
    (setCount t c).count = t ∧ (setCount t c).sub = 0 ∧ (setCount t c).cstate = .running ∧
      (setCount t c).slewRem = 0 := by
  by_cases hu : c.cstate = .unset
  · rw [setCount_unset hu]
    exact ⟨rfl, rfl, rfl, rfl⟩
  · have hd := h.resolve_left hu
    obtain hf | hb := step_forward_or_backward hd
    · rw [setCount_forward hu hd hf]
      exact ⟨rfl, rfl, rfl, rfl⟩
    · rw [setCount_backward hu hd hb]
      exact ⟨rfl, rfl, rfl, rfl⟩

/-- A slew leaves the count and sets the remainder to the difference (R8). -/
theorem slewClock_fields (d : Int) (c : Clock) :
    (slewClock d c).count = c.count ∧ (slewClock d c).sub = c.sub ∧ (slewClock d c).slewRem = d ∧
      (slewClock d c).cstate = (if d = 0 then .running else .slewing) ∧ (d ≠ 0 → (slewClock d c).slewPhase = 0) := by
  unfold slewClock
  by_cases h : d = 0 <;> simp [h]

theorem slewClock_frame (d : Int) (c : Clock) :
    (slewClock d c).nextMidnight = c.nextMidnight ∧ (slewClock d c).dues = c.dues ∧
      (slewClock d c).rollovers = c.rollovers ∧ (slewClock d c).changeDue = c.changeDue ∧
      (slewClock d c).delays = c.delays := by
  unfold slewClock
  split <;> exact ⟨rfl, rfl, rfl, rfl, rfl⟩

/-- Delivering requests leaves the time of the one held for a kind (R3). -/
theorem find_delivered (k : DueKind) (t : Nat) (ds : List DueReq) :
    ((ds.map (fun d => { d with delivered := d.delivered || decide (d.time ≤ t) })).find? (fun d => d.kind == k)).map
      (fun d => d.time) = (ds.find? (fun d => d.kind == k)).map (fun d => d.time) := by
  rw [List.find?_map, Option.map_map]
  rfl

theorem setCount_heldTime (k : DueKind) (t : Nat) (c : Clock) :
    ((setCount t c).dues.find? (fun d => d.kind == k)).map (fun d => d.time) =
      (c.dues.find? (fun d => d.kind == k)).map (fun d => d.time) := by
  obtain e | e | e | e := setCount_cases t c
  · rw [e, firstSet, deliverDues_dues]
    exact find_delivered k t c.dues
  · rw [e, moveCount_dues]
    exact find_delivered k t c.dues
  · rw [e]
  · obtain ⟨-, hdues, -⟩ := slewClock_frame (timeDiff t c) c
    rw [e, hdues]

/-- A TIME_SET that does not reach the pending change raises no offset-change event (R15). -/
theorem setCount_changeDue {t : Nat} {c : Clock} (hd : c.changeDue = false) (hc : ∀ ch ∈ c.change, t < ch.time) :
    (setCount t c).changeDue = false := by
  obtain e | e | e | e := setCount_cases t c
  · rw [e]
    exact hd
  · rw [e]
    cases h : c.change with
    | none => simp [moveCount, deliverDues, hd]
    | some ch => exact (moveCount_changeDue (ch := ch) rfl).trans (by simp [hd, hc ch h])
  · rw [e]
    exact hd
  · obtain ⟨-, -, -, hdue, -⟩ := slewClock_frame (timeDiff t c) c
    rw [e, hdue, hd]

theorem setCount_delays (t : Nat) (c : Clock) : (setCount t c).delays = c.delays := by
  obtain e | e | e | e := setCount_cases t c
  · rw [e]
    rfl
  · rw [e]
    rfl
  · rw [e]
  · obtain ⟨-, -, -, -, hdelays⟩ := slewClock_frame (timeDiff t c) c
    rw [e, hdelays]

/-! ## What is logged (R7, R10) -/

/-- The record of a condition depends on the log and the count alone. -/
theorem submit_cnd_congr (c : Condition) {s u : State} (hl : s.cnd = u.cnd) (hn : s.clk.count = u.clk.count) :
    (submit c s).cnd = (submit c u).cnd := by
  obtain ⟨hm, e⟩ | ⟨hm, e, -, -⟩ := submit_cases c s
  · obtain ⟨-, e'⟩ | ⟨hm', -⟩ := submit_cases c u
    · rw [e, e', hl]
    · rw [hl, hm'] at hm
      cases hm
  · obtain ⟨hm', -⟩ | ⟨-, e', -, -⟩ := submit_cases c u
    · rw [hl, hm'] at hm
      cases hm
    · rw [e, e', hl, hn]

theorem freeOrderOf_pair {α : Type} (k : Nat) (a b : α) : freeOrderOf k [a, b] = [a, b] ∨ freeOrderOf k [a, b] = [b, a] := by
  have h : freeOrderOf k [a, b] = insertNth (Config.freeOrder k % 2) a [b] := rfl
  rw [h]
  obtain h0 | h1 : Config.freeOrder k % 2 = 0 ∨ Config.freeOrder k % 2 = 1 := by omega
  · exact .inl (by rw [h0]; rfl)
  · exact .inr (by rw [h1]; rfl)

/-- Two conditions to which the manual gives no order are submitted in either (R10; log entry 7). -/
theorem submitFree_pair_cnd (a b : Condition) (s : State) :
    (submitFree [a, b] s).cnd = (submit a (submit b s)).cnd ∨ (submitFree [a, b] s).cnd = (submit b (submit a s)).cnd := by
  have h : (submitFree [a, b] s).cnd = (submitAll (freeOrderOf s.free [a, b]) s).cnd := rfl
  rw [h]
  obtain e | e := freeOrderOf_pair s.free a b
  · exact .inr (by rw [e]; rfl)
  · exact .inl (by rw [e]; rfl)

theorem submitAll_noticesOnly (cs : List Condition) (s : State) : NoticesOnly s (submitAll cs s) := by
  induction cs generalizing s with
  | nil => exact .refl s
  | cons c cs ih => exact (submit_noticesOnly c s).trans (ih (submit c s))

theorem submitFree_noticesOnly (cs : List Condition) (s : State) : NoticesOnly s (submitFree cs s) := by
  unfold submitFree
  split
  · exact submitAll_noticesOnly cs s
  · exact submitAll_noticesOnly (freeOrderOf s.free cs) s

theorem retestStandby_noticesOnly (b : Bool) (s : State) : NoticesOnly s (retestStandby b s) := by
  unfold retestStandby
  split
  · exact postNotice_noticesOnly _ s
  · exact .refl s

theorem retestStandby_wsv (b : Bool) (s : State) :
    (retestStandby b s).wsv = { s.wsv with standbyWanted := (retestStandby b s).wsv.standbyWanted } := by
  unfold retestStandby
  split <;> rfl

/-! ## The whole message -/

/-- The clock as a TIME_SET leaves it (R5 to R10). -/
def clockAfter (m : TimeSetMsg) (c : Clock) : Clock :=
  replaceOffset (formOffset m.offset) (formChange m.change) (setCount m.time c)

/-- The conditions of a TIME_SET that finds no offset change reached (R7, R10). -/
theorem timeSetConds_eq {m : TimeSetMsg} {c mid : Clock} (h : mid.changeDue = false) : timeSetConds m c mid =
    (if c.cstate ≠ .unset ∧ 2 < (timeDiff m.time c).natAbs then [timeStepped] else []) ++
    (if formOffset m.offset = c.offset then [] else [offsetChanged]) := by
  have none : changeReached mid = none := by simp [changeReached, h]
  unfold timeSetConds
  rw [none]
  cases hc : c.cstate <;> simp [isStep] <;> rfl

theorem timeSetDirty_eq {m : TimeSetMsg} {c mid : Clock} (h : mid.changeDue = false) : timeSetDirty m c mid = true ↔
    c.cstate = .unset ∨ 2 < (timeDiff m.time c).natAbs ∨ formOffset m.offset ≠ c.offset ∨ formChange m.change ≠ c.change := by
  simp [timeSetDirty, changeReached, h, isStep, or_assoc]

/-- A TIME_SET that is taken, but for its answer: the clock, the conditions, the dirty flag and the standby test. -/
def timeSetWork (m : TimeSetMsg) (s : State) : State :=
  retestStandby true (setDirtyIf (timeSetDirty m s.clk (setCount m.time s.clk))
    (submitFree (timeSetConds m s.clk (setCount m.time s.clk)) (modClk (fun _ => clockAfter m s.clk) s)))

/-- The reply of a TIME_SET that is taken (R5 to R8). -/
def timeSetReply (tag : Byte) (m : TimeSetMsg) (c : Clock) : Reply :=
  replyTo 0x10 tag .ok (formOffset m.offset != m.offset || formChange m.change != m.change)
    (.timeSet (setAction m.time c) (clockAfter m c).count (clockAfter m c).cstate)

theorem takeTimeSet_eq (tag : Byte) (m : TimeSetMsg) (s : State) :
    takeTimeSet tag m s = withReply (timeSetReply tag m s.clk) (timeSetWork m s) := rfl

section Work

variable (m : TimeSetMsg) (s : State)

@[simp] theorem timeSetWork_clk : (timeSetWork m s).clk = clockAfter m s.clk := by simp [timeSetWork]
@[simp] theorem timeSetWork_gst : (timeSetWork m s).gst = s.gst := by simp [timeSetWork]
@[simp] theorem timeSetWork_bkt : (timeSetWork m s).bkt = s.bkt := by simp [timeSetWork]
@[simp] theorem timeSetWork_lst : (timeSetWork m s).lst = s.lst := by simp [timeSetWork]
@[simp] theorem timeSetWork_run : (timeSetWork m s).run = s.run := by simp [timeSetWork]

theorem timeSetWork_cnd : (timeSetWork m s).cnd =
    (submitFree (timeSetConds m s.clk (setCount m.time s.clk)) (modClk (fun _ => clockAfter m s.clk) s)).cnd := by
  simp [timeSetWork]

theorem timeSetWork_pln : (timeSetWork m s).pln =
    (setDirtyIf (timeSetDirty m s.clk (setCount m.time s.clk)) s).pln := by
  rw [timeSetWork, retestStandby_pln]
  cases timeSetDirty m s.clk (setCount m.time s.clk) <;> simp [setDirtyIf, setDirty]

theorem timeSetWork_wsv :
    (timeSetWork m s).wsv = { s.wsv with standbyWanted := (timeSetWork m s).wsv.standbyWanted } := by
  rw [timeSetWork, retestStandby_wsv]
  simp

theorem timeSetWork_noticesOnly : NoticesOnly s (timeSetWork m s) := by
  refine .trans ?_ (retestStandby_noticesOnly true _)
  obtain ⟨ns, o, e⟩ := submitFree_noticesOnly (timeSetConds m s.clk (setCount m.time s.clk))
    (modClk (fun _ => clockAfter m s.clk) s)
  exact ⟨ns, o, by rw [setDirtyIf_lnk, e]; rfl⟩

end Work

/-- The wake target is that of the list, the host and the wake lead (R184). -/
theorem wakeTarget_congr {s t : State} {b : Bool} (hl : t.lst = s.lst) (hw : t.wsv = { s.wsv with standbyWanted := b }) :
    wakeTarget t = wakeTarget s := by
  unfold wakeTarget
  rw [hl, hw]

/-- The end of the event of a TIME_SET that is taken: no other block has moved, so only the attention output is settled,
and a pass may begin (R94, R184, R204). -/
theorem execTimeSet_taken {tag : Byte} {p : List Byte} {m : TimeSetMsg} {s : State} (hS : Settled s) (hT : Takes p s)
    (hp : parseAll pTimeSet p = .ok m) (hm : ∀ ch ∈ m.change, m.time < ch.time) :
    exec (.timeSet tag p) s = .next (beginPass (withAttn (withReply
      (timeSetReply tag m (withFrame 0x10 tag p s).clk) (timeSetWork m (withFrame 0x10 tag p s))))) := by
  have taken : timeSet tag m (withFrame 0x10 tag p s) = takeTimeSet tag m (withFrame 0x10 tag p s) := by
    unfold timeSet
    split
    · exact if_neg (Nat.not_le.mpr (hm _ ‹_›))
    · rfl
  show Host.Outcome.next (settle s (onMessage 0x10 tag pTimeSet p (timeSet tag) s)) = _
  rw [onMessage_ok _ _ _ _ _ _ _ hT hp, taken, takeTimeSet_eq]
  refine congrArg _ (settle_wake hS (timeSetWork_lst m _) (timeSetWork_run m _) ?_ ?_)
  · refine (congrArg (Option.map _) (congrArg (List.find? _) (congrArg Clock.dues (timeSetWork_clk m _)))).trans ?_
    have target : wakeTarget (timeSetWork m (withFrame 0x10 tag p s)) = wakeTarget s :=
      wakeTarget_congr (timeSetWork_lst m _) (timeSetWork_wsv m _)
    obtain ⟨-, -, -, hw, -, -⟩ := hS
    exact (setCount_heldTime .wakeDue m.time _).trans (hw.trans target.symm)
  · obtain ⟨ns, o, e⟩ := timeSetWork_noticesOnly m (withFrame 0x10 tag p s)
    show (timeSetWork m (withFrame 0x10 tag p s)).lnk.actionSet = _
    rw [e]
    rfl

/-- The clock once the frame of a message has been taken (R182). -/
def heardClock (s : State) : Clock := { s.clk with delays := freshKeepalive s }

/-- What a TIME_SET that is taken leaves, part by part. -/
theorem execTimeSet_result {tag : Byte} {p : List Byte} {m : TimeSetMsg} {s : State} (hS : Settled s) (hT : Takes p s)
    (hp : parseAll pTimeSet p = .ok m) (hm : ∀ ch ∈ m.change, m.time < ch.time) :
    ∃ t, exec (.timeSet tag p) s = .next t ∧
      t.clk = clockAfter m (heardClock s) ∧
      t.cnd = (submitFree (timeSetConds m (heardClock s) (setCount m.time (heardClock s)))
        (modClk (fun _ => clockAfter m (heardClock s)) (withFrame 0x10 tag p s))).cnd ∧
      (timeSetDirty m (heardClock s) (setCount m.time (heardClock s)) = true → PassAsked s t) ∧
      (s.clk.cstate ≠ .unset → timeSetDirty m (heardClock s) (setCount m.time (heardClock s)) = false →
        t.pln = s.pln) ∧
      t.wsv = { s.wsv with standbyWanted := t.wsv.standbyWanted } ∧
      t.lnk.tx = s.lnk.tx ++ [timeSetReply tag m (heardClock s)] ∧
      t.gst = s.gst ∧ t.bkt = s.bkt ∧ t.lst = s.lst ∧ t.run = s.run := by
  have hpln : (timeSetWork m (withFrame 0x10 tag p s)).pln = (setDirtyIf
      (timeSetDirty m (heardClock s) (setCount m.time (heardClock s))) (withFrame 0x10 tag p s)).pln :=
    timeSetWork_pln m _
  refine ⟨_, execTimeSet_taken hS hT hp hm, ?_, ?_, fun hd => ?_, fun hu hd => ?_, ?_, ?_, ?_, ?_, ?_, ?_⟩
  · rw [beginPass_clk]
    exact timeSetWork_clk m _
  · rw [beginPass_cnd]
    exact timeSetWork_cnd m _
  · refine passAsked_beginPass (hpln.trans ?_)
    rw [hd]
    rfl
  · have same : (timeSetWork m (withFrame 0x10 tag p s)).pln = s.pln := by
      rw [hpln, hd]
      rfl
    exact (congrArg State.pln (beginPass_noDirty hS hu (by exact same))).trans same
  · rw [beginPass_wsv]
    exact timeSetWork_wsv m _
  · obtain ⟨ns, o, hlnk⟩ := timeSetWork_noticesOnly m (withFrame 0x10 tag p s)
    rw [beginPass_lnk]
    show (timeSetWork m (withFrame 0x10 tag p s)).lnk.tx ++ _ = _
    rw [hlnk]
    rfl
  · rw [beginPass_gst]
    exact timeSetWork_gst m _
  · rw [beginPass_bkt]
    exact timeSetWork_bkt m _
  · rw [beginPass_lst]
    exact timeSetWork_lst m _
  · rw [beginPass_run]
    exact timeSetWork_run m _

theorem setAction_eq (t : Nat) (c : Clock) : setAction t c =
    if c.cstate = .unset then .set else if 2 < (timeDiff t c).natAbs then .stepped
      else if timeDiff t c = 0 then .unchanged else .slewing := by
  unfold setAction
  cases hc : c.cstate <;> simp [isStep]

theorem bne_eq_decide_ne {α : Type} [BEq α] [LawfulBEq α] [DecidableEq α] (a b : α) : (a != b) = decide (a ≠ b) := by
  rw [Bool.eq_iff_iff, bne_iff_ne, decide_eq_true_iff]

/-- Settles O7: the refusal leaves the event nothing to settle; a TIME_SET that is taken is judged clause by clause from
what it makes of the count, of the log and of the dirty flag. -/
theorem timeSetSetsStepsOrSlews : Obligations.TimeSetSetsStepsOrSlews := by
  intro s tag p m hS hT hp
  refine ⟨fun ch hc hle => ?_, fun hm hd hch => ?_⟩
  · have refused : timeSet tag m (withFrame 0x10 tag p s) =
        withReply (refusalTo 0x10 tag .badField) (withFrame 0x10 tag p s) := by
      simp only [timeSet, hc, hle, if_true]
      exact refuse_eq rfl tag .badField _
    show Host.Outcome.next (settle s (onMessage 0x10 tag pTimeSet p (timeSet tag) s)) = _
    rw [onMessage_ok _ _ _ _ _ _ _ hT hp, refused]
    exact congrArg _ (settle_answered hS 0x10 tag p _)
  · intro form change diff big step reached moved
    obtain ⟨t, run, hclk, hcnd, hasked, hsame, hwsv, htx, hgst, hbkt, hlst, hrun⟩ := execTimeSet_result hS hT hp hm
    have hcount : (clockAfter m (heardClock s)).count = t.clk.count := by rw [hclk]
    have hdue : (setCount m.time (heardClock s)).changeDue = false := setCount_changeDue hd (fun ch h => (hch ch h).1)
    have dirty : timeSetDirty m (heardClock s) (setCount m.time (heardClock s)) = true ↔ s.clk.cstate = .unset ∨
        2 < diff.natAbs ∨ form m.offset ≠ s.clk.offset ∨ change ≠ s.clk.change := timeSetDirty_eq hdue
    have logged : timeSetConds m (heardClock s) (setCount m.time (heardClock s)) =
        (if s.clk.cstate ≠ .unset ∧ 2 < diff.natAbs then [timeStepped] else []) ++
        (if form m.offset = s.clk.offset then [] else [offsetChanged]) := timeSetConds_eq hdue
    rw [logged] at hcnd
    refine ⟨t, run, fun h => ?_, fun h => ?_, fun h => ?_, fun h hf => ?_, fun h hb => ?_, fun h => ?_, fun h ho => ?_,
      fun h ho => ?_, fun h ho => ?_, ?_, ?_, ?_, ?_, hgst, hbkt, hlst, hrun, hwsv, fun h => ?_, fun hu h ho hc => ?_⟩
    · rw [hclk]
      exact setCount_big h
    · have slewed := setCount_slew (t := m.time) (c := heardClock s) (fun e => h (.inl e)) (fun e => h (.inr e))
      rw [hclk, clockAfter, slewed]
      exact slewClock_fields diff _
    · rw [hclk, clockAfter, setCount_unset (c := heardClock s) h]
      exact ⟨rfl, rfl, deliverDues_dues _⟩
    · obtain ⟨hu, h2⟩ := h
      rw [hclk, clockAfter, setCount_forward (c := heardClock s) hu h2 hf]
      exact ⟨rfl, moveCount_dues _ _, rfl⟩
    · obtain ⟨hu, h2⟩ := h
      rw [hclk, clockAfter, setCount_backward (c := heardClock s) hu h2 hb]
      exact ⟨rfl, rfl, rfl⟩
    · have slewed := setCount_slew (t := m.time) (c := heardClock s) (fun e => h (.inl e)) (fun e => h (.inr e))
      obtain ⟨hn, hdues, hr, -, -⟩ := slewClock_frame diff (heardClock s)
      rw [hclk, clockAfter, slewed]
      exact ⟨hn, hdues, hr⟩
    · rw [if_pos h, if_pos ho] at hcnd
      exact hcnd.trans (submit_cnd_congr _ rfl hcount)
    · rw [if_neg h, if_neg ho] at hcnd
      exact hcnd.trans (submit_cnd_congr _ rfl hcount)
    · rw [if_pos h, if_neg ho] at hcnd
      have moves (a b : Condition) : (submit a (submit b (modClk (fun _ => clockAfter m (heardClock s))
          (withFrame 0x10 tag p s)))).cnd = (submit a (submit b (moved t))).cnd :=
        submit_cnd_congr a (submit_cnd_congr b rfl hcount) (by simpa using hcount)
      rw [← moves, ← moves]
      exact hcnd ▸ submitFree_pair_cnd _ _ _
    · rw [hclk]
      rfl
    · rw [hclk]
      rfl
    · rw [hclk]
      exact setCount_delays _ _
    · rw [htx, timeSetReply, setAction_eq, bne_eq_decide_ne, bne_eq_decide_ne, hclk]
      rfl
    · exact hasked (dirty.mpr h)
    · have quiet : timeSetDirty m (heardClock s) (setCount m.time (heardClock s)) = false := by
        simp [← Bool.not_eq_true, dirty, hu, ho, hc, h]
      refine ⟨hsame hu quiet, ?_⟩
      rw [if_neg (fun hs => absurd hs.2 (by omega)), if_pos ho] at hcnd
      exact hcnd

end Sys2Proof.Machine

/-! PROOFS. The Guide Store's own messages while no recording overruns: GUIDE_GET, EVENT_STATUS, GUIDE_DROP and GUIDE_PUT,
with TIME_GET (R11, R12, R21 to R31, R33). -/

namespace Sys2Proof.Machine

-- one theorem after another: many at a time would want a thread each
set_option Elab.async false

open Sys2Proof

/-! ## The reads (R11, R12, R33) -/

theorem guideSummary_eq (tag : Byte) (s : State) : guideSummary tag s = answerOk 0x1B tag
    (.guideSummary s.gst.recs.length (3072 - s.gst.recs.length) (s.gst.recs.filter (fun r => decide (0 < r.pins))).length
      (s.gst.recs.head?.bind (fun a => s.gst.recs.getLast?.map (fun b => (a.start, b.start))))) s := by
  simp only [guideSummary]
  cases s.gst.recs.head? <;> cases s.gst.recs.getLast? <;> rfl

/-- A payload that reads as a key is not the empty one, which asks for the summary (R208). -/
theorem guideGet_key {tag : Byte} {p : List Byte} {k : EventKey} (hp : parseAll pKey p = .ok k) (s : State) :
    guideGet tag p s = guideGetKey tag k s := by
  cases p with
  | nil => cases hp
  | cons b bs => simp only [guideGet, hp]

/-- Settles O8: a read answers from the state in which its frame has been taken, which holds what the state before held. -/
theorem clockAndGuideReads : Obligations.ClockAndGuideReads := by
  refine ⟨fun s tag hT => ?_, fun s tag hT => ?_, fun s tag p k hT hp => ?_⟩
  · show Host.Outcome.next (onMessage 0x11 tag pNone [] (fun _ t => timeGet tag t) s) = _
    rw [onMessage_ok _ _ _ _ _ _ () hT rfl]
    rfl
  · show Host.Outcome.next (onFrame 0x1B tag [] (guideSummary tag) s) = _
    rw [onFrame_takes _ _ _ _ _ hT, guideSummary_eq]
    rfl
  · have get : exec (.guideGetEvent tag p) s = .next (guideGetKey tag k (withFrame 0x1B tag p s)) := by
      show Host.Outcome.next (onFrame 0x1B tag p (guideGet tag p) s) = _
      rw [onFrame_takes _ _ _ _ _ hT, guideGet_key hp]
    have held : (withFrame 0x1B tag p s).gst.recs = s.gst.recs := rfl
    refine ⟨fun r hr => ?_, fun hr => ?_⟩
    · rw [get, guideGetKey, held, hr]
      rfl
    · rw [get, guideGetKey, held, hr]
      exact congrArg _ (refuse_eq rfl tag .notFound _)

/-! ## The end of an event of the Guide Store -/

/-- A message that changes the guide, may set the dirty flag and is answered: while the summaries stand settled, its end
asks for a pass or does nothing (R82, R94, R204). -/
theorem settle_guide {s : State} (hS : Settled s) (b : Bool) (kind tag : Byte) (p : List Byte) (r : Reply)
    (recs : List GuideRec) :
    settle s (withReply r (setDirtyIf b (setRecs recs (withFrame kind tag p s)))) =
      askPassIf b (answered kind tag p r (withRecs recs s)) := by
  cases b with
  | false =>
    show settle s (answered kind tag p r (withRecs recs s)) = answered kind tag p r (withRecs recs s)
    rw [settle_quiet s (answered kind tag p r (withRecs recs s)) hS rfl rfl rfl rfl rfl rfl rfl]
    exact beginPass_settled s (answered kind tag p r (withRecs recs s)) hS rfl rfl
  | true =>
    show settle s (setDirty (answered kind tag p r (withRecs recs s))) = askPass (answered kind tag p r (withRecs recs s))
    rw [settle_quiet s (setDirty (answered kind tag p r (withRecs recs s))) hS rfl rfl rfl rfl rfl rfl rfl]
    exact beginPass_setDirty (answered kind tag p r (withRecs recs s))

/-! ## EVENT_STATUS (R31) -/

theorem runStatusOf_undefined {n : Nat} (h : 5 ≤ n) : runStatusOf n = none := by
  unfold runStatusOf
  split
  case h_6 => rfl
  all_goals omega

theorem runStatusOf_defined {n : Nat} (h : n < 5) : ∃ st, runStatusOf n = some st := by
  interval_cases n <;> exact ⟨_, rfl⟩

theorem runStatusOf_num (st : RunStatus) : runStatusOf (runStatusNum st) = some st := by cases st <;> rfl

theorem execEventStatus_taken {s : State} {tag : Byte} {p : List Byte} {k : EventKey} {n : Nat} (hT : Takes p s)
    (hp : parseAll pEventStatus p = .ok (k, n)) :
    exec (.eventStatus tag p) s = .next (settle s (eventStatus tag (k, n) (withFrame 0x1A tag p s))) :=
  congrArg (fun u => Host.Outcome.next (settle s u)) (onMessage_ok _ _ _ _ _ _ _ hT hp)

/-- The status of the record of a key, with the hand-off to Run Control finding nothing that overruns (R28, R31). -/
theorem eventStatus_found {s : State} (hN : NoOverrun s) {tag : Byte} {k : EventKey} {n : Nat} {st : RunStatus}
    {r : GuideRec} (hst : runStatusOf n = some st) (hr : recOf k s.gst.recs = some r) :
    eventStatus tag (k, n) s = answerOk 0x1A tag (.runStatus r.status)
      (setRecs (s.gst.recs.map (fun x => if x.key = k then { x with status := st } else x)) s) := by
  have handed (recs : List GuideRec) : handStatus k (some st) (setRecs recs s) = setRecs recs s :=
    handStatus_noOverrun (s := setRecs recs s) hN k (some st)
  simp only [eventStatus, hst, hr, beq_iff_eq, handed, ite_self]

/-- Settles O14: the two refusals, and the status set with no hand-off. -/
theorem eventStatusSetsTheStatus : Obligations.EventStatusSetsTheStatus := by
  intro s tag p k n hS hN hT hp
  have held : (withFrame 0x1A tag p s).gst.recs = s.gst.recs := rfl
  have hN' : NoOverrun (withFrame 0x1A tag p s) := hN
  refine ⟨fun hn => ?_, fun hn hk => ?_, fun st r hst hr => ?_⟩
  · rw [execEventStatus_taken hT hp, eventStatus, runStatusOf_undefined hn]
    exact congrArg _ ((congrArg _ (refuse_eq rfl tag .badField _)).trans (settle_answered hS 0x1A tag p _))
  · obtain ⟨st, hst⟩ := runStatusOf_defined hn
    rw [execEventStatus_taken hT hp]
    simp only [eventStatus, hst, held, hk]
    exact congrArg _ ((congrArg _ (refuse_eq rfl tag .notFound _)).trans (settle_answered hS 0x1A tag p _))
  · have hst' : runStatusOf n = some st := hst ▸ runStatusOf_num st
    rw [execEventStatus_taken hT hp, eventStatus_found hN' hst' hr]
    exact congrArg _ (settle_guide hS false 0x1A tag p (okTo 0x1A tag (.runStatus r.status)) _)

/-! ## GUIDE_DROP (R27, R29, R30) -/

/-- A record removed while no recording overruns: its key leaves, and it is tested as a removal (R27). -/
theorem removeRec_noOverrun (r : GuideRec) {s : State} (h : NoOverrun s) :
    removeRec r s = setDirtyIf (relevantRec s r) (takeRec r.key s) :=
  handStatus_noOverrun (noOverrun_of_lst (by simp [takeRec]) h) _ _

/-- The relevance of a record is judged by bookings and recordings, not by the guide or the Planner (R27). -/
theorem relevantRec_congr {s t : State} (hb : t.bkt = s.bkt) (hl : t.lst = s.lst) : relevantRec t = relevantRec s := by
  funext r
  simp only [relevantRec, pursues, findBooking, hb, hl]

/-- Records removed one after another while no recording overruns: those of their keys leave, and the dirty flag is set
where one of them was relevant (R27). -/
theorem removeRecs_relevant (xs : List GuideRec) {s : State} (h : NoOverrun s) :
    xs.foldl (fun u r => removeRec r u) s = setDirtyIf (xs.any (relevantRec s))
      (setRecs (s.gst.recs.filter (fun r => xs.all (fun x => r.key != x.key))) s) := by
  induction xs generalizing s with
  | nil => simp [setDirtyIf, setRecs]
  | cons x xs ih =>
    have rel : relevantRec (setDirtyIf (relevantRec s x) (takeRec x.key s)) = relevantRec s :=
      relevantRec_congr (by simp [takeRec]) (by simp [takeRec])
    rw [List.foldl_cons, removeRec_noOverrun x h, ih (noOverrun_of_lst (by simp [takeRec]) h), rel, setRecs_setDirtyIf,
      setDirtyIf_setDirtyIf]
    simp [takeRec, setRecs, List.filter_filter, Bool.and_comm, Bool.or_comm]

/-- The keys of the records of a service are those of the service (R30). -/
theorem filter_keys_of_service (v : Nat) (recs : List GuideRec) :
    recs.filter (fun r => (recs.filter (fun x => x.key.service == v)).all (fun x => r.key != x.key)) =
      recs.filter (fun r => r.key.service != v) := by
  refine List.filter_congr (fun r hr => ?_)
  rw [Bool.eq_iff_iff, List.all_eq_true]
  constructor
  · intro hall
    by_contra hv
    have := hall r (List.mem_filter.mpr ⟨hr, by simpa using hv⟩)
    simp at this
  · intro hv x hx
    obtain ⟨-, hxv⟩ := List.mem_filter.mp hx
    refine bne_iff_ne.mpr (fun e => ?_)
    simp [e, eq_of_beq hxv] at hv

/-- A key dropped while no recording overruns (R29). -/
theorem dropKeys_one {s : State} (h : NoOverrun s) {k : EventKey} {r : GuideRec} (hr : recOf k s.gst.recs = some r)
    (tag : Byte) : dropKeys tag [k] s = withReply
      (okTo 0x19 tag (.guideDrop 1 0 (s.gst.recs.filter (fun x => x.key != k)).length))
      (setDirtyIf (relevantRec s r) (setRecs (s.gst.recs.filter (fun x => x.key != k)) s)) := by
  have hk : r.key = k := by simpa using List.find?_some hr
  have dropped : dropKey (s, 0, 0) k = (setDirtyIf (relevantRec s r) (takeRec k s), 1, 0) := by
    simp only [dropKey, hr, removeRec_noOverrun r h, hk]
  simp only [dropKeys, List.foldl_cons, List.foldl_nil, dropped, setDirtyIf_gst]
  rfl

/-- A service dropped while no recording overruns (R30). -/
theorem dropService_all {s : State} (h : NoOverrun s) {v : Nat} (hv : v ≠ 0) (tag : Byte) :
    dropService tag v s = withReply
      (okTo 0x19 tag (.guideDrop (s.gst.recs.filter (fun x => x.key.service == v)).length 0
        (s.gst.recs.filter (fun x => x.key.service != v)).length))
      (setDirtyIf ((s.gst.recs.filter (fun x => x.key.service == v)).any (relevantRec s))
        (setRecs (s.gst.recs.filter (fun x => x.key.service != v)) s)) := by
  simp only [dropService, hv, if_false, removeRecs_relevant _ h, filter_keys_of_service, setDirtyIf_gst]
  rfl

/-- Settles O13: what is dropped leaves the store in one event, tested as a removal. -/
theorem guideDropRemovesAndAsks : Obligations.GuideDropRemovesAndAsks := by
  refine ⟨fun s tag p k hS hN hT hp => ⟨fun r hr => ?_, fun hr => ?_⟩,
    fun s tag p v hS hN hT hp => ⟨fun hv => ?_, fun hv => ?_⟩⟩
  · show Host.Outcome.next (settle s (onMessage 0x19 tag pGuideDrop p (guideDrop tag) s)) = _
    rw [onMessage_ok _ _ _ _ _ _ _ hT hp, guideDrop, dropKeys_one (s := withFrame 0x19 tag p s) hN hr, settle_guide hS]
    rfl
  · have held : recOf k (withFrame 0x19 tag p s).gst.recs = none := hr
    show Host.Outcome.next (settle s (onMessage 0x19 tag pGuideDrop p (guideDrop tag) s)) = _
    rw [onMessage_ok _ _ _ _ _ _ _ hT hp]
    simp only [guideDrop, dropKeys, List.foldl_cons, List.foldl_nil, dropKey, held]
    exact congrArg _ (settle_answered hS 0x19 tag p _)
  · show Host.Outcome.next (settle s (onMessage 0x19 tag pGuideDrop p (guideDrop tag) s)) = _
    rw [onMessage_ok _ _ _ _ _ _ _ hT hp, guideDrop, dropService_all (s := withFrame 0x19 tag p s) hN hv,
      settle_guide hS]
    rfl
  · show Host.Outcome.next (settle s (onMessage 0x19 tag pGuideDrop p (guideDrop tag) s)) = _
    rw [onMessage_ok _ _ _ _ _ _ _ hT hp, guideDrop, dropService, if_pos hv, refuse_eq rfl]
    exact congrArg _ (settle_answered hS 0x19 tag p _)

/-! ## GUIDE_PUT (R21 to R27) -/

/-- The record that an entry makes where its key is not held (R24). -/
def entryRec (e : GuideEntry) (insts : List Inst) : GuideRec :=
  { key := e.key, mux := e.mux, start := e.start, dur := e.dur, series := e.series, episode := e.episode
    status := (entryStatus e).getD .undefined, pins := pinsFor e.key insts }

/-- The record that an entry makes of the one held under its key (R23). -/
def entryOver (e : GuideEntry) (old : GuideRec) : GuideRec :=
  { old with mux := e.mux, start := e.start, dur := e.dur, series := e.series, episode := e.episode
             status := (entryStatus e).getD old.status }

theorem insertEntry_eq (e : GuideEntry) (s : State) : insertEntry e s =
    setDirtyIf (relevantEntry s (entryRec e s.lst.insts)) (placeRec (entryRec e s.lst.insts) s) := rfl

/-- A replacement is tested where the record has changed in more than its status (R23, R27). -/
theorem replaceEntry_noOverrun (e : GuideEntry) (old : GuideRec) {s : State} (h : NoOverrun s) :
    replaceEntry e old s = setDirtyIf
      (decide ((e.mux, e.start, e.dur, e.series, e.episode) ≠ (old.mux, old.start, old.dur, old.series, old.episode)) &&
        relevantChange s old (entryOver e old)) (placeRec (entryOver e old) (takeRec e.key s)) := by
  have changed : (e.mux != old.mux || e.start != old.start || e.dur != old.dur || e.series != old.series ||
      e.episode != old.episode) =
      decide ((e.mux, e.start, e.dur, e.series, e.episode) ≠ (old.mux, old.start, old.dur, old.series, old.episode)) := by
    rw [Bool.eq_iff_iff]
    simp only [Bool.or_eq_true, bne_iff_ne, decide_eq_true_iff, ne_eq, Prod.mk.injEq]
    tauto
  have handed : ∀ u : State, u.lst = s.lst → ∀ st, handStatus e.key st u = u :=
    fun u hu st => handStatus_noOverrun (noOverrun_of_lst hu h) e.key st
  rw [← changed]
  unfold replaceEntry
  dsimp only
  rw [handed _ (by simp [placeRec, takeRec]), ite_self]
  rfl

/-- A GUIDE_PUT of entries whose statuses are defined, taken while the clock is set (R21). -/
theorem execGuidePut_taken {s : State} {tag : Byte} {p : List Byte} {e : GuideEntry} (hT : Takes p s)
    (hp : parseAll pGuidePut p = .ok [e]) (hst : ∀ n ∈ e.status, n < 5) (hc : s.clk.cstate ≠ .unset) :
    exec (.guidePut tag p) s = .next (settle s (guidePut tag [e] (withFrame 0x18 tag p s))) := by
  have set : clockSet (withFrame 0x18 tag p s) = true := by simpa [clockSet, withFrame] using hc
  have defined : (e.status.isSome && (entryStatus e).isNone) = false := by
    cases h : e.status with
    | none => rfl
    | some n =>
      obtain ⟨st, e'⟩ := runStatusOf_defined (hst n h)
      simp [entryStatus, h, e']
  show Host.Outcome.next (settle s (onFrame 0x18 tag p _ s)) = _
  rw [onFrame_takes _ _ _ _ _ hT, if_pos set]
  simp [hp, defined]

/-- A GUIDE_PUT of one entry that leaves the store as it is (R22, R25). -/
theorem settle_ignored {s : State} (hS : Settled s) {tag : Byte} {p : List Byte} {e : GuideEntry}
    (h : putEntry s.clk.count (withFrame 0x18 tag p s, ⟨0, 0, 0, 0⟩) e = (withFrame 0x18 tag p s, ⟨0, 0, 0, 1⟩)) :
    settle s (guidePut tag [e] (withFrame 0x18 tag p s)) =
      answered 0x18 tag p (okTo 0x18 tag (.guidePut 0 0 0 1 s.gst.recs.length)) s := by
  have put : guidePut tag [e] (withFrame 0x18 tag p s) =
      answered 0x18 tag p (okTo 0x18 tag (.guidePut 0 0 0 1 s.gst.recs.length)) s :=
    congrArg (fun r : State × PutCounts => answerOk 0x18 tag
      (.guidePut r.2.inserted r.2.replaced r.2.evicted r.2.ignored r.1.gst.recs.length) r.1) h
  rw [put]
  exact settle_answered hS 0x18 tag p _

/-- A GUIDE_PUT of one entry that leaves other records in the store (R23 to R26). -/
theorem settle_put {s : State} (hS : Settled s) {tag : Byte} {p : List Byte} {e : GuideEntry} {b : Bool}
    {recs : List GuideRec} {c : PutCounts}
    (h : putEntry s.clk.count (withFrame 0x18 tag p s, ⟨0, 0, 0, 0⟩) e =
      (setDirtyIf b (setRecs recs (withFrame 0x18 tag p s)), c)) :
    settle s (guidePut tag [e] (withFrame 0x18 tag p s)) = askPassIf b (answered 0x18 tag p
      (okTo 0x18 tag (.guidePut c.inserted c.replaced c.evicted c.ignored recs.length)) (withRecs recs s)) := by
  have put : guidePut tag [e] (withFrame 0x18 tag p s) = withReply
      (okTo 0x18 tag (.guidePut c.inserted c.replaced c.evicted c.ignored
        (setDirtyIf b (setRecs recs (withFrame 0x18 tag p s))).gst.recs.length))
      (setDirtyIf b (setRecs recs (withFrame 0x18 tag p s))) :=
    congrArg (fun r : State × PutCounts => answerOk 0x18 tag
      (.guidePut r.2.inserted r.2.replaced r.2.evicted r.2.ignored r.1.gst.recs.length) r.1) h
  rw [put, settle_guide hS, setDirtyIf_gst]
  rfl

section PutEntry

variable {t : Nat} {s : State} {c : PutCounts} {e : GuideEntry}

/-- The tests of R22. -/
theorem putEntry_ignored (hi : entryIgnored t e = true) :
    putEntry t (s, c) e = (s, { c with ignored := c.ignored + 1 }) := by
  simp [putEntry, hi]

/-- R23. -/
theorem putEntry_held (hi : entryIgnored t e = false) {old : GuideRec} (hk : recOf e.key s.gst.recs = some old) :
    putEntry t (s, c) e = (replaceEntry e old s, { c with replaced := c.replaced + 1 }) := by
  simp [putEntry, hi, hk]

/-- R24. -/
theorem putEntry_room (hi : entryIgnored t e = false) (hk : recOf e.key s.gst.recs = none)
    (hl : s.gst.recs.length < Config.guideCap) :
    putEntry t (s, c) e = (insertEntry e s, { c with inserted := c.inserted + 1 }) := by
  simp only [putEntry, hi, hk, hl, if_true, Bool.false_eq_true, if_false]

/-- R25: a full store of pinned records takes no entry. -/
theorem putEntry_pinned (hi : entryIgnored t e = false) (hk : recOf e.key s.gst.recs = none)
    (hl : Config.guideCap ≤ s.gst.recs.length) (hv : latestUnpinned s.gst.recs = none) :
    putEntry t (s, c) e = (s, { c with ignored := c.ignored + 1 }) := by
  simp only [putEntry, hi, hk, hv, Nat.not_lt.mpr hl, Bool.false_eq_true, if_false]

/-- R25: in a full store an entry that starts no earlier than the latest record without pins is ignored. -/
theorem putEntry_late (hi : entryIgnored t e = false) (hk : recOf e.key s.gst.recs = none)
    (hl : Config.guideCap ≤ s.gst.recs.length) {v : GuideRec} (hv : latestUnpinned s.gst.recs = some v)
    (hs : v.start ≤ e.start) : putEntry t (s, c) e = (s, { c with ignored := c.ignored + 1 }) := by
  simp only [putEntry, hi, hk, hv, Nat.not_lt.mpr hl, Nat.not_lt.mpr hs, Bool.false_eq_true, if_false]

/-- R25: in a full store the latest record without pins makes room. -/
theorem putEntry_evicts (hi : entryIgnored t e = false) (hk : recOf e.key s.gst.recs = none)
    (hl : Config.guideCap ≤ s.gst.recs.length) {v : GuideRec} (hv : latestUnpinned s.gst.recs = some v)
    (hs : e.start < v.start) : putEntry t (s, c) e =
      (insertEntry e (setDirtyIf (relevantRec s v) (takeRec v.key s)),
        { c with inserted := c.inserted + 1, evicted := c.evicted + 1 }) := by
  simp only [putEntry, hi, hk, hv, hs, Nat.not_lt.mpr hl, Bool.false_eq_true, if_false, if_true]

end PutEntry

/-- An eviction and the entry it makes room for ask for one pass (R25, R27). -/
theorem insertEntry_evicting (e : GuideEntry) (v : GuideRec) (s : State) :
    insertEntry e (setDirtyIf (relevantRec s v) (takeRec v.key s)) =
      setDirtyIf (relevantRec s v || relevantEntry (takeRec v.key s) (entryRec e s.lst.insts))
        (placeRec (entryRec e s.lst.insts) (takeRec v.key s)) := by
  rw [insertEntry_eq, placeRec, setRecs_setDirtyIf, setDirtyIf_setDirtyIf, Bool.or_comm]
  cases relevantRec s v <;> rfl

/-- Settles O12: one entry runs one branch of `putEntry`. -/
theorem guidePutIgnoresInsertsOrReplaces : Obligations.GuidePutIgnoresInsertsOrReplaces := by
  intro s tag p e hS hN hT hp hst status
  refine ⟨fun hu => ?_, fun hc hi => ?_, fun hc hi hk hl => ?_, fun old hc hi hk => ?_, fun v hc hi hk hl hv => ?_⟩
  · have unset : ¬ clockSet (withFrame 0x18 tag p s) = true := by
      show ¬ (s.clk.cstate != .unset) = true
      simp [hu]
    show Host.Outcome.next (settle s (onFrame 0x18 tag p _ s)) = _
    rw [onFrame_takes _ _ _ _ _ hT, if_neg unset, refuse_eq rfl]
    exact congrArg _ (settle_answered hS 0x18 tag p _)
  · rw [execGuidePut_taken hT hp hst hc, settle_ignored hS (putEntry_ignored hi)]
  · intro r
    rw [execGuidePut_taken hT hp hst hc, ← length_insertBy recLt r s.gst.recs]
    exact congrArg _ (settle_put hS (b := relevantEntry s r) (putEntry_room hi hk hl))
  · intro r recs
    have put := (putEntry_held (s := withFrame 0x18 tag p s) (c := ⟨0, 0, 0, 0⟩) hi hk).trans
      (congrArg (Prod.mk · _) (replaceEntry_noOverrun e old (s := withFrame 0x18 tag p s) hN))
    rw [execGuidePut_taken hT hp hst hc]
    exact congrArg _ (settle_put hS (recs := recs) put)
  · intro r kept recs
    refine ⟨fun hle => ?_, fun hlt => ?_⟩
    · rw [execGuidePut_taken hT hp hst hc, settle_ignored hS (putEntry_late hi hk hl hv hle)]
    · have put := (putEntry_evicts (s := withFrame 0x18 tag p s) (c := ⟨0, 0, 0, 0⟩) hi hk hl hv hlt).trans
        (congrArg (Prod.mk · _) (insertEntry_evicting e v (withFrame 0x18 tag p s)))
      rw [execGuidePut_taken hT hp hst hc]
      exact congrArg _ (settle_put hS (recs := recs) put)

end Sys2Proof.Machine

/-! PROOFS. The calm operations: what Run Control and an install do to recordings, tuners, claims and bookings leaves the
guide and the Wake Supervisor alone, changes the Link Port in its notice queue alone, and the Planner of a pass in its again
flag alone. -/

namespace Sys2Proof.Machine

-- one theorem after another: many at a time would want a thread each
set_option Elab.async false

open Sys2Proof

/-! ## What a calm operation leaves alone -/

/-- The keepalive interval of the Clock Unit (R4, R182). -/
def keepaliveOf (c : Clock) : List DelayReq := c.delays.filter (fun d => d.kind == .keepalive)

/-- A pass in flight goes on as it was, but that its again flag may have been set (R93). -/
def PassGoesOn (p q : Planner) : Prop := p.passState = .pass → ∃ b, q = { p with again := p.again || b }

/-- From `s` to `t` the guide, the Wake Supervisor and the keepalive interval stand as they stood; of the Link Port only the
notice queue has changed, and of a pass in flight only the again flag. -/
structure Calm (s t : State) : Prop where
  guide : t.gst = s.gst
  host : t.wsv = s.wsv
  keepalive : keepaliveOf t.clk = keepaliveOf s.clk
  notices : NoticesOnly s t
  pass : PassGoesOn s.pln t.pln

theorem PassGoesOn.refl (p : Planner) : PassGoesOn p p := fun _ => ⟨false, by simp⟩

theorem PassGoesOn.trans {p q r : Planner} (h : PassGoesOn p q) (k : PassGoesOn q r) : PassGoesOn p r := by
  intro hp
  obtain ⟨b, rfl⟩ := h hp
  obtain ⟨c, rfl⟩ := k hp
  exact ⟨b || c, by simp [Bool.or_assoc]⟩

/-- An operation that leaves the Link Port and the Planner alone altogether. -/
theorem Calm.same {s t : State} (hg : t.gst = s.gst := by simp) (hw : t.wsv = s.wsv := by simp)
    (hk : keepaliveOf t.clk = keepaliveOf s.clk := by simp) (hl : t.lnk = s.lnk := by simp)
    (hp : t.pln = s.pln := by simp) : Calm s t :=
  ⟨hg, hw, hk, ⟨_, _, hl⟩, hp ▸ .refl s.pln⟩

theorem Calm.refl (s : State) : Calm s s := .same rfl rfl rfl rfl rfl

theorem Calm.trans {s t u : State} (h : Calm s t) (k : Calm t u) : Calm s u :=
  ⟨k.guide.trans h.guide, k.host.trans h.host, k.keepalive.trans h.keepalive, h.notices.trans k.notices,
    h.pass.trans k.pass⟩

theorem Calm.ite {p : Prop} [Decidable p] {s t u : State} (ht : Calm s t) (hu : Calm s u) :
    Calm s (if p then t else u) := by
  split
  · exact ht
  · exact hu

/-- A fold over anything that carries a state is calm where each of its steps is. -/
theorem Calm.foldl_of {α β : Type} (p : β → State) {f : β → α → β} (h : ∀ b x, Calm (p b) (p (f b x)))
    (xs : List α) (b : β) : Calm (p b) (p (xs.foldl f b)) := by
  induction xs generalizing b with
  | nil => exact .refl (p b)
  | cons x xs ih => exact (h b x).trans (ih (f b x))

theorem Calm.foldl {α : Type} {f : State → α → State} (h : ∀ u x, Calm u (f u x)) (xs : List α) (s : State) :
    Calm s (xs.foldl f s) := .foldl_of id h xs s

/-! ## Delays (R4) -/

@[simp] theorem requestDue_keepalive (k : DueKind) (t : Nat) (s : State) :
    keepaliveOf (requestDue k t s).clk = keepaliveOf s.clk := rfl
@[simp] theorem withdrawDue_keepalive (k : DueKind) (s : State) :
    keepaliveOf (withdrawDue k s).clk = keepaliveOf s.clk := rfl
@[simp] theorem withdrawDues_keepalive (ks : List DueKind) (s : State) :
    keepaliveOf (withdrawDues ks s).clk = keepaliveOf s.clk := rfl

@[simp] theorem ensureDue_keepalive (k : DueKind) (t : Nat) (s : State) :
    keepaliveOf (ensureDue k t s).clk = keepaliveOf s.clk := by
  unfold ensureDue
  repeat' split
  all_goals simp

/-- Ending the delay of another kind leaves the keepalive interval. -/
@[simp] theorem cancelDelay_keepalive {k : DelayKind} (h : k ≠ .keepalive) (s : State) :
    keepaliveOf (cancelDelay k s).clk = keepaliveOf s.clk := by
  simp only [keepaliveOf, cancelDelay_delays, List.filter_filter]
  refine List.filter_congr (fun d _ => ?_)
  by_cases hd : d.kind = .keepalive <;> simp [hd, h.symm]

@[simp] theorem startDelay_keepalive {k : DelayKind} (h : k ≠ .keepalive) (n : Nat) (s : State) :
    keepaliveOf (startDelay k n s).clk = keepaliveOf s.clk := by
  refine Eq.trans ?_ (cancelDelay_keepalive h s)
  simp [keepaliveOf, h]

@[simp] theorem withdrawInst_keepalive (iid : Nat) (s : State) :
    keepaliveOf (withdrawInst iid s).clk = keepaliveOf s.clk := by simp [withdrawInst]

@[simp] theorem waitForTuner_keepalive (resume : Bool) (iid : Nat) (s : State) :
    keepaliveOf (waitForTuner resume iid s).clk = keepaliveOf s.clk := by
  unfold waitForTuner
  repeat' split
  all_goals simp

/-! ## Flags, notices and conditions (R93, R167, R202) -/

theorem setDirty_calm (s : State) : Calm s (setDirty s) := by
  refine ⟨rfl, rfl, rfl, .refl s, fun hp => ⟨true, ?_⟩⟩
  simp [setDirty, hp]

theorem setDirtyIf_calm (b : Bool) (s : State) : Calm s (setDirtyIf b s) := .ite (setDirty_calm s) (.refl s)

theorem postNotice_calm (b : NoticeBody) (s : State) : Calm s (postNotice b s) :=
  ⟨by simp, by simp, by simp, postNotice_noticesOnly b s, by simpa using .refl s.pln⟩

theorem submit_calm (c : Condition) (s : State) : Calm s (submit c s) :=
  ⟨by simp, by simp, by simp, submit_noticesOnly c s, by simpa using .refl s.pln⟩

theorem submitFree_calm (cs : List Condition) (s : State) : Calm s (submitFree cs s) :=
  ⟨by simp, by simp, by simp, submitFree_noticesOnly cs s, by simpa using .refl s.pln⟩

theorem advanceGap_calm (t : Tuner) (s : State) : Calm s (advanceGap t s) := by
  unfold advanceGap
  dsimp only
  split
  · exact .trans .same (postNotice_calm _ _)
  · exact .same

/-! ## The history and the spent bookings (R46, R47, R53, R54) -/

theorem insertHistory_calm (e : HistEntry) (s : State) : Calm s (insertHistory e s).1 := by
  unfold insertHistory
  repeat' split
  · exact .refl s
  · exact .trans .same (setDirty_calm _)
  · exact .trans .same (setDirty_calm _)

theorem handDone_calm (i : Inst) (n : Nat) (s : State) : Calm s (handDone i n s) := by
  unfold handDone
  split
  · exact .refl s
  · rename_i b _
    have stores (e : HistEntry) : Calm s (if Config.historyFraction ≤ n then (insertHistory e s).1 else s) :=
      .ite (insertHistory_calm e s) (.refl s)
    have spends (u : State) : Calm u (removeSpent b.id (makeSpent b.id u)) := .same
    dsimp only
    split
    · refine .trans ?_ (spends _)
      split
      · exact stores _
      · exact .refl s
    · split
      · exact stores _
      · exact .refl s

/-! ## The lock monitors (R157 to R161) -/

theorem chargeGap_calm (t : Tuner) (upTo iid : Nat) (s : State) : Calm s (chargeGap t upTo iid s) := .same

theorem closeGap_calm (t : Tuner) (s : State) : Calm s (closeGap t s) :=
  have charged : Calm s ((recordingOn t s).foldl (fun u i => chargeGap t (monTime s) i.id u) s) :=
    .foldl (fun u (i : Inst) => chargeGap_calm t (monTime s) i.id u) _ s
  (charged.trans .same).trans ((advanceGap_calm t _).trans (submit_calm _ _))

theorem monitorOff_calm (t : Tuner) (s : State) : Calm s (monitorOff t s) := by
  have closed : Calm s (if (tunerRun t s).mon = .gap then closeGap t s else s) :=
    .ite (closeGap_calm t s) (.refl s)
  unfold monitorOff
  exact closed.trans .same

theorem monitorCheckOf_calm (i : Inst) (s : State) : Calm s (monitorCheckOf i s) := by
  unfold monitorCheckOf
  split
  · exact .ite (.refl s) (.ite (.refl s) (monitorOff_calm _ s))
  · exact .refl s

/-! ## The ends of a recording (R83, R141, R148, R149) -/

theorem terminate_calm (iid : Nat) (fin : InstState) (c : Cause) (r : Option Nat) (s : State) :
    Calm s (terminate iid fin c r s) := by
  unfold terminate
  split
  · exact .refl s
  · rename_i i _
    have left : Calm s (monitorCheckOf i (leaveActive iid (modInst iid (finished fin c r (now s))
        (withdrawInst iid (chargeLeaving iid s))))) := .trans .same (monitorCheckOf_calm i _)
    have posted := Calm.ite (p := fin = .cancelled) left (left.trans (postNotice_calm (.outcomeReady fin iid i.booking) _))
    refine Calm.trans ?_ (setDirtyIf_calm _ _)
    split
    · exact posted.trans (handDone_calm _ _ _)
    · exact posted

theorem missInst_calm (c : Cause) (iid : Nat) (s : State) : Calm s (missInst c iid s) := by
  unfold missInst
  split
  · exact .refl s
  · exact (terminate_calm _ _ _ _ s).trans (submit_calm _ _)

theorem enterStopping_calm (reason : StopReason) (iid : Nat) (s : State) : Calm s (enterStopping reason iid s) := by
  unfold enterStopping
  split
  · exact .refl s
  · exact .ite (.trans .same ((monitorCheckOf_calm _ _).trans (setDirtyIf_calm _ _))) (.refl s)

theorem cutOverrun_calm (t : Tuner) (i : Inst) (s : State) : Calm s (cutOverrun t i s) :=
  (enterStopping_calm _ _ s).trans (submit_calm _ _)

/-! ## Starting and waiting to start (R142 to R144, R163) -/

theorem revokeClaim_calm (cid iid : Nat) (s : State) : Calm s (revokeClaim cid iid s) :=
  have removed (u : State) : Calm u (removeClaim cid u) := .trans .same (setDirty_calm _)
  (postNotice_calm (.claimRevoked cid iid) s).trans (removed _)

theorem startOn_calm (t : Tuner) (resume late : Bool) (iid : Nat) (s : State) :
    Calm s (startOn t resume late iid s) := by
  unfold startOn
  split
  · exact .refl s
  · dsimp only
    refine .ite (.trans ?_ (submit_calm _ _)) ?_
    all_goals exact .ite .same .same

theorem handovers_calm (t : Tuner) (iid : Nat) (s : State) : Calm s (handovers t iid s) :=
  (Calm.foldl (fun u j => cutOverrun_calm t j u) _ s).trans
    (.foldl (fun u (c : Claim) => revokeClaim_calm c.id iid u) _ _)

theorem waitForTuner_calm (resume : Bool) (iid : Nat) (s : State) : Calm s (waitForTuner resume iid s) := .same

/-- R144, one line for each of its four ways: wait, swap, cut and start or wait, wait. -/
theorem blockedStart_calm (t : Tuner) (resume late : Bool) (i : Inst) (s : State) :
    Calm s (blockedStart t resume late i s) := by
  have hcut : Calm s ((obstacleClaims t i s).foldl (fun u c => revokeClaim c.id i.id u)
      ((obstacleInsts t i s).foldl (fun u j => cutOverrun t j u) s)) :=
    (Calm.foldl (fun u j => cutOverrun_calm t j u) _ s).trans
      (.foldl (fun u (c : Claim) => revokeClaim_calm c.id i.id u) _ _)
  have hswap : Calm s (setDirty (submit (condFor (tunerBank (otherTuner t)) .soft .tunerSwapped i)
      (startOn (otherTuner t) resume late i.id s))) :=
    (startOn_calm _ _ _ _ s).trans ((submit_calm _ _).trans (setDirty_calm _))
  exact .ite (waitForTuner_calm _ _ s) (.ite hswap (.ite
    (hcut.trans (.ite (startOn_calm _ _ _ _ _) (waitForTuner_calm _ _ _))) (waitForTuner_calm _ _ s)))

theorem startAttempt_calm (resume late : Bool) (iid : Nat) (s : State) : Calm s (startAttempt resume late iid s) := by
  unfold startAttempt
  split
  · exact .refl s
  · split
    · exact .refl s
    · exact (Calm.ite (.refl s) (handovers_calm _ iid s)).trans
        (.ite (startOn_calm _ _ _ _ _) (blockedStart_calm _ _ _ _ _))

theorem judgeResume_calm (iid : Nat) (s : State) : Calm s (judgeResume iid s) := by
  unfold judgeResume
  split
  · exact .refl s
  · exact .ite (.ite (terminate_calm _ _ _ _ s)
      (.ite ((terminate_calm _ _ _ _ s).trans (submit_calm _ _)) (startAttempt_calm _ _ _ s))) (.refl s)

theorem retryHeld_calm (iid : Nat) (s : State) : Calm s (retryHeld iid s) := by
  unfold retryHeld
  split
  · exact .refl s
  · exact .ite (startAttempt_calm _ _ _ s) (.refl s)

theorem retryWaiting_calm (s : State) : Calm s (retryWaiting s) :=
  (Calm.foldl (fun u iid => judgeResume_calm iid u) _ s).trans (.foldl (fun u iid => retryHeld_calm iid u) _ _)

theorem retryRounds_calm (fuel : Nat) (before s : State) : Calm s (retryRounds fuel before s) := by
  induction fuel generalizing before s with
  | zero => exact .refl s
  | succ fuel ih => exact .ite ((retryWaiting_calm s).trans (ih s _)) (.refl s)

theorem retryStarts_calm (before s : State) : Calm s (retryStarts before s) := retryRounds_calm _ before s

/-! ## The due times of a recording (R141, R142, R152, R163) -/

theorem takeWindowStart_calm (iid : Nat) (s : State) : Calm s (takeWindowStart iid s) := by
  unfold takeWindowStart
  split
  · exact .refl s
  · exact .ite (.ite (missInst_calm _ _ s) (.ite (startAttempt_calm _ _ _ s) .same)) (.refl s)

theorem takeCoreEnd_calm (iid : Nat) (s : State) : Calm s (takeCoreEnd iid s) := by
  unfold takeCoreEnd
  split
  · exact .refl s
  · have overruns (i : Inst) : Calm s (enterOverrun i s) := .trans .same (setDirty_calm _)
    split
    · exact missInst_calm _ _ s
    · exact missInst_calm _ _ s
    · exact .ite (.refl s) (missInst_calm _ _ s)
    · exact .ite (overruns _) (.refl s)
    · exact .ite (overruns _) (.refl s)
    all_goals exact .refl s

theorem takeYieldWarning_calm (n : Nat) (s : State) : Calm s (takeYieldWarning n s) := by
  unfold takeYieldWarning
  repeat' split
  · exact .refl s
  · exact .refl s
  · exact postNotice_calm _ s

theorem takeWindowClose_calm (iid : Nat) (s : State) : Calm s (takeWindowClose iid s) := by
  unfold takeWindowClose
  split
  · exact .refl s
  · exact .ite (terminate_calm _ _ _ _ s) (.refl s)

/-! ## What an install writes (R75, R76, R99, R107 to R109, R64, R77) -/

theorem leaveList_calm (i : Inst) (s : State) : Calm s (leaveList i s) := by
  unfold leaveList
  exact .same

theorem removeInst_calm (iid : Nat) (s : State) : Calm s (removeInst iid s) := by
  unfold removeInst
  split
  · exact .refl s
  · exact .ite (.trans .same (leaveList_calm _ _)) (.refl s)

theorem makeRoom_calm (a : InstallAcc) : Calm a.s (makeRoom a).s := by
  unfold makeRoom
  repeat' split
  · exact .refl _
  · exact .refl _
  · exact leaveList_calm _ _

theorem createOne_calm (cands : List Cand) (a : InstallAcc) (kc : Nat × Creation) :
    Calm a.s (createOne cands a kc).s := by
  unfold createOne
  dsimp only
  repeat' split
  · exact .refl _
  · exact (makeRoom_calm a).trans .same
  · exact makeRoom_calm a
  · exact .refl _

theorem refreshOne_calm (s : State) (c : Cand) : Calm s (refreshOne s c) := by
  unfold refreshOne rewriteInst
  repeat' split
  all_goals exact .same

theorem refreshRunning_calm (s : State) (r : Refresh) : Calm s (refreshRunning s r) := by
  unfold refreshRunning
  repeat' split
  all_goals exact .same

theorem applyExpansion_calm (r : PassResult) (cands : List Cand) (s : State) : Calm s (applyExpansion r cands s).s :=
  (Calm.foldl (fun u iid => removeInst_calm iid u) _ s).trans
    ((Calm.foldl refreshOne_calm _ _).trans ((Calm.foldl refreshRunning_calm _ _).trans
      (Calm.foldl_of InstallAcc.s (createOne_calm cands) _ ⟨_, [], []⟩)))

theorem writeRunning_calm (p : Snapshot) (w : Work) (s : State) (iid : Nat) : Calm s (writeRunning p w s iid) := by
  unfold writeRunning
  repeat' split
  case isFalse => exact .trans .same (setDirtyIf_calm _ _)
  all_goals exact .same

theorem writePlaced_calm (since : List Occ) (m : Merge) (x : Placed) : Calm m.a.s (writePlaced since m x).a.s := by
  unfold writePlaced
  split
  · exact .refl _
  · split
    · split
      · exact .same
      · exact .trans .same (setDirty_calm _)
    · exact .refl _

theorem writeLost_calm (a : InstallAcc) (x : LostCand) : Calm a.s (writeLost a x).s := by
  unfold writeLost
  repeat' split
  all_goals exact .same

theorem writeShort_calm (ids : List (Nat × Nat)) (s : State) (c : Cand) : Calm s (writeShort ids s c) := by
  unfold writeShort
  repeat' split
  all_goals exact .same

theorem applyPlan_calm (p : Snapshot) (r : PassResult) (a : InstallAcc) : Calm a.s (applyPlan p r a).s :=
  (Calm.foldl (writeRunning_calm p r.work) _ a.s).trans
    ((Calm.foldl_of (fun m : Merge => m.a.s) (writePlaced_calm _) _ ⟨{ a with s := _ }, _⟩).trans
      ((Calm.foldl_of InstallAcc.s writeLost_calm _ _).trans (.foldl (writeShort_calm _) _ _)))

theorem applyMarks_calm (p : Snapshot) (r : PassResult) (a : InstallAcc) : Calm a.s (applyMarks p r a).s :=
  .same rfl rfl rfl rfl rfl

theorem applyUpdate_calm (a : InstallAcc) (r : BookingResult) : Calm a.s (applyUpdate a r).s := by
  unfold applyUpdate
  split
  · exact .same rfl rfl rfl rfl rfl
  · exact .refl _

theorem applySpent_calm (s : State) (r : BookingResult) : Calm s (applySpent s r) := by
  unfold applySpent
  repeat' split
  all_goals exact .same

theorem applyBookings_calm (r : PassResult) (a : InstallAcc) : Calm a.s (applyBookings r a).s :=
  (Calm.foldl_of InstallAcc.s applyUpdate_calm _ a).trans (.foldl applySpent_calm _ _)

/-! ## The hand-off to Run Control (R111, R140, R151, R156) -/

theorem postPlanChanged_calm (b : Bool) (s : State) : Calm s (postPlanChanged b s) :=
  .ite (postNotice_calm _ s) (.refl s)

theorem syncInst_calm (s : State) (iid : Nat) : Calm s (syncInst s iid) := by
  unfold syncInst syncPlanned
  dsimp only
  repeat' split
  all_goals exact .same

theorem syncClaim_calm (before s : State) (c : Claim) : Calm s (syncClaim before s c) := by
  unfold syncClaim
  dsimp only
  repeat' split
  all_goals exact .same

theorem takeFresh_calm {act : State → State} (h : ∀ u, Calm u (act u)) (before : List DueReq) (k : DueKind)
    (s : State) : Calm s (takeFresh before k act s) := by
  unfold takeFresh
  split
  · exact .refl s
  · refine .ite ?_ (.refl s)
    obtain ⟨-, e⟩ | ⟨-, e⟩ := takeDue_cases k s
    · rw [e]
      exact .trans .same (h _)
    · rw [e]
      exact .refl s

theorem takeFreshInst_calm (before : List DueReq) (s : State) (iid : Nat) : Calm s (takeFreshInst before s iid) :=
  (takeFresh_calm (takeWindowStart_calm iid) _ _ s).trans ((takeFresh_calm (takeCoreEnd_calm iid) _ _ _).trans
    ((takeFresh_calm (enterStopping_calm _ iid) _ _ _).trans (takeFresh_calm (takeWindowClose_calm iid) _ _ _)))

theorem handOff_calm (before s : State) : Calm s (handOff before s) :=
  (Calm.foldl syncInst_calm _ s).trans ((Calm.foldl (syncClaim_calm before) _ _).trans
    ((Calm.foldl (fun u (c : Claim) => takeFresh_calm (takeYieldWarning_calm c.id) _ _ u) _ _).trans
      (.foldl (takeFreshInst_calm _) _ _)))

end Sys2Proof.Machine

/-! PROOFS. What an install leaves of the pass, of the held queries and of the guide (R19, R110, R112 to R114, R136). -/

namespace Sys2Proof.Machine

-- one theorem after another: many at a time would want a thread each
set_option Elab.async false

open Sys2Proof

/-! ## The plan renewed (R110, R136) -/

theorem length_numbered {α : Type} (n : Nat) (xs : List α) : (numbered n xs).length = xs.length := by
  induction xs generalizing n with
  | nil => rfl
  | cons x xs ih => simp [numbered, ih]

/-- R136. -/
theorem clashList_length_le (heldPid : Nat → Bool) (ids : List (Nat × Nat)) (rs : List WorkRec) :
    (clashList heldPid ids rs).1.length ≤ 32 := by
  simp only [clashList, List.length_map, length_numbered, List.length_take]
  exact Nat.min_le_left _ _

/-- The plan of one pass that an install has renewed: one generation on, and 32 clashes at most (R110, R136). -/
def Renewed (p q : Planner) : Prop :=
  q.passState = .pass ∧ q.generation = (p.generation + 1) % 4294967296 ∧ q.clashes.length ≤ 32 ∧
    (p.again = true → q.again = true)

theorem renewPlan_renewed {p : Planner} {u : State} (h : PassGoesOn p u.pln) (hp : p.passState = .pass) (sn : Snapshot)
    (r : PassResult) (ids : List (Nat × Nat)) : Renewed p (renewPlan sn r ids u).pln := by
  obtain ⟨b, e⟩ := h hp
  refine ⟨?_, ?_, clashList_length_le _ _ _, fun ha => ?_⟩
  · simp [renewPlan, e, hp]
  · simp [renewPlan, e]
  · simp [renewPlan, e, ha]

theorem Renewed.goesOn {p q r : Planner} (h : Renewed p q) (k : PassGoesOn q r) : Renewed p r := by
  obtain ⟨hpass, hgen, hclash, hagain⟩ := h
  obtain ⟨b, rfl⟩ := k hpass
  exact ⟨hpass, hgen, hclash, fun ha => by simp [hagain ha]⟩

/-! ## The held queries (R113, R114) -/

/-- A held query is answered with one reply, which carries its tag. -/
theorem answerHeld_reply (q : HeldQuery) (s : State) : ∃ r, r.tag = q.tag ∧ answerHeld q s = withReply r s := by
  unfold answerHeld
  split
  · unfold answerPlanGet
    dsimp only
    split
    · exact ⟨_, rfl, rfl⟩
    · exact ⟨_, rfl, rfl⟩
  · unfold answerClashGet
    dsimp only
    split
    · exact ⟨_, rfl, rfl⟩
    · exact ⟨_, rfl, rfl⟩

theorem answerHeld_replies (qs : List HeldQuery) (s : State) : ∃ rs, rs.map (fun r => r.tag) = qs.map (fun q => q.tag) ∧
    qs.foldl (fun u q => answerHeld q u) s = { s with lnk := { s.lnk with tx := s.lnk.tx ++ rs } } := by
  induction qs generalizing s with
  | nil => exact ⟨[], rfl, by simp⟩
  | cons q qs ih =>
    obtain ⟨r, hr, e⟩ := answerHeld_reply q s
    obtain ⟨rs, hrs, e'⟩ := ih (answerHeld q s)
    refine ⟨r :: rs, by simp [hr, hrs], ?_⟩
    rw [List.foldl_cons, e', e]
    simp [withReply]

/-- R114: every held query is answered in arrival order, and none is left. -/
theorem answerAllHeld_replies (s : State) : ∃ rs, rs.map (fun r => r.tag) = s.lnk.held.map (fun q => q.tag) ∧
    answerAllHeld s = { s with lnk := { s.lnk with held := [], tx := s.lnk.tx ++ rs } } :=
  answerHeld_replies s.lnk.held (modLnk (fun l => { l with held := [] }) s)

theorem answerAllHeld_gst (s : State) : (answerAllHeld s).gst = s.gst := by
  obtain ⟨rs, -, e⟩ := answerAllHeld_replies s
  rw [e]

/-! ## The end of the pass and of the event (R82, R112, R184, R190, R204) -/

/-- R112: the next pass begins at once where the again flag stood; else the Planner is IDLE. -/
def EndsPass (p q : Planner) : Prop :=
  q.generation = p.generation ∧ q.clashes = p.clashes ∧ q.dirty = false ∧ q.again = false ∧
    (p.again = true → q.passState = .pass) ∧ (q.passState = .idle ↔ q.snapshot = none)

theorem endPass_ends {s : State} (hp : s.pln.passState = .pass) : EndsPass s.pln (endPass s).pln := by
  unfold EndsPass endPass
  cases ha : s.pln.again <;> simp [ha, hp]

theorem endPass_frame (s : State) : endPass s = { s with pln := (endPass s).pln } := by
  unfold endPass
  split <;> rfl

theorem endPass_gst (s : State) : (endPass s).gst = s.gst := by rw [endPass_frame]

/-- The held queries answered and the pass ended (R112, R114). -/
theorem endPass_answerAllHeld {s : State} (hp : s.pln.passState = .pass) : ∃ rs q,
    rs.map (fun r => r.tag) = s.lnk.held.map (fun h => h.tag) ∧ EndsPass s.pln q ∧
    endPass (answerAllHeld s) = { s with pln := q, lnk := { s.lnk with held := [], tx := s.lnk.tx ++ rs } } := by
  obtain ⟨rs, htags, e⟩ := answerAllHeld_replies s
  refine ⟨rs, _, htags, ?_, endPass_frame _ |>.trans (by rw [e])⟩
  exact endPass_ends (s := { s with lnk := { s.lnk with held := [], tx := s.lnk.tx ++ rs } }) hp

@[simp] theorem syncWake_keepalive (s : State) : keepaliveOf (syncWake s).clk = keepaliveOf s.clk := by
  unfold syncWake
  split <;> simp

@[simp] theorem settleOutputs_keepalive (before s : State) :
    keepaliveOf (settleOutputs before s).clk = keepaliveOf s.clk := by simp [settleOutputs]

theorem settleOutputs_wsv (before s : State) : (settleOutputs before s).wsv =
    { s.wsv with standbyWanted := (settleOutputs before s).wsv.standbyWanted } := by
  simp only [settleOutputs, beginPass_wsv, setAttention_wsv]
  rw [retestStandby_wsv]
  simp

/-- The end of an event leaves the replies that wait, the held queries and the frames in hand (R113, R201). -/
theorem settleOutputs_replies (before s : State) : (settleOutputs before s).lnk.tx = s.lnk.tx ∧
    (settleOutputs before s).lnk.held = s.lnk.held ∧ (settleOutputs before s).lnk.inHand = s.lnk.inHand := by
  obtain ⟨ns, o, e⟩ := retestStandby_noticesOnly
    (runningCount before != runningCount (handSummaries (placeTerminals s)) ||
      before.lst.earliest != (handSummaries (placeTerminals s)).lst.earliest)
    (syncWake (handSummaries (placeTerminals s)))
  simp only [settleOutputs, beginPass_lnk, setAttention, modLnk_lnk, e, syncWake_lnk]
  exact ⟨rfl, rfl, rfl⟩

theorem beginPass_notDirty {s : State} (h : s.pln.dirty = false) : beginPass s = s := if_neg (by simp [h])

/-- With no dirty flag the end of an event begins no pass (R94). -/
theorem settleOutputs_pln {before s : State} (h : s.pln.dirty = false) : (settleOutputs before s).pln = s.pln := by
  unfold settleOutputs
  dsimp only
  rw [beginPass_notDirty (by simp [h])]
  simp

/-! ## The whole install -/

theorem time_of_timeOf {c d : Clock} (h : timeOf c = timeOf d) :
    c.count = d.count ∧ c.cstate = d.cstate ∧ c.offset = d.offset := by
  obtain ⟨⟩ := c
  obtain ⟨⟩ := d
  simp_all [timeOf]

/-- Records that differ in their pins alone (R19). -/
theorem recomputePins_unpinned (s : State) :
    (recomputePins s).gst.recs.map (fun r => { r with pins := 0 }) = s.gst.recs.map (fun r => { r with pins := 0 }) := by
  simp [recomputePins, Function.comp_def]

/-- The results of a pass written to the live state, before their conditions are submitted (R75 to R77, R99, R107 to
R109). -/
def installed (p : Snapshot) (s : State) : InstallAcc :=
  let r := planPass p
  let cands := r.work.placed.map (fun x => x.cand) ++ r.work.lost.map (fun x => x.cand) ++ r.tooShort
  applyBookings r (applyMarks p r (applyPlan p r (applyExpansion r cands s)))

/-- The results of a pass with their conditions submitted. -/
def resulting (p : Snapshot) (s : State) : State := submitFree (installed p s).conds (installed p s).s

/-- Those with the pins counted anew and the plan renewed (R19, R110). -/
def renewing (p : Snapshot) (s : State) : State :=
  renewPlan p (planPass p) (installed p s).ids (recomputePins (resulting p s))

/-- Those handed to Run Control, with the waiting starts retried (R111, R144). -/
def handing (p : Snapshot) (s : State) : State :=
  retryStarts s (handOff s (postPlanChanged
    (planChanged s (renewing p s) ((installed p s).ids.map (fun x => x.2))) (renewing p s)))

theorem installPass_eq (p : Snapshot) (s : State) : installPass p s = endPass (answerAllHeld (handing p s)) := rfl

theorem resulting_calm (p : Snapshot) (s : State) : Calm s (resulting p s) :=
  (applyExpansion_calm _ _ s).trans ((applyPlan_calm p _ _).trans ((applyMarks_calm p _ _).trans
    ((applyBookings_calm _ _).trans (submitFree_calm _ _))))

theorem handing_calm (p : Snapshot) (s : State) : Calm (renewing p s) (handing p s) :=
  (postPlanChanged_calm _ _).trans ((handOff_calm s _).trans (retryStarts_calm s _))

theorem handing_renewed (p : Snapshot) {s : State} (h : s.pln.passState = .pass) : Renewed s.pln (handing p s).pln :=
  (renewPlan_renewed (u := recomputePins (resulting p s)) (resulting_calm p s).pass h p _ _).goesOn (handing_calm p s).pass

theorem handing_noticesOnly (p : Snapshot) (s : State) : NoticesOnly s (handing p s) :=
  (resulting_calm p s).notices.trans (handing_calm p s).notices

theorem handing_gst (p : Snapshot) (s : State) : (handing p s).gst = (recomputePins (resulting p s)).gst :=
  (handing_calm p s).guide

theorem installPass_gst (p : Snapshot) (s : State) : (installPass p s).gst = (recomputePins (resulting p s)).gst :=
  (endPass_gst _).trans ((answerAllHeld_gst _).trans (handing_gst p s))

theorem handing_keepalive (p : Snapshot) (s : State) : keepaliveOf (handing p s).clk = keepaliveOf s.clk := by
  have same : (renewing p s).clk = (resulting p s).clk := rfl
  rw [(handing_calm p s).keepalive, same, (resulting_calm p s).keepalive]

theorem handing_wsv (p : Snapshot) (s : State) : (handing p s).wsv = s.wsv := by
  have same : (renewing p s).wsv = (resulting p s).wsv := rfl
  rw [(handing_calm p s).host, same, (resulting_calm p s).host]

/-- Settles O21, part by part of the install. -/
theorem installRenewsThePlan : Obligations.InstallRenewsThePlan := by
  refine ⟨fun s sn hp hsn => ?_, fun s hp => ?_⟩
  · have run : exec .install s = .next (settleOutputs s (installPass sn s)) := by
      show execInstall s = _
      simp only [execInstall, hp, hsn]
    obtain ⟨hcount, hcstate, hoffset⟩ := time_of_timeOf ((installPass_quiet sn s).trans (settleOutputs_quiet s _)).time
    obtain ⟨hpass, hgen, hclash, hagain⟩ := handing_renewed sn hp
    obtain ⟨ns, o, hlnk⟩ := handing_noticesOnly sn s
    obtain ⟨rs, q, htags, ⟨egen, eclash, edirty, eagain, enext, eidle⟩, after⟩ := endPass_answerAllHeld hpass
    rw [← installPass_eq] at after
    have left : (installPass sn s).pln = q := congrArg State.pln after
    have hpln : (settleOutputs s (installPass sn s)).pln = q :=
      (settleOutputs_pln (congrArg Planner.dirty left |>.trans edirty)).trans left
    obtain ⟨htx, hheld, hhand⟩ := settleOutputs_replies s (installPass sn s)
    refine ⟨_, run, ?_⟩
    rw [hpln, htx, hheld, hhand, settleOutputs_gst]
    refine ⟨egen.trans hgen, (congrArg List.length eclash).trans_le hclash, edirty, eagain, fun h => enext (hagain h),
      eidle, ?_, ⟨rs, ?_, ?_⟩, ?_, ?_, hcount, hcstate, hoffset, ?_, ?_⟩
    · rw [after]
    · rw [after, hlnk]
    · rw [htags, hlnk]
    · rw [after, hlnk]
    · rw [installPass_gst, recomputePins_unpinned, (resulting_calm sn s).guide]
    · have keeps : keepaliveOf (installPass sn s).clk = keepaliveOf s.clk := by simp only [after, handing_keepalive]
      exact (settleOutputs_keepalive s _).trans keeps
    · have host : (installPass sn s).wsv = s.wsv := by simp only [after, handing_wsv]
      rw [← host]
      exact settleOutputs_wsv s _
  · show execInstall s = _
    simp only [execInstall, hp]

end Sys2Proof.Machine

/-! PROOFS. The commands of the other blocks leave the guide alone (R17). -/

namespace Sys2Proof.Machine

-- one theorem after another: many at a time would want a thread each
set_option Elab.async false

open Sys2Proof

/-! ## Frames and events -/

theorem onFrame_gst {act : State → State} (h : ∀ u, (act u).gst = u.gst) (kind tag : Byte) (p : List Byte) (s : State) :
    (onFrame kind tag p act s).gst = s.gst := by
  unfold onFrame
  dsimp only
  repeat' split
  · rfl
  · rfl
  · rw [h, frameInHand_gst, frameArrived_gst]

theorem onMessage_gst {α : Type} {act : α → State → State} (h : ∀ m u, (act m u).gst = u.gst) (pr : Parser α)
    (kind tag : Byte) (p : List Byte) (s : State) : (onMessage kind tag pr p act s).gst = s.gst := by
  refine onFrame_gst (fun u => ?_) kind tag p s
  split
  · exact h _ u
  · rfl

theorem onDue_gst {act : State → State} (h : ∀ u, (act u).gst = u.gst) (k : DueKind) (s : State) :
    (onDue k act s).gst = s.gst := by
  unfold onDue
  obtain ⟨-, e⟩ | ⟨-, e⟩ := takeDue_cases k s
  · rw [e]
    exact (settle_gst s _).trans (h _)
  · rw [e]

theorem takeDelay_gst {k : DelayKind} {s t : State} (h : takeDelay k s = some t) : t.gst = s.gst := by
  rw [(takeDelay_keeps h).1]

theorem onDelay_gst {act : State → State} (h : ∀ u, (act u).gst = u.gst) (k : DelayKind) (s : State) :
    (onDelay k act s).gst = s.gst := by
  unfold onDelay
  split
  · rfl
  · rw [settle_gst, h, takeDelay_gst ‹_›]

/-! ## The Clock Unit and the Booking Table (chapters 1 and 3) -/

section Messages

variable (tag : Byte) (s : State)

@[simp] theorem timeGet_gst : (timeGet tag s).gst = s.gst := rfl

@[simp] theorem timeSet_gst (m : TimeSetMsg) : (timeSet tag m s).gst = s.gst := by
  have taken : (takeTimeSet tag m s).gst = s.gst := timeSetWork_gst m s
  unfold timeSet
  repeat' split
  · rfl
  · exact taken
  · exact taken

@[simp] theorem addBooking_gst (kind : Byte) (dup : Option Booking) (part : BookingPart) (c : CommonMsg) :
    (addBooking kind tag dup part c s).gst = s.gst := by
  unfold addBooking
  repeat' split
  all_goals simp

@[simp] theorem bookEvent_gst (m : EventKey × CommonMsg) : (bookEvent tag m s).gst = s.gst := by
  unfold bookEvent
  repeat' split
  all_goals simp

@[simp] theorem bookSeries_gst (m : BookSeriesMsg) : (bookSeries tag m s).gst = s.gst := by
  unfold bookSeries
  split <;> simp

@[simp] theorem bookManual_gst (m : ManualPart × CommonMsg) : (bookManual tag m s).gst = s.gst := by
  unfold bookManual
  split <;> simp

@[simp] theorem bookChange_gst (m : Nat × List ChangeField) : (bookChange tag m s).gst = s.gst := by
  unfold bookChange
  repeat' split
  all_goals simp

@[simp] theorem moveBooking_gst (kind : Byte) (st : BookingState) (bid : Nat) :
    (moveBooking kind tag st bid s).gst = s.gst := by
  unfold moveBooking setBookingState
  repeat' split
  all_goals simp

@[simp] theorem deleteInst_gst (iid : Nat) : (deleteInst iid s).gst = s.gst := by
  unfold deleteInst
  repeat' split
  all_goals simp

@[simp] theorem bookDelete_gst (bid : Nat) : (bookDelete tag bid s).gst = s.gst := by
  unfold bookDelete dropBooking
  split <;> simp [foldl_keeps State.gst]

@[simp] theorem bookGet_gst (bid : Nat) : (bookGet tag bid s).gst = s.gst := by
  unfold bookGet
  split <;> simp

@[simp] theorem bookList_gst (n : Nat) : (bookList tag n s).gst = s.gst := by
  unfold bookList
  split <;> simp

@[simp] theorem historyAdd_gst (e : HistEntry) : (historyAdd tag e s).gst = s.gst := by
  unfold historyAdd
  split <;> simp

@[simp] theorem historyDrop_gst (m : HistDropMsg) : (historyDrop tag m s).gst = s.gst := by
  unfold historyDrop dropEntries
  repeat' split
  all_goals simp

@[simp] theorem historyGet_gst (m : Nat × Option Ref) : (historyGet tag m s).gst = s.gst := by
  unfold historyGet
  dsimp only
  split <;> simp

/-! ## Reading and taking (chapters 5 to 7) -/

@[simp] theorem instanceGet_gst (iid : Nat) : (instanceGet tag iid s).gst = s.gst := by
  unfold instanceGet
  split <;> simp

@[simp] theorem answerPlanGet_gst (a b k : Nat) : (answerPlanGet tag a b k s).gst = s.gst := by
  unfold answerPlanGet
  dsimp only
  split <;> simp

@[simp] theorem answerClashGet_gst (k : Nat) : (answerClashGet tag k s).gst = s.gst := by
  unfold answerClashGet
  dsimp only
  split <;> simp

theorem holdOr_gst {ans : State → State} (h : (ans s).gst = s.gst) (kind : Byte) (q : Query) :
    (holdOr kind tag q ans s).gst = s.gst := by
  unfold holdOr
  repeat' split
  · exact h
  · rfl
  · rfl

@[simp] theorem planGet_gst (m : Nat × Nat × Nat) : (planGet tag m s).gst = s.gst := by
  unfold planGet
  repeat' split
  · rfl
  · rfl
  · exact holdOr_gst tag s (answerPlanGet_gst tag s _ _ _) _ _

@[simp] theorem clashGet_gst (k : Nat) : (clashGet tag k s).gst = s.gst := by
  unfold clashGet
  repeat' split
  · rfl
  · rfl
  · exact holdOr_gst tag s (answerClashGet_gst tag s _) _ _

@[simp] theorem outcomeTake_gst (iid : Nat) : (outcomeTake tag iid s).gst = s.gst := by
  unfold outcomeTake
  repeat' split
  · rfl
  · exact (leaveList_calm _ s).guide
  · rfl

/-! ## Run Control (chapter 8) -/

@[simp] theorem takeHeldLimit_gst (iid : Nat) : (takeHeldLimit iid s).gst = s.gst := by
  unfold takeHeldLimit
  repeat' split
  all_goals simp

@[simp] theorem takeOverrunCap_gst (iid : Nat) : (takeOverrunCap iid s).gst = s.gst := by
  unfold takeOverrunCap
  repeat' split
  all_goals simp

@[simp] theorem failStart_gst (c : Cause) (r : Option Nat) (i : Inst) : (failStart c r i s).gst = s.gst := by
  simp [failStart]

@[simp] theorem takeStartTimeout_gst (iid : Nat) : (takeStartTimeout iid s).gst = s.gst := by
  unfold takeStartTimeout
  repeat' split
  all_goals simp

@[simp] theorem takeStopTimeout_gst (iid : Nat) : (takeStopTimeout iid s).gst = s.gst := by
  unfold takeStopTimeout
  repeat' split
  all_goals simp

@[simp] theorem armMonitor_gst (t : Tuner) : (armMonitor t s).gst = s.gst := by
  unfold armMonitor
  split <;> simp

@[simp] theorem takeStarted_gst (i : Inst) : (takeStarted i s).gst = s.gst := by
  unfold takeStarted
  dsimp only
  repeat' split
  all_goals simp

@[simp] theorem takeHostStop_gst (i : Inst) : (takeHostStop i s).gst = s.gst := by
  unfold takeHostStop
  dsimp only
  split <;> simp

@[simp] theorem answerReport_gst (iid : Nat) : (answerReport tag iid s).gst = s.gst := rfl

@[simp] theorem recReport_gst (m : Nat × Report) : (recReport tag m s).gst = s.gst := by
  unfold recReport
  repeat' split
  all_goals simp

@[simp] theorem viewClaim_gst (m : ClaimMsg) : (viewClaim tag m s).gst = s.gst := by
  unfold viewClaim newClaim changeClaim
  dsimp only
  repeat' split
  all_goals simp

@[simp] theorem viewRelease_gst (n : Nat) : (viewRelease tag n s).gst = s.gst := by
  unfold viewRelease
  split <;> simp

@[simp] theorem takeGraceEnd_gst (t : Tuner) : (takeGraceEnd t s).gst = s.gst := by
  unfold takeGraceEnd
  split <;> simp

@[simp] theorem monitorTick_gst (t : Tuner) (locked : Bool) : (monitorTick t locked s).gst = s.gst := by
  unfold monitorTick declareGap
  repeat' split
  all_goals simp

@[simp] theorem takeTick_gst (t : Tuner) (locked : Bool) : (takeTick t locked s).gst = s.gst := by
  unfold takeTick restartTick
  split <;> simp

@[simp] theorem takeAbandon_gst (t : Tuner) : (takeAbandon t s).gst = s.gst := by
  unfold takeAbandon
  dsimp only
  split <;> simp [foldl_keeps State.gst]

/-! ## The Wake Supervisor (chapter 10) -/

@[simp] theorem startWakeTimeout_gst : (startWakeTimeout s).gst = s.gst := rfl
@[simp] theorem beginPulse_gst : (beginPulse s).gst = s.gst := rfl

@[simp] theorem takeKeepalive_gst : (takeKeepalive s).gst = s.gst := by
  unfold takeKeepalive
  dsimp only
  split <;> simp

@[simp] theorem takeWakeDue_gst : (takeWakeDue s).gst = s.gst := by
  unfold takeWakeDue
  split <;> simp

@[simp] theorem takeWakeTimeout_gst : (takeWakeTimeout s).gst = s.gst := by
  unfold takeWakeTimeout
  repeat' split
  all_goals simp

@[simp] theorem helloAwake_gst : (helloAwake s).gst = s.gst := by simp [helloAwake]

@[simp] theorem helloWork_gst (previous : HostState) (n : Nat) : (helloWork previous n s).gst = s.gst := by
  unfold helloWork
  split <;> simp

@[simp] theorem hello_gst : (hello tag s).gst = s.gst := by simp [hello, helloDone]

@[simp] theorem standby_gst : (standby tag s).gst = s.gst := by
  unfold standby acceptStandby
  repeat' split
  all_goals simp

@[simp] theorem causeClear_gst : (causeClear tag s).gst = s.gst := rfl

@[simp] theorem resetPart_gst (n : Nat) : (resetPart tag n s).gst = s.gst := by
  unfold resetPart
  split <;> simp

/-! ## The Condition Log and the Link Port (chapters 9 and 11) -/

@[simp] theorem condRead_gst (n : Nat) : (condRead tag n s).gst = s.gst := by
  unfold condRead
  split <;> simp

@[simp] theorem condClear_gst (m : Nat × Bool) : (condClear tag m s).gst = s.gst := by
  unfold condClear
  repeat' split
  all_goals simp

@[simp] theorem condConfig_gst (m : CondConfigMsg) : (condConfig tag m s).gst = s.gst := by
  unfold condConfig
  repeat' split
  all_goals simp

@[simp] theorem noticeFetch_gst : (noticeFetch tag s).gst = s.gst := rfl
@[simp] theorem actionsGet_gst : (actionsGet tag s).gst = s.gst := rfl

@[simp] theorem retimeAbandon_gst (t : Tuner) : (retimeAbandon t s).gst = s.gst := by
  unfold retimeAbandon
  split
  · split
    · rfl
    · rename_i d _
      obtain ⟨-, e⟩ | ⟨-, e⟩ := takeDue_cases (.abandon t) (requestDue (.abandon t) (d / 10 + s.run.abandonLimit) s)
      · simp [e]
      · simp [e]
  · rfl

@[simp] theorem writeSetting_gst (n v : Nat) : (writeSetting n v s).gst = s.gst := by
  unfold writeSetting writeWakeLead writeKeepCode
  split <;> simp

@[simp] theorem configSet_gst (items : List (Nat × Nat)) : (configSet tag items s).gst = s.gst := by
  unfold configSet
  dsimp only
  repeat' split
  all_goals simp [foldl_keeps State.gst]

@[simp] theorem configGet_gst (ns : List Nat) : (configGet tag ns s).gst = s.gst := by
  unfold configGet
  dsimp only
  repeat' split
  all_goals simp

@[simp] theorem guideGet_gst (p : List Byte) : (guideGet tag p s).gst = s.gst := by
  unfold guideGet guideSummary guideGetKey
  repeat' split
  all_goals rfl

end Messages

/-! ## The events of the line (R196 to R201) -/

section Line

variable {s t : State} {kind tag : Byte} {p : List Byte}

theorem execBadCheck_gst {check : BitVec 16} (h : execBadCheck kind tag p check s = .next t) : t.gst = s.gst := by
  unfold execBadCheck at h
  dsimp only at h
  repeat' split at h
  all_goals
    cases h
    rfl

theorem execBadKind_gst (h : execBadKind kind tag p s = .next t) : t.gst = s.gst := by
  unfold execBadKind at h
  split at h
  · cases h
    rfl
  · cases h
    exact onFrame_gst (act := answerBadKind kind tag) (fun _ => rfl) _ _ _ _

theorem execFrameDiscardedInHand_gst (h : execFrameDiscardedInHand kind tag p s = .next t) : t.gst = s.gst := by
  unfold execFrameDiscardedInHand at h
  split at h
  all_goals
    cases h
    rfl

theorem execLineFramingError_gst {bs : List Byte} (h : execLineFramingError bs s = .next t) : t.gst = s.gst := by
  unfold execLineFramingError at h
  split at h
  all_goals
    cases h
    rfl

theorem interByteEnd_gst (s : State) : (interByteEnd s).gst = s.gst := by
  unfold interByteEnd
  dsimp only
  cases h : takeDelay .interByte (startDelay .interByte Config.interByteUnits s) with
  | none => rfl
  | some t =>
    show t.gst = s.gst
    exact (takeDelay_gst h).trans (startDelay_gst _ _ s)

theorem execInterByteTimeout_gst {bs : List Byte} (h : execInterByteTimeout bs s = .next t) : t.gst = s.gst := by
  unfold execInterByteTimeout at h
  repeat' split at h
  · cases h
    rfl
  · cases h
    rfl
  · cases h
    exact interByteEnd_gst _

theorem execReplySent_gst (h : execReplySent s = .next t) : t.gst = s.gst := by
  unfold execReplySent at h
  split at h
  all_goals
    cases h
    rfl

theorem execFrameLengthExceeds512_gst {high low : Byte} (h : execFrameLengthExceeds512 high low s = .next t) :
    t.gst = s.gst := by
  unfold execFrameLengthExceeds512 at h
  split at h
  all_goals
    cases h
    rfl

end Line

end Sys2Proof.Machine

/-! PROOFS. Every step keeps the Guide Store in order, without repeats, within capacity and in its ranges (R17, R22). -/

namespace Sys2Proof.Machine

-- one theorem after another: many at a time would want a thread each
set_option Elab.async false

open Sys2Proof

/-! ## The store order (R17) -/

theorem recLt_iff (a b : GuideRec) : recLt a b = true ↔ a.start < b.start ∨ a.start = b.start ∧
    (a.key.service < b.key.service ∨ a.key.service = b.key.service ∧ a.key.event < b.key.event) := by
  simp [recLt]

theorem recLt_trans (a b c : GuideRec) (h : recLt a b = true) (k : recLt b c = true) : recLt a c = true := by
  rw [recLt_iff] at *
  omega

theorem eventKey_eq {j k : EventKey} (hs : j.service = k.service) (he : j.event = k.event) : j = k := by
  cases j
  cases k
  simp_all

/-- Records of different keys are comparable. -/
theorem recLt_total {a b : GuideRec} (h : a.key ≠ b.key) : recLt a b = true ∨ recLt b a = true := by
  have differ : a.key.service ≠ b.key.service ∨ a.key.event ≠ b.key.event :=
    not_and_or.mp (fun ⟨hs, he⟩ => h (eventKey_eq hs he))
  rw [recLt_iff, recLt_iff]
  omega

/-- The order looks at start and key alone. -/
theorem recLt_congr {a a' b b' : GuideRec} (ha : a'.start = a.start) (hka : a'.key = a.key) (hb : b'.start = b.start)
    (hkb : b'.key = b.key) : recLt a' b' = recLt a b := by simp only [recLt, ha, hka, hb, hkb]

/-! ## The records of a store -/

/-- The invariant of the Guide Store, of its records alone. -/
abbrev RecsKept (recs : List GuideRec) : Prop :=
  recs.Pairwise (fun a b => recLt a b = true) ∧ (recs.map (fun r => r.key)).Nodup ∧
  recs.length ≤ Config.guideCap ∧ ∀ r ∈ recs, RecKept r

theorem guideKept_iff (s : State) : GuideKept s ↔ RecsKept s.gst.recs := Iff.rfl

theorem recsKept_nil : RecsKept [] := ⟨.nil, List.nodup_nil, Nat.zero_le _, nofun⟩

theorem RecsKept.filter {recs : List GuideRec} (h : RecsKept recs) (p : GuideRec → Bool) :
    RecsKept (recs.filter p) := by
  obtain ⟨hord, hkeys, hlen, hrec⟩ := h
  exact ⟨hord.filter p, hkeys.sublist (List.filter_sublist.map _), (List.length_filter_le _ _).trans hlen,
    fun r hr => hrec r (List.mem_of_mem_filter hr)⟩

/-- Writing what neither the order nor the ranges speak of: the status, or the pins (R19, R31). -/
theorem RecsKept.map {recs : List GuideRec} (h : RecsKept recs) {f : GuideRec → GuideRec}
    (hf : ∀ r, (f r).key = r.key ∧ (f r).mux = r.mux ∧ (f r).start = r.start ∧ (f r).dur = r.dur) :
    RecsKept (recs.map f) := by
  obtain ⟨hord, hkeys, hlen, hrec⟩ := h
  refine ⟨List.pairwise_map.mpr (hord.imp fun {a b} hab => ?_), ?_, by simpa using hlen, fun r hr => ?_⟩
  · obtain ⟨hka, -, hsa, -⟩ := hf a
    obtain ⟨hkb, -, hsb, -⟩ := hf b
    rwa [recLt_congr hsa hka hsb hkb]
  · have same : (fun r => r.key) ∘ f = fun r => r.key := funext fun r => (hf r).1
    rwa [List.map_map, same]
  · obtain ⟨x, hx, rfl⟩ := List.mem_map.mp hr
    obtain ⟨hk, hm, hs, hd⟩ := hf x
    have kept := hrec x hx
    unfold RecKept at kept ⊢
    rwa [hk, hm, hs, hd]

/-- A record of a new key put at its place in a store that has room (R17, R24). -/
theorem RecsKept.insert {recs : List GuideRec} (h : RecsKept recs) {r : GuideRec} (hr : RecKept r)
    (hk : ∀ x ∈ recs, x.key ≠ r.key) (hl : recs.length < Config.guideCap) : RecsKept (insertBy recLt r recs) := by
  obtain ⟨hord, hkeys, -, hrec⟩ := h
  refine ⟨insertBy_pairwise recLt r recs recLt_trans (fun x hx => recLt_total (hk x hx).symm) hord, ?_, ?_,
    fun x hx => ?_⟩
  · rw [((insertBy_perm recLt r recs).map _).nodup_iff, List.map_cons, List.nodup_cons]
    refine ⟨fun hm => ?_, hkeys⟩
    obtain ⟨x, hx, e⟩ := List.mem_map.mp hm
    exact hk x hx e
  · rw [length_insertBy]
    exact hl
  · obtain rfl | hx := (mem_insertBy recLt r x recs).mp hx
    · exact hr
    · exact hrec x hx

/-- The record of a key that is held. -/
theorem recOf_some {k : EventKey} {recs : List GuideRec} {r : GuideRec} (h : recOf k recs = some r) :
    r ∈ recs ∧ r.key = k :=
  ⟨List.mem_of_find?_eq_some h, by simpa using List.find?_some h⟩

theorem recOf_none {k : EventKey} {recs : List GuideRec} (h : recOf k recs = none) : ∀ x ∈ recs, x.key ≠ k :=
  fun x hx => by simpa using List.find?_eq_none.mp h x hx

/-- Taking out a key that is held makes room (R23, R25). -/
theorem length_without_key {recs : List GuideRec} {r : GuideRec} (h : r ∈ recs) :
    (recs.filter (fun x => x.key != r.key)).length < recs.length :=
  List.length_filter_lt_length_iff_exists.mpr ⟨r, h, by simp⟩

/-! ## States that hold such a store -/

theorem guideKept_of_gst {s t : State} (e : t.gst = s.gst) (h : GuideKept s) : GuideKept t := by
  rw [guideKept_iff, e]
  exact h

/-- A fold over anything that carries a state keeps the guide where each of its steps does. -/
theorem guideKept_foldl {α β : Type} {p : β → State} {f : β → α → β}
    (h : ∀ b x, GuideKept (p b) → GuideKept (p (f b x))) (xs : List α) {b : β} (hb : GuideKept (p b)) :
    GuideKept (p (xs.foldl f b)) := by
  induction xs generalizing b with
  | nil => exact hb
  | cons x xs ih => exact ih (h b x hb)

theorem onFrame_guideKept {act : State → State} (h : ∀ u, GuideKept u → GuideKept (act u)) (kind tag : Byte)
    (p : List Byte) {s : State} (hs : GuideKept s) : GuideKept (onFrame kind tag p act s) := by
  unfold onFrame
  dsimp only
  repeat' split
  · exact hs
  · exact hs
  · exact h _ (guideKept_of_gst (frameInHand_gst _) hs)

theorem onMessage_guideKept {α : Type} {act : α → State → State} (h : ∀ m u, GuideKept u → GuideKept (act m u))
    (pr : Parser α) (kind tag : Byte) (p : List Byte) {s : State} (hs : GuideKept s) :
    GuideKept (onMessage kind tag pr p act s) := by
  refine onFrame_guideKept (fun u hu => ?_) kind tag p hs
  split
  · exact h _ u hu
  · exact hu

/-! ## The Guide Store's messages (R21 to R31) -/

/-- An entry that R22 does not ignore is in range. -/
theorem entry_in_range {t : Nat} {e : GuideEntry} (h : entryIgnored t e = false) :
    1 ≤ e.key.service ∧ 1 ≤ e.mux ∧ Config.minWindow ≤ e.dur ∧ e.dur ≤ Config.maxDur ∧
      e.start + e.dur ≤ Config.maxTime := by
  simp only [entryIgnored, Bool.or_eq_false_iff, beq_eq_false_iff_ne, decide_eq_false_iff_not] at h
  omega

theorem takeRec_guideKept (k : EventKey) {s : State} (hs : GuideKept s) : GuideKept (takeRec k s) :=
  RecsKept.filter hs _

theorem insertEntry_guideKept {t : Nat} {e : GuideEntry} {s : State} (hi : entryIgnored t e = false)
    (hk : ∀ x ∈ s.gst.recs, x.key ≠ e.key) (hl : s.gst.recs.length < Config.guideCap) (hs : GuideKept s) :
    GuideKept (insertEntry e s) := by
  rw [insertEntry_eq]
  exact guideKept_of_gst (setDirtyIf_gst _ _)
    (RecsKept.insert (r := entryRec e s.lst.insts) hs (entry_in_range hi) hk hl)

theorem replaceEntry_gst (e : GuideEntry) (old : GuideRec) (s : State) :
    (replaceEntry e old s).gst = (placeRec (entryOver e old) (takeRec e.key s)).gst := by
  unfold replaceEntry
  dsimp only
  split
  · exact setDirtyIf_gst _ _
  · exact (handStatus_gst _ _ _).trans (setDirtyIf_gst _ _)

theorem replaceEntry_guideKept {t : Nat} {e : GuideEntry} {old : GuideRec} {s : State} (hi : entryIgnored t e = false)
    (hk : recOf e.key s.gst.recs = some old) (hs : GuideKept s) : GuideKept (replaceEntry e old s) := by
  obtain ⟨hmem, hkey⟩ := recOf_some hk
  refine guideKept_of_gst (replaceEntry_gst e old s) ?_
  refine RecsKept.insert (takeRec_guideKept e.key hs) (r := entryOver e old) ?_ (fun x hx => ?_) ?_
  · have range := entry_in_range hi
    rwa [← hkey] at range
  · have other : x.key ≠ e.key := by simpa using (List.mem_filter.mp hx).2
    exact hkey ▸ other
  · obtain ⟨-, -, hlen, -⟩ := hs
    exact (hkey ▸ length_without_key hmem).trans_le hlen

theorem putEntry_guideKept (t : Nat) (sc : State × PutCounts) (e : GuideEntry) (hs : GuideKept sc.1) :
    GuideKept (putEntry t sc e).1 := by
  obtain ⟨s, c⟩ := sc
  cases hi : entryIgnored t e with
  | true =>
    rw [putEntry_ignored hi]
    exact hs
  | false =>
    cases hk : recOf e.key s.gst.recs with
    | some old =>
      rw [putEntry_held hi hk]
      exact replaceEntry_guideKept hi hk hs
    | none =>
      obtain hl | hl := Nat.lt_or_ge s.gst.recs.length Config.guideCap
      · rw [putEntry_room hi hk hl]
        exact insertEntry_guideKept hi (recOf_none hk) hl hs
      · cases hv : latestUnpinned s.gst.recs with
        | none =>
          rw [putEntry_pinned hi hk hl hv]
          exact hs
        | some v =>
          obtain hlt | hle := Nat.lt_or_ge e.start v.start
          · rw [putEntry_evicts hi hk hl hv hlt, insertEntry_evicting]
            have hmem : v ∈ s.gst.recs := List.mem_reverse.mp (List.mem_of_find?_eq_some hv)
            obtain ⟨-, -, hlen, -⟩ := (guideKept_iff s).mp hs
            exact guideKept_of_gst (setDirtyIf_gst _ _) (RecsKept.insert (r := entryRec e s.lst.insts)
              (takeRec_guideKept v.key hs) (entry_in_range hi)
              (fun x hx => recOf_none hk x (List.mem_of_mem_filter hx)) ((length_without_key hmem).trans_le hlen))
          · rw [putEntry_late hi hk hl hv hle]
            exact hs

theorem guidePut_guideKept (tag : Byte) (es : List GuideEntry) (s : State) (hs : GuideKept s) :
    GuideKept (guidePut tag es s) :=
  guideKept_of_gst rfl (guideKept_foldl (p := Prod.fst) (putEntry_guideKept (now s)) es (b := (s, ⟨0, 0, 0, 0⟩)) hs)

theorem removeRec_gst (r : GuideRec) (s : State) : (removeRec r s).gst = (takeRec r.key s).gst :=
  (handStatus_gst _ _ _).trans (setDirtyIf_gst _ _)

theorem removeRec_guideKept (r : GuideRec) {s : State} (hs : GuideKept s) : GuideKept (removeRec r s) :=
  guideKept_of_gst (removeRec_gst r s) (takeRec_guideKept r.key hs)

theorem removeRecs_guideKept (xs : List GuideRec) {s : State} (hs : GuideKept s) :
    GuideKept (xs.foldl (fun u r => removeRec r u) s) :=
  guideKept_foldl (p := id) (fun _ r hu => removeRec_guideKept r hu) xs hs

theorem dropKey_guideKept (sc : State × Nat × Nat) (k : EventKey) (hs : GuideKept sc.1) :
    GuideKept (dropKey sc k).1 := by
  unfold dropKey
  split
  · exact removeRec_guideKept _ hs
  · exact hs

theorem guideDrop_guideKept (tag : Byte) (m : GuideDropMsg) (s : State) (hs : GuideKept s) :
    GuideKept (guideDrop tag m s) := by
  cases m with
  | keys ks => exact guideKept_of_gst rfl (guideKept_foldl (p := Prod.fst) dropKey_guideKept ks (b := (s, 0, 0)) hs)
  | service n =>
    simp only [guideDrop, dropService]
    split
    · exact hs
    · exact guideKept_of_gst rfl (removeRecs_guideKept _ hs)

theorem eventStatus_guideKept (tag : Byte) (m : EventKey × Nat) (s : State) (hs : GuideKept s) :
    GuideKept (eventStatus tag m s) := by
  have written (k : EventKey) (st : RunStatus) : GuideKept
      (setRecs (s.gst.recs.map (fun x => if x.key == k then { x with status := st } else x)) s) := by
    refine RecsKept.map hs (fun r => ?_)
    split <;> simp
  unfold eventStatus
  split
  · exact hs
  · split
    · exact hs
    · dsimp only
      split
      · exact written _ _
      · exact guideKept_of_gst (handStatus_gst _ _ _) (written _ _)

theorem execGuidePut_guideKept {tag : Byte} {p : List Byte} {s t : State} (hs : GuideKept s)
    (h : execGuidePut tag p s = .next t) : GuideKept t := by
  cases h
  refine guideKept_of_gst (settle_gst s _) (onFrame_guideKept (fun u hu => ?_) 0x18 tag p hs)
  repeat' split
  · exact hu
  · exact hu
  · exact guidePut_guideKept tag _ u hu
  · exact hu

/-! ## The day rollover, the resets and the install (R19, R32, R34) -/

theorem purgeGuide_guideKept {s : State} (hs : GuideKept s) : GuideKept (purgeGuide s) := removeRecs_guideKept _ hs

theorem handRollover_guideKept {s : State} (hs : GuideKept s) : GuideKept (handRollover s) := by
  unfold handRollover
  repeat' split
  · exact hs
  · exact guideKept_of_gst (setDirty_gst _) (purgeGuide_guideKept (s := bumpFree s) hs)
  · exact purgeGuide_guideKept (guideKept_of_gst (beginPass_gst _) hs)

theorem execDayRollover_guideKept {s t : State} (hs : GuideKept s) (h : execDayRollover s = .next t) : GuideKept t := by
  unfold execDayRollover at h
  split at h
  · cases h
    exact hs
  · cases h
    exact guideKept_of_gst (settle_gst s _) (handRollover_guideKept (s := modClk rolloverTaken s) hs)

theorem execOffsetChange_gst {s t : State} (h : execOffsetChange s = .next t) : t.gst = s.gst := by
  unfold execOffsetChange at h
  split at h
  · cases h
    rw [settle_gst, setDirty_gst]
    split
    · rfl
    · exact submit_gst _ _
  · cases h
    rfl

theorem guideKept_of_empty {t : State} (h : t.gst.recs = []) : GuideKept t := by
  rw [guideKept_iff, h]
  exact recsKept_nil

theorem execWarmReset_guideKept {s t : State} (hs : GuideKept s) (h : execWarmReset s = .next t) : GuideKept t := by
  unfold execWarmReset at h
  split at h
  · cases h
    exact guideKept_of_empty (by simp [warmReset])
  · cases h
    exact hs

theorem execColdReset_guideKept {s t : State} (hs : GuideKept s) (h : execColdReset s = .next t) : GuideKept t := by
  unfold execColdReset at h
  split at h
  · cases h
    exact guideKept_of_empty (by simp [coldReset])
  · cases h
    exact hs

/-- An install writes the guide's pins alone (R19). -/
theorem execInstall_guideKept {s t : State} (hs : GuideKept s) (h : execInstall s = .next t) : GuideKept t := by
  unfold execInstall at h
  split at h
  · rename_i p _ _
    cases h
    have pins : GuideKept (recomputePins (resulting p s)) :=
      RecsKept.map (guideKept_of_gst (resulting_calm p s).guide hs) (fun _ => ⟨rfl, rfl, rfl, rfl⟩)
    exact guideKept_of_gst ((settleOutputs_gst s _).trans (installPass_gst p s)) pins
  · cases h
    exact hs

/-! ## Every command -/

/-- A command that ends in a state with the guide of before. -/
theorem guideKept_answers {s u t : State} (hs : GuideKept s) (e : u.gst = s.gst)
    (h : (.next u : Host.Outcome State Fault Refusal) = .next t) : GuideKept t := by
  cases h
  exact guideKept_of_gst e hs

/-- A command that settles a state with such a guide. -/
theorem guideKept_settles {s u t : State} (hu : GuideKept u)
    (h : (.next (settle s u) : Host.Outcome State Fault Refusal) = .next t) : GuideKept t :=
  guideKept_answers hu (settle_gst s u) h

theorem guideKept_message {α : Type} {act : α → State → State} (e : ∀ m u, (act m u).gst = u.gst) {pr : Parser α}
    {kind tag : Byte} {p : List Byte} {s t : State} (hs : GuideKept s)
    (h : (.next (onMessage kind tag pr p act s) : Host.Outcome State Fault Refusal) = .next t) : GuideKept t :=
  guideKept_answers hs (onMessage_gst e pr kind tag p s) h

theorem guideKept_settledMessage {α : Type} {act : α → State → State} (e : ∀ m u, (act m u).gst = u.gst)
    {pr : Parser α} {kind tag : Byte} {p : List Byte} {s t : State} (hs : GuideKept s)
    (h : (.next (settle s (onMessage kind tag pr p act s)) : Host.Outcome State Fault Refusal) = .next t) :
    GuideKept t :=
  guideKept_settles (guideKept_of_gst (onMessage_gst e pr kind tag p s) hs) h

theorem guideKept_due {act : State → State} (e : ∀ u, (act u).gst = u.gst) {k : DueKind} {s t : State}
    (hs : GuideKept s) (h : (.next (onDue k act s) : Host.Outcome State Fault Refusal) = .next t) : GuideKept t :=
  guideKept_answers hs (onDue_gst e k s) h

theorem guideKept_delay {act : State → State} (e : ∀ u, (act u).gst = u.gst) {k : DelayKind} {s t : State}
    (hs : GuideKept s) (h : (.next (onDelay k act s) : Host.Outcome State Fault Refusal) = .next t) : GuideKept t :=
  guideKept_answers hs (onDelay_gst e k s) h

/-- One command keeps the guide: the Guide Store's own messages, the rollover, the resets and the install by their own
lemmas, every other one because it leaves the guide alone. -/
theorem exec_guideKept (c : Instr) {s t : State} (hs : GuideKept s) (h : exec c s = .next t) : GuideKept t := by
  cases c with
  | powerOn =>
    cases h
    exact guideKept_of_empty rfl
  | warmReset => exact execWarmReset_guideKept hs h
  | coldReset => exact execColdReset_guideKept hs h
  | crystalSecond => exact guideKept_answers hs (modClk_gst _ s) h
  | dayRollover => exact execDayRollover_guideKept hs h
  | offsetChange => exact guideKept_of_gst (execOffsetChange_gst h) hs
  | timeSet tag p => exact guideKept_settledMessage (fun m u => timeSet_gst tag u m) hs h
  | timeGet tag p => exact guideKept_message (fun _ u => timeGet_gst tag u) hs h
  | guidePut tag p => exact execGuidePut_guideKept hs h
  | guideDropKeys tag p => exact guideKept_settles (onMessage_guideKept (guideDrop_guideKept tag) _ _ _ _ hs) h
  | guideDropService tag p => exact guideKept_settles (onMessage_guideKept (guideDrop_guideKept tag) _ _ _ _ hs) h
  | eventStatus tag p => exact guideKept_settles (onMessage_guideKept (eventStatus_guideKept tag) _ _ _ _ hs) h
  | guideGetEvent tag p => exact guideKept_answers hs (onFrame_gst (fun u => guideGet_gst tag u p) _ _ _ s) h
  | guideGetSummary tag p => exact guideKept_answers hs (onFrame_gst (fun u => guideGet_gst tag u p) _ _ _ s) h
  | bookEvent tag p => exact guideKept_settledMessage (fun m u => bookEvent_gst tag u m) hs h
  | bookSeries tag p => exact guideKept_settledMessage (fun m u => bookSeries_gst tag u m) hs h
  | bookManual tag p => exact guideKept_settledMessage (fun m u => bookManual_gst tag u m) hs h
  | bookChange tag p => exact guideKept_settledMessage (fun m u => bookChange_gst tag u m) hs h
  | bookSuspend tag p => exact guideKept_settledMessage (fun m u => moveBooking_gst tag u _ _ m) hs h
  | bookResume tag p => exact guideKept_settledMessage (fun m u => moveBooking_gst tag u _ _ m) hs h
  | bookDelete tag p => exact guideKept_settledMessage (fun m u => bookDelete_gst tag u m) hs h
  | bookGet tag p => exact guideKept_message (fun m u => bookGet_gst tag u m) hs h
  | bookList tag p => exact guideKept_message (fun m u => bookList_gst tag u m) hs h
  | historyAdd tag p => exact guideKept_settledMessage (fun m u => historyAdd_gst tag u m) hs h
  | historyDropPair tag p => exact guideKept_settledMessage (fun m u => historyDrop_gst tag u m) hs h
  | historyDropSeries tag p => exact guideKept_settledMessage (fun m u => historyDrop_gst tag u m) hs h
  | historyGet tag p => exact guideKept_message (fun m u => historyGet_gst tag u m) hs h
  | instanceGet tag p => exact guideKept_message (fun m u => instanceGet_gst tag u m) hs h
  | planGet tag p => exact guideKept_message (fun m u => planGet_gst tag u m) hs h
  | outcomeTake tag p => exact guideKept_settledMessage (fun m u => outcomeTake_gst tag u m) hs h
  | clashGet tag p => exact guideKept_message (fun m u => clashGet_gst tag u m) hs h
  | install => exact execInstall_guideKept hs h
  | windowStart n => exact guideKept_due (fun u => (takeWindowStart_calm n u).guide) hs h
  | coreEnd n => exact guideKept_due (fun u => (takeCoreEnd_calm n u).guide) hs h
  | heldStartLimit n => exact guideKept_due (takeHeldLimit_gst · n) hs h
  | stopMoment n => exact guideKept_due (enterStopping_gst _ n) hs h
  | overrunCap n => exact guideKept_due (takeOverrunCap_gst · n) hs h
  | startConfirmTimeout n => exact guideKept_delay (takeStartTimeout_gst · n) hs h
  | stopConfirmTimeout n => exact guideKept_delay (takeStopTimeout_gst · n) hs h
  | recReportStarted tag p => exact guideKept_settledMessage (fun m u => recReport_gst tag u m) hs h
  | recReportStartFailed tag p => exact guideKept_settledMessage (fun m u => recReport_gst tag u m) hs h
  | recReportStopped tag p => exact guideKept_settledMessage (fun m u => recReport_gst tag u m) hs h
  | viewClaimNew tag p => exact guideKept_settledMessage (fun m u => viewClaim_gst tag u m) hs h
  | viewClaimChange tag p => exact guideKept_settledMessage (fun m u => viewClaim_gst tag u m) hs h
  | viewRelease tag p => exact guideKept_settledMessage (fun m u => viewRelease_gst tag u m) hs h
  | yieldWarning n => exact guideKept_due (fun u => (takeYieldWarning_calm n u).guide) hs h
  | lockGraceEnd u => exact guideKept_due (takeGraceEnd_gst · u) hs h
  | lockMonitorTick u locked => exact guideKept_delay (takeTick_gst · u locked) hs h
  | lockAbandon u => exact guideKept_due (takeAbandon_gst · u) hs h
  | windowClose n => exact guideKept_due (fun u => (takeWindowClose_calm n u).guide) hs h
  | keepaliveExpiry => exact guideKept_delay takeKeepalive_gst hs h
  | wakeDue => exact guideKept_due takeWakeDue_gst hs h
  | wakeTimeout => exact guideKept_delay takeWakeTimeout_gst hs h
  | resetPulseEnd => exact guideKept_delay (modWsv_gst _) hs h
  | hello tag p =>
    exact guideKept_answers hs ((settleOutputs_gst s _).trans (onMessage_gst (fun _ u => hello_gst tag u) _ _ _ _ s)) h
  | standby tag p => exact guideKept_settledMessage (fun _ u => standby_gst tag u) hs h
  | causeClear tag p => exact guideKept_message (fun _ u => causeClear_gst tag u) hs h
  | resetPart tag p => exact guideKept_message (fun m u => resetPart_gst tag u m) hs h
  | condRead tag p => exact guideKept_message (fun m u => condRead_gst tag u m) hs h
  | condClear tag p => exact guideKept_message (fun m u => condClear_gst tag u m) hs h
  | condConfig tag p => exact guideKept_message (fun m u => condConfig_gst tag u m) hs h
  | noticeFetch tag p => exact guideKept_settledMessage (fun _ u => noticeFetch_gst tag u) hs h
  | actionsGet tag p => exact guideKept_message (fun _ u => actionsGet_gst tag u) hs h
  | configSet tag p => exact guideKept_settledMessage (fun m u => configSet_gst tag u m) hs h
  | configGet tag p => exact guideKept_answers hs (onFrame_gst (fun u => configGet_gst tag u _) _ _ _ s) h
  | badCheck kind tag p check => exact guideKept_of_gst (execBadCheck_gst h) hs
  | badKind kind tag p => exact guideKept_of_gst (execBadKind_gst h) hs
  | frameDiscardedInHand kind tag p => exact guideKept_of_gst (execFrameDiscardedInHand_gst h) hs
  | lineFramingError bs => exact guideKept_of_gst (execLineFramingError_gst h) hs
  | interByteTimeout bs => exact guideKept_of_gst (execInterByteTimeout_gst h) hs
  | replySent => exact guideKept_of_gst (execReplySent_gst h) hs
  | frameLengthExceeds512 high low => exact guideKept_of_gst (execFrameLengthExceeds512_gst h) hs

/-- Settles O54: a step takes a command off the queue, which the guide does not hold, and the command keeps the guide. -/
theorem stepsKeepTheGuide : Obligations.StepsKeepTheGuide := by
  intro s t hs h
  unfold step at h
  split at h
  · cases h
    exact hs
  · rename_i c rest _
    exact exec_guideKept c (s := { s with pending := rest }) hs h

end Sys2Proof.Machine

/-! PROOFS. What each operation on the Booking Table does to its order, its ranges and the history (R35, R37, R38, R52). -/

namespace Sys2Proof.Machine

-- one theorem after another: many at a time would want a thread each
set_option Elab.async false

open Sys2Proof

/-! ## A table in order and in range -/

/-- The invariant of the Booking Table, of the table alone (R35, R37, R38, R52). -/
abbrev TableKept (t : BookingTable) : Prop :=
  t.bookings.Pairwise (fun a b => a.id < b.id) ∧ (∀ b ∈ t.bookings, BookingKept b) ∧
  t.history.Nodup ∧ t.history.length ≤ Config.histCap ∧
  1 ≤ t.defPriority ∧ t.defPriority ≤ 7 ∧ t.defPrePad ≤ 3600 ∧ t.defPostPad ≤ 7200

theorem bookingsKept_iff (s : State) : BookingsKept s ↔ TableKept s.bkt := Iff.rfl

theorem freshBookings_kept : TableKept freshBookings := by decide

/-- Bookings that leave disturb nothing (R47, R48, R57). -/
theorem TableKept.filterBookings {t : BookingTable} (h : TableKept t) (p : Booking → Bool) :
    TableKept { t with bookings := t.bookings.filter p } := by
  obtain ⟨order, ranges, rest⟩ := h
  exact ⟨order.filter p, fun b hb => ranges b (List.mem_of_mem_filter hb), rest⟩

/-- Bookings rewritten in place, each under its id and within its ranges (R43, R45, R46, R64). -/
theorem TableKept.mapBookings {t : BookingTable} (h : TableKept t) {f : Booking → Booking}
    (hf : ∀ b ∈ t.bookings, (f b).id = b.id ∧ (BookingKept b → BookingKept (f b))) :
    TableKept { t with bookings := t.bookings.map f } := by
  obtain ⟨order, ranges, rest⟩ := h
  refine ⟨List.pairwise_map.mpr (order.imp_of_mem (fun ha hb hab => ?_)), fun b hb => ?_, rest⟩
  · rw [(hf _ ha).1, (hf _ hb).1]
    exact hab
  · obtain ⟨a, ha, rfl⟩ := List.mem_map.mp hb
    exact (hf a ha).2 (ranges a ha)

/-- A new booking under an id that no booking holds (R35, R39). -/
theorem TableKept.insertBooking {t : BookingTable} (h : TableKept t) {b : Booking} (hb : BookingKept b)
    (hid : ∀ x ∈ t.bookings, x.id ≠ b.id) : TableKept { t with bookings := insertBy bookingLt b t.bookings } := by
  obtain ⟨order, ranges, rest⟩ := h
  have lt_iff (x y : Booking) : bookingLt x y = true ↔ x.id < y.id := by simp [bookingLt]
  refine ⟨?_, fun x hx => ?_, rest⟩
  · have inserted := insertBy_pairwise bookingLt b t.bookings
      (fun x y z hxy hyz => (lt_iff x z).mpr (lt_trans ((lt_iff x y).mp hxy) ((lt_iff y z).mp hyz)))
      (fun y hy => (lt_or_gt_of_ne (hid y hy).symm).imp (lt_iff b y).mpr (lt_iff y b).mpr)
      (order.imp (lt_iff _ _).mpr)
    exact inserted.imp (lt_iff _ _).mp
  · obtain rfl | hx := (mem_insertBy bookingLt b x t.bookings).mp hx
    · exact hb
    · exact ranges x hx

/-- Another history of as many distinct pairs at most (R52). -/
theorem TableKept.withHistory {t : BookingTable} (h : TableKept t) {es : List HistEntry} (hd : es.Nodup)
    (hl : es.length ≤ Config.histCap) : TableKept { t with history := es } := by
  obtain ⟨order, ranges, -, -, defaults⟩ := h
  exact ⟨order, ranges, hd, hl, defaults⟩

/-! ## The common fields (R37) -/

theorem clampTo_bounds {lo hi : Nat} (h : lo ≤ hi) (v : Nat) : lo ≤ clampTo lo hi v ∧ clampTo lo hi v ≤ hi := by
  unfold clampTo
  omega

/-- An optional field, clamped where it is named, lies between bounds that hold the clamp and the default. -/
theorem getD_clamped_bounds {lo hi d : Nat} {f : Nat → Nat} (hf : ∀ v, lo ≤ f v ∧ f v ≤ hi) (hd : lo ≤ d ∧ d ≤ hi)
    (o : Option Nat) : lo ≤ (o.map f).getD d ∧ (o.map f).getD d ≤ hi := by
  cases o with
  | none => exact hd
  | some v => exact hf v

/-- The booking an add command makes is in range where its id and the defaults are (R35, R37, R38). -/
theorem newBooking_kept {n : Nat} (hn : 1 ≤ n ∧ n ≤ Config.bookingCap) (part : BookingPart) (c : CommonMsg)
    {t : BookingTable} (h : TableKept t) : BookingKept (newBooking n part c t) := by
  obtain ⟨-, -, -, -, hp1, hp2, hpre, hpost⟩ := h
  have priority := getD_clamped_bounds (clampTo_bounds (by decide : 1 ≤ 7)) ⟨hp1, hp2⟩ c.priority
  have pre := getD_clamped_bounds (clampTo_bounds (Nat.zero_le 3600)) ⟨Nat.zero_le _, hpre⟩ c.prePad
  have post := getD_clamped_bounds (clampTo_bounds (Nat.zero_le 7200)) ⟨Nat.zero_le _, hpost⟩ c.postPad
  have fraction := getD_clamped_bounds (d := 500) (clampTo_bounds (by decide : 100 ≤ 1000)) (by decide) c.minFraction
  exact ⟨hn.1, hn.2, priority.1, priority.2, pre.2, post.2, fraction.1, fraction.2⟩

theorem onManual_kept {f : ManualPart → ManualPart} {b b' : Booking} (h : onManual f b = some b') :
    b'.id = b.id ∧ (BookingKept b → BookingKept b') := by
  unfold onManual at h
  split at h
  · cases h
    exact ⟨rfl, id⟩
  · cases h

/-- One field of a BOOK_CHANGE leaves the id and the ranges (R37, R43). -/
theorem applyField_kept {f : ChangeField} {b b' : Booking} (h : applyField f b = some b') :
    b'.id = b.id ∧ (BookingKept b → BookingKept b') := by
  cases f with
  | priority v =>
    cases h
    obtain ⟨lo, hi⟩ := clampTo_bounds (by decide : 1 ≤ 7) v
    exact ⟨rfl, fun ⟨h1, h2, _, _, rest⟩ => ⟨h1, h2, lo, hi, rest⟩⟩
  | prePad v =>
    cases h
    obtain ⟨-, hi⟩ := clampTo_bounds (Nat.zero_le 3600) v
    exact ⟨rfl, fun ⟨h1, h2, h3, h4, _, rest⟩ => ⟨h1, h2, h3, h4, hi, rest⟩⟩
  | postPad v =>
    cases h
    obtain ⟨-, hi⟩ := clampTo_bounds (Nat.zero_le 7200) v
    exact ⟨rfl, fun ⟨h1, h2, h3, h4, h5, _, rest⟩ => ⟨h1, h2, h3, h4, h5, hi, rest⟩⟩
  | minFraction v =>
    cases h
    obtain ⟨lo, hi⟩ := clampTo_bounds (by decide : 100 ≤ 1000) v
    exact ⟨rfl, fun ⟨h1, h2, h3, h4, h5, h6, _, _⟩ => ⟨h1, h2, h3, h4, h5, h6, lo, hi⟩⟩
  | follow v =>
    cases h
    exact ⟨rfl, id⟩
  | newOnly v =>
    dsimp only [applyField] at h
    split at h
    · cases h
      exact ⟨rfl, id⟩
    · cases h
  | refused => cases h
  | service v => exact onManual_kept h
  | mux v => exact onManual_kept h
  | t0 v => exact onManual_kept h
  | dur v => exact onManual_kept h
  | mask v => exact onManual_kept h
  | firstDay v => exact onManual_kept h
  | lastDay v => exact onManual_kept h

theorem applyFields_kept {fs : List ChangeField} {b b' : Booking} (h : applyFields fs b = some b') :
    b'.id = b.id ∧ (BookingKept b → BookingKept b') := by
  induction fs generalizing b with
  | nil =>
    cases h
    exact ⟨rfl, id⟩
  | cons f fs ih =>
    obtain ⟨mid, hm, hr⟩ := Option.bind_eq_some_iff.mp h
    obtain ⟨id1, kept1⟩ := applyField_kept hm
    obtain ⟨id2, kept2⟩ := ih hr
    exact ⟨id2.trans id1, kept2 ∘ kept1⟩

/-! ## The lowest free id (R35) -/

theorem findBooking_some {n : Nat} {s : State} {b : Booking} (h : findBooking n s = some b) :
    b ∈ s.bkt.bookings ∧ b.id = n :=
  ⟨List.mem_of_find?_eq_some h, by simpa using List.find?_some h⟩

/-- The id an add command takes is one of the 128, and no booking holds it. -/
theorem lowestFree_some {s : State} {n : Nat} (h : lowestFree s = some n) :
    (1 ≤ n ∧ n ≤ Config.bookingCap) ∧ ∀ b ∈ s.bkt.bookings, b.id ≠ n := by
  have hm : n ∈ bookingIds := List.mem_of_find?_eq_some h
  have hf : idFree n s = true := List.find?_some (p := fun n => idFree n s) h
  simp only [bookingIds, List.mem_map, List.mem_range] at hm
  obtain ⟨k, hk, rfl⟩ := hm
  refine ⟨by omega, fun b hb he => ?_⟩
  have held : bookingHeld (k + 1) s = true := List.any_eq_true.mpr ⟨b, hb, by simpa using he⟩
  simp [idFree, held] at hf

/-! ## The history (R52, R53) -/

/-- The history after a pair is inserted (R53). -/
def insertedHistory (e : HistEntry) (h : List HistEntry) : List HistEntry :=
  if e ∈ h then h else (if h.length < Config.histCap then h else h.drop 1) ++ [e]

theorem insertHistory_bkt (e : HistEntry) (s : State) :
    (insertHistory e s).1.bkt = { s.bkt with history := insertedHistory e s.bkt.history } := by
  unfold insertHistory insertedHistory
  by_cases he : e ∈ s.bkt.history
  · simp [he]
  · by_cases hl : s.bkt.history.length < Config.histCap <;> simp [he, hl]

theorem insertedHistory_kept (e : HistEntry) {h : List HistEntry} (hd : h.Nodup) (hl : h.length ≤ Config.histCap) :
    (insertedHistory e h).Nodup ∧ (insertedHistory e h).length ≤ Config.histCap := by
  unfold insertedHistory
  split
  · exact ⟨hd, hl⟩
  · rename_i hn
    split
    · rename_i room
      refine ⟨List.concat_eq_append ▸ List.Nodup.concat hn hd, ?_⟩
      rw [List.length_append, List.length_singleton]
      omega
    · have drop_sub : (h.drop 1).Sublist h := List.drop_sublist 1 h
      refine ⟨List.concat_eq_append ▸ List.Nodup.concat (fun hm => hn (drop_sub.mem hm)) (hd.sublist drop_sub), ?_⟩
      rw [List.length_append, List.length_drop, List.length_singleton]
      have : 1 ≤ Config.histCap := by decide
      omega

end Sys2Proof.Machine

/-! PROOFS. The operations the commands share keep the Booking Table in order and in range: those that write it by the
rules of the table, all others because they leave it alone. -/

namespace Sys2Proof.Machine

-- one theorem after another: many at a time would want a thread each
set_option Elab.async false

open Sys2Proof

/-! ## From one state to another -/

/-- From `s` to `t` the Booking Table stays in order and in range. -/
def KeepsTable (s t : State) : Prop := TableKept s.bkt → TableKept t.bkt

/-- An operation that leaves the table alone. -/
theorem KeepsTable.same {s t : State} (e : t.bkt = s.bkt := by simp) : KeepsTable s t := fun h => e ▸ h

theorem KeepsTable.refl (s : State) : KeepsTable s s := id

theorem KeepsTable.trans {s t u : State} (h : KeepsTable s t) (k : KeepsTable t u) : KeepsTable s u := k ∘ h

theorem KeepsTable.ite {p : Prop} [Decidable p] {s t u : State} (ht : KeepsTable s t) (hu : KeepsTable s u) :
    KeepsTable s (if p then t else u) := by
  split
  · exact ht
  · exact hu

/-- A fold over anything that carries a state keeps the table where each of its steps does. -/
theorem KeepsTable.foldl_of {α β : Type} (p : β → State) {f : β → α → β} (h : ∀ b x, KeepsTable (p b) (p (f b x)))
    (xs : List α) (b : β) : KeepsTable (p b) (p (xs.foldl f b)) := by
  induction xs generalizing b with
  | nil => exact .refl (p b)
  | cons x xs ih => exact (h b x).trans (ih (f b x))

theorem KeepsTable.foldl {α : Type} {f : State → α → State} (h : ∀ u x, KeepsTable u (f u x)) (xs : List α)
    (s : State) : KeepsTable s (xs.foldl f s) := .foldl_of id h xs s

/-! ## The history and the spent bookings (R46, R47, R53, R54) -/

theorem insertHistory_table (e : HistEntry) (s : State) : KeepsTable s (insertHistory e s).1 := by
  intro h
  obtain ⟨-, -, hd, hl, -⟩ := id h
  obtain ⟨hd', hl'⟩ := insertedHistory_kept e hd hl
  rw [insertHistory_bkt]
  exact h.withHistory hd' hl'

theorem makeSpent_table (bid : Nat) (s : State) : KeepsTable s (makeSpent bid s) := by
  intro h
  refine h.mapBookings (fun b _ => ?_)
  split
  · exact ⟨rfl, id⟩
  · exact ⟨rfl, id⟩

theorem removeSpent_table (bid : Nat) (s : State) : KeepsTable s (removeSpent bid s) :=
  .ite (.refl s) (fun h => h.filterBookings _)

theorem handDone_table (i : Inst) (n : Nat) (s : State) : KeepsTable s (handDone i n s) := by
  unfold handDone
  split
  · exact .refl s
  · rename_i b _
    have stores (e : HistEntry) : KeepsTable s (if Config.historyFraction ≤ n then (insertHistory e s).1 else s) :=
      .ite (insertHistory_table e s) (.refl s)
    have spends (u : State) : KeepsTable u (removeSpent b.id (makeSpent b.id u)) :=
      (makeSpent_table b.id u).trans (removeSpent_table b.id _)
    have stored : KeepsTable s (match i.episode with
        | some ep => if Config.historyFraction ≤ n then
            (insertHistory { series := historySeries b.part, episode := ep } s).1 else s
        | none => s) := by
      split
      · exact stores _
      · exact .refl s
    dsimp only
    split
    · exact stored.trans (spends _)
    · exact stored

/-! ## The ends of a recording (R83, R141, R149) -/

theorem terminate_table (iid : Nat) (fin : InstState) (c : Cause) (r : Option Nat) (s : State) :
    KeepsTable s (terminate iid fin c r s) := by
  unfold terminate
  split
  · exact .refl s
  · rename_i i _
    have posted : KeepsTable s (if fin = .cancelled
        then monitorCheckOf i (leaveActive iid (modInst iid (finished fin c r (now s)) (withdrawInst iid (chargeLeaving iid s))))
        else postNotice (.outcomeReady fin iid i.booking) (monitorCheckOf i (leaveActive iid
          (modInst iid (finished fin c r (now s)) (withdrawInst iid (chargeLeaving iid s)))))) := .ite .same .same
    refine KeepsTable.trans ?_ (.same (setDirtyIf_bkt _ _))
    split
    · exact posted.trans (handDone_table _ _ _)
    · exact posted

theorem missInst_table (c : Cause) (iid : Nat) (s : State) : KeepsTable s (missInst c iid s) := by
  unfold missInst
  split
  · exact .refl s
  · exact (terminate_table _ _ _ _ s).trans (.same (submit_bkt _ _))

theorem endStopping_table (c : Cause) (i : Inst) (s : State) : KeepsTable s (endStopping c i s) :=
  .ite (terminate_table _ _ _ _ s) (terminate_table _ _ _ _ s)

/-! ## Interruption, resume and the waiting starts (R144, R162, R163) -/

theorem interruptInst_table (iid : Nat) (s : State) : KeepsTable s (interruptInst iid s) := by
  unfold interruptInst
  split
  · exact .refl s
  · split
    · exact .same
    · exact .same
    · exact endStopping_table _ _ s
    · exact .refl s

theorem interruptHost_table (s : State) : KeepsTable s (interruptHost s) :=
  (KeepsTable.trans (t := dropClaims s) .same (.foldl (fun u iid => interruptInst_table iid u) _ _)).trans
    (.same ((monitorOff_bkt .b _).trans (monitorOff_bkt .a _)))

theorem judgeResume_table (iid : Nat) (s : State) : KeepsTable s (judgeResume iid s) := by
  unfold judgeResume
  split
  · exact .refl s
  · exact .ite (.ite (terminate_table _ _ _ _ s) (.ite ((terminate_table _ _ _ _ s).trans (.same (submit_bkt _ _))) .same)) (.refl s)

theorem retryHeld_table (iid : Nat) (s : State) : KeepsTable s (retryHeld iid s) := .same

theorem takeHeld_table (iid : Nat) (s : State) : KeepsTable s (takeHeld iid s) := by
  unfold takeHeld
  split
  · exact .refl s
  · exact .ite (.ite .same (missInst_table _ _ s)) (.refl s)

theorem takeUpWork_table (s : State) : KeepsTable s (takeUpWork s) :=
  (KeepsTable.foldl (fun u iid => judgeResume_table iid u) _ s).trans (.foldl (fun u iid => takeHeld_table iid u) _ _)

theorem retryWaiting_table (s : State) : KeepsTable s (retryWaiting s) :=
  (KeepsTable.foldl (fun u iid => judgeResume_table iid u) _ s).trans (.foldl (fun u iid => retryHeld_table iid u) _ _)

theorem retryRounds_table (fuel : Nat) (before s : State) : KeepsTable s (retryRounds fuel before s) := by
  induction fuel generalizing before s with
  | zero => exact .refl s
  | succ fuel ih => exact .ite ((retryWaiting_table s).trans (ih s _)) (.refl s)

theorem retryStarts_table (before s : State) : KeepsTable s (retryStarts before s) := retryRounds_table _ before s

theorem settle_table (before s : State) : KeepsTable s (settle before s) :=
  (retryStarts_table before s).trans (.same (settleOutputs_bkt before _))

/-! ## Frames and events -/

theorem onFrame_table {act : State → State} (h : ∀ u, KeepsTable u (act u)) (kind tag : Byte) (p : List Byte)
    (s : State) : KeepsTable s (onFrame kind tag p act s) :=
  .ite (.refl s) (.ite .same (.trans .same (h _)))

theorem onMessage_table {α : Type} {act : α → State → State} (h : ∀ m u, KeepsTable u (act m u)) (pr : Parser α)
    (kind tag : Byte) (p : List Byte) (s : State) : KeepsTable s (onMessage kind tag pr p act s) := by
  refine onFrame_table (fun u => ?_) kind tag p s
  split
  · exact h _ u
  · exact .same

theorem onDue_table {act : State → State} (h : ∀ u, KeepsTable u (act u)) (k : DueKind) (s : State) :
    KeepsTable s (onDue k act s) := by
  unfold onDue
  obtain ⟨-, e⟩ | ⟨-, e⟩ := takeDue_cases k s
  · rw [e]
    exact .trans .same ((h _).trans (settle_table s _))
  · rw [e]
    exact .refl s

theorem takeDelay_bkt {k : DelayKind} {s t : State} (h : takeDelay k s = some t) : t.bkt = s.bkt := by
  rw [(takeDelay_keeps h).1]

theorem onDelay_table {act : State → State} (h : ∀ u, KeepsTable u (act u)) (k : DelayKind) (s : State) :
    KeepsTable s (onDelay k act s) := by
  unfold onDelay
  split
  · exact .refl s
  · exact .trans (.same (takeDelay_bkt ‹_›)) ((h _).trans (settle_table s _))

end Sys2Proof.Machine

/-! PROOFS. Every step keeps the Booking Table in ascending id, each field in range, and the history of 512 distinct pairs
at most (R35, R37, R38, R52). -/

namespace Sys2Proof.Machine

-- one theorem after another: many at a time would want a thread each
set_option Elab.async false

open Sys2Proof

/-! ## The messages of the Booking Table (chapter 3) -/

theorem addBooking_table (kind tag : Byte) (dup : Option Booking) (part : BookingPart) (c : CommonMsg) (s : State) :
    KeepsTable s (addBooking kind tag dup part c s) := by
  unfold addBooking
  split
  · exact .same
  · split
    · exact .same
    · rename_i n hn
      intro h
      obtain ⟨range, unused⟩ := lowestFree_some hn
      simpa using h.insertBooking (newBooking_kept range part c h) unused

theorem bookEvent_table (tag : Byte) (m : EventKey × CommonMsg) (s : State) : KeepsTable s (bookEvent tag m s) := by
  unfold bookEvent
  refine .ite .same ?_
  split
  · exact .same
  · exact addBooking_table _ _ _ _ _ s

theorem bookSeries_table (tag : Byte) (m : BookSeriesMsg) (s : State) : KeepsTable s (bookSeries tag m s) :=
  .ite .same (addBooking_table _ _ _ _ _ s)

theorem bookManual_table (tag : Byte) (m : ManualPart × CommonMsg) (s : State) : KeepsTable s (bookManual tag m s) :=
  .ite .same (addBooking_table _ _ _ _ _ s)

theorem bookChange_table (tag : Byte) (m : Nat × List ChangeField) (s : State) : KeepsTable s (bookChange tag m s) := by
  unfold bookChange
  split
  · exact .same
  · rename_i b hb
    refine .ite .same ?_
    split
    · exact .same
    · rename_i b' hf
      refine .ite .same (fun h => ?_)
      obtain ⟨held, -⟩ := findBooking_some hb
      obtain ⟨same_id, kept⟩ := applyFields_kept hf
      obtain ⟨-, ranges, -⟩ := id h
      simp only [answer_bkt, setDirtyIf_bkt, modBkt_bkt]
      refine h.mapBookings (fun x _ => ?_)
      split
      · rename_i hx
        exact ⟨same_id.trans (by simpa using hx : x.id = b.id).symm, fun _ => kept (ranges b held)⟩
      · exact ⟨rfl, id⟩

theorem setBookingState_table (bid : Nat) (st : BookingState) (s : State) :
    KeepsTable s (setBookingState bid st s) := by
  intro h
  refine h.mapBookings (fun b _ => ?_)
  split
  · exact ⟨rfl, id⟩
  · exact ⟨rfl, id⟩

theorem moveBooking_table (kind tag : Byte) (st : BookingState) (bid : Nat) (s : State) :
    KeepsTable s (moveBooking kind tag st bid s) := by
  unfold moveBooking
  split
  · exact .same
  · exact .ite .same (.ite .same ((setBookingState_table _ _ s).trans
    (.same ((answerOk_bkt _ _ _ _).trans (setDirty_bkt _)))))

theorem deleteInst_table (iid : Nat) (s : State) : KeepsTable s (deleteInst iid s) := by
  unfold deleteInst
  split
  · exact .refl s
  · split
    case h_5 => exact .same
    case h_6 => exact terminate_table _ _ _ _ s
    case h_1 | h_2 | h_3 | h_4 => exact terminate_table _ _ _ _ s
    all_goals exact .refl s

theorem bookDelete_table (tag : Byte) (bid : Nat) (s : State) : KeepsTable s (bookDelete tag bid s) := by
  have dropped : KeepsTable s (setDirty (dropBooking bid s)) := fun h => by
    simpa [dropBooking] using h.filterBookings _
  have deleted := dropped.trans (.foldl (fun u iid => deleteInst_table iid u) (idsOfBooking bid (fun _ => true) s) _)
  exact .ite (deleted.trans (.same (answerOk_bkt _ _ _ _))) .same

theorem bookGet_table (tag : Byte) (bid : Nat) (s : State) : KeepsTable s (bookGet tag bid s) := by
  unfold bookGet
  split
  · exact .same
  · exact .same

theorem bookList_table (tag : Byte) (n : Nat) (s : State) : KeepsTable s (bookList tag n s) := .ite .same .same

theorem historyAdd_table (tag : Byte) (e : HistEntry) (s : State) : KeepsTable s (historyAdd tag e s) :=
  .ite .same ((insertHistory_table e s).trans (.same (answerOk_bkt _ _ _ _)))

theorem dropEntries_table (tag : Byte) (p : HistEntry → Bool) (s : State) : KeepsTable s (dropEntries tag p s) := by
  intro h
  obtain ⟨-, -, hd, hl, -⟩ := id h
  have kept := h.withHistory (hd.filter (fun e => !p e)) ((List.length_filter_le _ _).trans hl)
  simpa [dropEntries] using kept

theorem historyDrop_table (tag : Byte) (m : HistDropMsg) (s : State) : KeepsTable s (historyDrop tag m s) := by
  cases m with
  | pair e => exact .ite .same (dropEntries_table _ _ s)
  | series r => exact .ite .same (dropEntries_table _ _ s)

theorem historyGet_table (tag : Byte) (m : Nat × Option Ref) (s : State) : KeepsTable s (historyGet tag m s) :=
  .ite .same .same

/-! ## The Clock Unit and the Guide Store (chapters 1 and 2) -/

theorem timeGet_table (tag : Byte) (s : State) : KeepsTable s (timeGet tag s) := .same rfl

theorem timeSet_table (tag : Byte) (m : TimeSetMsg) (s : State) : KeepsTable s (timeSet tag m s) := by
  have taken : KeepsTable s (takeTimeSet tag m s) := .same (timeSetWork_bkt m s)
  unfold timeSet
  repeat' split
  · exact .same
  · exact taken
  · exact taken

theorem removeRec_table (r : GuideRec) (s : State) : KeepsTable s (removeRec r s) :=
  .same (by simp [removeRec, takeRec])

theorem replaceEntry_table (e : GuideEntry) (old : GuideRec) (s : State) : KeepsTable s (replaceEntry e old s) :=
  .ite (.same (by simp [placeRec, takeRec])) (.same (by simp [placeRec, takeRec]))

theorem insertEntry_table (e : GuideEntry) (s : State) : KeepsTable s (insertEntry e s) :=
  .same (by simp [insertEntry, placeRec])

theorem putEntry_table (t : Nat) (sc : State × PutCounts) (e : GuideEntry) : KeepsTable sc.1 (putEntry t sc e).1 := by
  unfold putEntry
  dsimp only
  repeat' split
  · exact .refl _
  · exact replaceEntry_table _ _ _
  · exact insertEntry_table _ _
  · exact .refl _
  · exact .trans (.same (by simp [takeRec])) (insertEntry_table _ _)
  · exact .refl _

theorem guidePut_table (tag : Byte) (es : List GuideEntry) (s : State) : KeepsTable s (guidePut tag es s) :=
  (KeepsTable.foldl_of Prod.fst (putEntry_table (now s)) es (s, ⟨0, 0, 0, 0⟩)).trans (.same (answerOk_bkt _ _ _ _))

theorem dropKey_table (sc : State × Nat × Nat) (k : EventKey) : KeepsTable sc.1 (dropKey sc k).1 := by
  unfold dropKey
  split
  · exact removeRec_table _ _
  · exact .refl _

theorem removeRecs_table (xs : List GuideRec) (s : State) : KeepsTable s (xs.foldl (fun u r => removeRec r u) s) :=
  .foldl (fun u r => removeRec_table r u) xs s

theorem guideDrop_table (tag : Byte) (m : GuideDropMsg) (s : State) : KeepsTable s (guideDrop tag m s) := by
  cases m with
  | keys ks => exact (KeepsTable.foldl_of Prod.fst dropKey_table ks (s, 0, 0)).trans (.same (answerOk_bkt _ _ _ _))
  | service n => exact .ite .same ((removeRecs_table _ s).trans (.same (answerOk_bkt _ _ _ _)))

theorem eventStatus_table (tag : Byte) (m : EventKey × Nat) (s : State) : KeepsTable s (eventStatus tag m s) := by
  unfold eventStatus
  dsimp only
  repeat' split
  all_goals exact .same

theorem guideGet_table (tag : Byte) (p : List Byte) (s : State) : KeepsTable s (guideGet tag p s) := by
  unfold guideGet guideSummary guideGetKey
  repeat' split
  all_goals exact .same

theorem handRollover_table (s : State) : KeepsTable s (handRollover s) :=
  .ite .same (.ite (.trans (t := purgeGuide (bumpFree s)) (removeRecs_table _ (bumpFree s)) .same)
    (.trans (t := beginPass (setDirty (bumpFree s))) .same (removeRecs_table _ _)))

/-! ## Reading and taking (chapters 5 to 7) -/

theorem instanceGet_table (tag : Byte) (iid : Nat) (s : State) : KeepsTable s (instanceGet tag iid s) := by
  unfold instanceGet
  split
  all_goals exact .same

theorem answerPlanGet_table (tag : Byte) (a b k : Nat) (s : State) : KeepsTable s (answerPlanGet tag a b k s) :=
  .ite .same .same

theorem answerClashGet_table (tag : Byte) (k : Nat) (s : State) : KeepsTable s (answerClashGet tag k s) :=
  .ite .same .same

theorem holdOr_table {ans : State → State} (h : ∀ u, KeepsTable u (ans u)) (kind tag : Byte) (q : Query) (s : State) :
    KeepsTable s (holdOr kind tag q ans s) := by
  unfold holdOr
  split
  · exact h s
  · exact .ite .same .same

theorem planGet_table (tag : Byte) (m : Nat × Nat × Nat) (s : State) : KeepsTable s (planGet tag m s) :=
  .ite .same (.ite .same (holdOr_table (answerPlanGet_table tag _ _ _) _ _ _ s))

theorem clashGet_table (tag : Byte) (k : Nat) (s : State) : KeepsTable s (clashGet tag k s) :=
  .ite .same (.ite .same (holdOr_table (answerClashGet_table tag _) _ _ _ s))

theorem leaveList_table (i : Inst) (s : State) : KeepsTable s (leaveList i s) :=
  .trans (t := modLst _ s) .same (removeSpent_table _ _)

theorem outcomeTake_table (tag : Byte) (iid : Nat) (s : State) : KeepsTable s (outcomeTake tag iid s) := by
  unfold outcomeTake
  split
  · exact .same
  · exact .ite ((leaveList_table _ s).trans (.same (answerOk_bkt _ _ _ _))) .same

/-! ## Run Control (chapter 8) -/

theorem takeWindowStart_table (iid : Nat) (s : State) : KeepsTable s (takeWindowStart iid s) := by
  unfold takeWindowStart
  split
  · exact .refl s
  · exact .ite (.ite (missInst_table _ _ s) (.ite .same .same)) (.refl s)

theorem takeCoreEnd_table (iid : Nat) (s : State) : KeepsTable s (takeCoreEnd iid s) := by
  unfold takeCoreEnd
  split
  · exact .refl s
  · have overruns (i : Inst) : KeepsTable s (enterOverrun i s) := .same (by simp [enterOverrun])
    split
    · exact missInst_table _ _ s
    · exact missInst_table _ _ s
    · exact .ite (.refl s) (missInst_table _ _ s)
    · exact .ite (overruns _) (.refl s)
    · exact .ite (overruns _) (.refl s)
    all_goals exact .refl s

theorem takeHeldLimit_table (iid : Nat) (s : State) : KeepsTable s (takeHeldLimit iid s) := by
  unfold takeHeldLimit
  split
  · exact .refl s
  · exact .ite (missInst_table _ _ s) (.refl s)

theorem takeOverrunCap_table (iid : Nat) (s : State) : KeepsTable s (takeOverrunCap iid s) := by
  unfold takeOverrunCap
  split
  · exact .refl s
  · split
    · exact .same
    · exact .same

theorem failStart_table (c : Cause) (r : Option Nat) (i : Inst) (s : State) : KeepsTable s (failStart c r i s) :=
  (terminate_table _ _ _ _ s).trans (.same (submit_bkt _ _))

theorem takeStartTimeout_table (iid : Nat) (s : State) : KeepsTable s (takeStartTimeout iid s) := by
  unfold takeStartTimeout
  split
  · exact .refl s
  · exact .ite (failStart_table _ _ _ s) (.refl s)

theorem takeStopTimeout_table (iid : Nat) (s : State) : KeepsTable s (takeStopTimeout iid s) := by
  unfold takeStopTimeout
  split
  · exact .refl s
  · exact .ite ((endStopping_table _ _ s).trans (.same (submit_bkt _ _))) (.refl s)

theorem armMonitor_table (t : Tuner) (s : State) : KeepsTable s (armMonitor t s) := .ite .same (.refl s)

theorem takeStarted_table (i : Inst) (s : State) : KeepsTable s (takeStarted i s) := by
  have armed (u : State) : KeepsTable u (match i.tuner with | some t => armMonitor t u | none => u) := by
    split
    · exact armMonitor_table _ u
    · exact .refl u
  exact .ite (.trans (.trans .same (armed _)) (.same (enterStopping_bkt _ _ _))) (.trans .same (armed _))

theorem takeHostStop_table (i : Inst) (s : State) : KeepsTable s (takeHostStop i s) :=
  .ite ((terminate_table _ _ _ _ s).trans (.same (submit_bkt _ _))) (terminate_table _ _ _ _ s)

theorem recReport_table (tag : Byte) (m : Nat × Report) (s : State) : KeepsTable s (recReport tag m s) := by
  have answered (u : State) : KeepsTable u (answerReport tag m.1 u) := .same (answerOk_bkt _ _ _ u)
  unfold recReport
  refine .ite .same ?_
  split
  · exact .same
  · refine .ite .same ?_
    split
    · exact (takeStarted_table _ s).trans (answered _)
    · exact (failStart_table _ _ _ s).trans (answered _)
    · exact (endStopping_table _ _ s).trans (answered _)
    · exact (takeHostStop_table _ s).trans (answered _)
    · exact .same

theorem viewClaim_table (tag : Byte) (m : ClaimMsg) (s : State) : KeepsTable s (viewClaim tag m s) := by
  unfold viewClaim newClaim changeClaim
  dsimp only
  repeat' split
  all_goals exact .same

theorem viewRelease_table (tag : Byte) (n : Nat) (s : State) : KeepsTable s (viewRelease tag n s) := .ite .same .same

theorem takeYieldWarning_table (n : Nat) (s : State) : KeepsTable s (takeYieldWarning n s) := by
  unfold takeYieldWarning
  repeat' split
  all_goals exact .same

theorem takeGraceEnd_table (t : Tuner) (s : State) : KeepsTable s (takeGraceEnd t s) := .ite .same .same

theorem monitorTick_table (t : Tuner) (locked : Bool) (s : State) : KeepsTable s (monitorTick t locked s) := by
  unfold monitorTick declareGap
  split
  case h_5 => exact .ite .same .same
  all_goals exact .same

theorem takeTick_table (t : Tuner) (locked : Bool) (s : State) : KeepsTable s (takeTick t locked s) :=
  .trans (.trans .same (monitorTick_table t locked _)) (.ite (.refl _) .same)

theorem takeAbandon_table (t : Tuner) (s : State) : KeepsTable s (takeAbandon t s) := by
  have stops (xs : List Inst) (u : State) : KeepsTable u (xs.foldl (fun v i => enterStopping .abandoned i.id v) u) :=
    .foldl (fun v (i : Inst) => .same (enterStopping_bkt _ i.id v)) xs u
  have ended (u : State) : KeepsTable u (setDirty (monitorOff t u)) := .same
  exact .ite (KeepsTable.trans (.same (by simp)) ((stops _ _).trans (ended _))) (.refl s)

theorem takeWindowClose_table (iid : Nat) (s : State) : KeepsTable s (takeWindowClose iid s) := by
  unfold takeWindowClose
  split
  · exact .refl s
  · exact .ite (terminate_table _ _ _ _ s) (.refl s)

/-! ## The Wake Supervisor (chapter 10) -/

theorem takeKeepalive_table (s : State) : KeepsTable s (takeKeepalive s) :=
  have woken (c : Condition) (f : WakeSup → WakeSup) :
      KeepsTable s (modWsv f (startWakeTimeout (beginPulse (submit c s)))) := .same (submit_bkt c s)
  .ite ((woken _ _).trans (interruptHost_table _)) (.refl s)

theorem takeWakeDue_table (s : State) : KeepsTable s (takeWakeDue s) := by
  unfold takeWakeDue
  split
  all_goals exact .same rfl

theorem takeWakeTimeout_table (s : State) : KeepsTable s (takeWakeTimeout s) :=
  .ite (.ite (.same rfl) .same) (.refl s)

theorem helloAwake_table (s : State) : KeepsTable s (helloAwake s) := .same (startKeepalive_bkt _)

theorem helloWork_table (previous : HostState) (n : Nat) (s : State) : KeepsTable s (helloWork previous n s) := by
  unfold helloWork
  split
  · exact (KeepsTable.trans .same (interruptHost_table _)).trans (takeUpWork_table _)
  all_goals exact .trans .same (takeUpWork_table _)

theorem hello_table (tag : Byte) (s : State) : KeepsTable s (hello tag s) := by
  have worked : KeepsTable s (retryStarts s (helloWork s.wsv.host (runningCount s) (helloAwake s))) :=
    (helloAwake_table s).trans ((helloWork_table _ _ _).trans (retryStarts_table s _))
  unfold hello helloDone
  exact worked.trans .same

theorem standby_table (tag : Byte) (s : State) : KeepsTable s (standby tag s) := by
  unfold standby acceptStandby
  repeat' split
  all_goals exact .same

theorem causeClear_table (tag : Byte) (s : State) : KeepsTable s (causeClear tag s) := .same rfl

theorem resetPart_table (tag : Byte) (n : Nat) (s : State) : KeepsTable s (resetPart tag n s) := by
  unfold resetPart
  split
  all_goals exact .same

/-! ## The Condition Log and the Link Port (chapters 9 and 11) -/

theorem condRead_table (tag : Byte) (n : Nat) (s : State) : KeepsTable s (condRead tag n s) := by
  unfold condRead
  split
  all_goals exact .same

theorem condClear_table (tag : Byte) (m : Nat × Bool) (s : State) : KeepsTable s (condClear tag m s) := by
  unfold condClear
  repeat' split
  all_goals exact .same

theorem condConfig_table (tag : Byte) (m : CondConfigMsg) (s : State) : KeepsTable s (condConfig tag m s) := by
  unfold condConfig
  repeat' split
  all_goals exact .same

theorem noticeFetch_table (tag : Byte) (s : State) : KeepsTable s (noticeFetch tag s) := .same rfl

theorem actionsGet_table (tag : Byte) (s : State) : KeepsTable s (actionsGet tag s) := .same rfl

theorem retimeAbandon_table (t : Tuner) (s : State) : KeepsTable s (retimeAbandon t s) := by
  unfold retimeAbandon
  refine .ite ?_ (.refl s)
  split
  · exact .refl s
  · rename_i d _
    dsimp only
    obtain ⟨-, e⟩ | ⟨-, e⟩ := takeDue_cases (.abandon t) (requestDue (.abandon t) (d / 10 + s.run.abandonLimit) s)
    · rw [e]
      exact .trans .same (takeAbandon_table t _)
    · rw [e]
      exact .same

/-- The three defaults are in range as CONFIG_SET clamps them; the other items are not of the table (R38, R206). -/
theorem writeSetting_table (n v : Nat) (s : State) : KeepsTable s (writeSetting n (settingClamp n v) s) := by
  unfold writeSetting writeWakeLead writeKeepCode
  split
  case h_1 =>
    rintro ⟨order, ranges, hd, hl, -, -, pads⟩
    exact ⟨order, ranges, hd, hl, by simp [settingClamp], by simp [settingClamp], pads⟩
  case h_2 =>
    rintro ⟨order, ranges, hd, hl, p1, p7, -, post⟩
    exact ⟨order, ranges, hd, hl, p1, p7, by simp [settingClamp], post⟩
  case h_3 =>
    rintro ⟨order, ranges, hd, hl, p1, p7, pre, -⟩
    exact ⟨order, ranges, hd, hl, p1, p7, pre, by simp [settingClamp]⟩
  case h_7 => exact .trans .same ((retimeAbandon_table .a _).trans (retimeAbandon_table .b _))
  all_goals exact .same

theorem configSet_table (tag : Byte) (items : List (Nat × Nat)) (s : State) : KeepsTable s (configSet tag items s) := by
  have written : KeepsTable s (items.foldl (fun u x => writeSetting x.1 (settingClamp x.1 x.2) u) s) :=
    .foldl (fun u (x : Nat × Nat) => writeSetting_table x.1 x.2 u) items s
  exact .ite .same (.ite .same (written.trans (.same (answer_bkt _ _ _ _ _ _))))

theorem configGet_table (tag : Byte) (ns : List Nat) (s : State) : KeepsTable s (configGet tag ns s) :=
  .ite .same (.ite .same .same)

end Sys2Proof.Machine

/-! PROOFS. An install, the resets and the events of the line keep the Booking Table; with them every step does. -/

namespace Sys2Proof.Machine

-- one theorem after another: many at a time would want a thread each
set_option Elab.async false

open Sys2Proof

/-! ## What an install writes (R64, R75 to R77, R107 to R114) -/

theorem removeInst_table (iid : Nat) (s : State) : KeepsTable s (removeInst iid s) := by
  unfold removeInst
  split
  · exact .refl s
  · exact .ite (.trans .same (leaveList_table _ _)) (.refl s)

theorem makeRoom_table (a : InstallAcc) : KeepsTable a.s (makeRoom a).s := by
  unfold makeRoom
  repeat' split
  · exact .refl _
  · exact .refl _
  · exact leaveList_table _ _

theorem createOne_table (cands : List Cand) (a : InstallAcc) (kc : Nat × Creation) :
    KeepsTable a.s (createOne cands a kc).s := by
  unfold createOne
  dsimp only
  repeat' split
  · exact .refl _
  · exact (makeRoom_table a).trans .same
  · exact makeRoom_table a
  · exact .refl _

theorem refreshOne_table (s : State) (c : Cand) : KeepsTable s (refreshOne s c) := by
  unfold refreshOne rewriteInst
  repeat' split
  all_goals exact .same

theorem refreshRunning_table (s : State) (r : Refresh) : KeepsTable s (refreshRunning s r) := by
  unfold refreshRunning
  repeat' split
  all_goals exact .same

theorem applyExpansion_table (r : PassResult) (cands : List Cand) (s : State) :
    KeepsTable s (applyExpansion r cands s).s :=
  (KeepsTable.foldl (fun u iid => removeInst_table iid u) _ s).trans
    ((KeepsTable.foldl refreshOne_table _ _).trans ((KeepsTable.foldl refreshRunning_table _ _).trans
      (KeepsTable.foldl_of InstallAcc.s (createOne_table cands) _ ⟨_, [], []⟩)))

theorem writeRunning_table (p : Snapshot) (w : Work) (s : State) (iid : Nat) : KeepsTable s (writeRunning p w s iid) := by
  unfold writeRunning
  repeat' split
  all_goals exact .same

theorem writePlaced_table (since : List Occ) (m : Merge) (x : Placed) : KeepsTable m.a.s (writePlaced since m x).a.s := by
  unfold writePlaced
  repeat' split
  all_goals exact .same

theorem writeLost_table (a : InstallAcc) (x : LostCand) : KeepsTable a.s (writeLost a x).s := by
  unfold writeLost
  repeat' split
  all_goals exact .same

theorem writeShort_table (ids : List (Nat × Nat)) (s : State) (c : Cand) : KeepsTable s (writeShort ids s c) := by
  unfold writeShort
  repeat' split
  all_goals exact .same

theorem applyPlan_table (p : Snapshot) (r : PassResult) (a : InstallAcc) : KeepsTable a.s (applyPlan p r a).s :=
  (KeepsTable.foldl (writeRunning_table p r.work) _ a.s).trans
    ((KeepsTable.foldl_of (fun m : Merge => m.a.s) (writePlaced_table _) _ ⟨{ a with s := _ }, _⟩).trans
      ((KeepsTable.foldl_of InstallAcc.s writeLost_table _ _).trans (.foldl (writeShort_table _) _ _)))

theorem writeUpdate_table (bid : Nat) (u : Option LastKnown) (s : State) : KeepsTable s (writeUpdate bid u s) := by
  intro h
  refine h.mapBookings (fun b _ => ?_)
  repeat' split
  all_goals exact ⟨rfl, id⟩

theorem applyUpdate_table (a : InstallAcc) (r : BookingResult) : KeepsTable a.s (applyUpdate a r).s := by
  unfold applyUpdate
  split
  · exact writeUpdate_table _ _ a.s
  · exact .refl _

theorem applySpent_table (s : State) (r : BookingResult) : KeepsTable s (applySpent s r) := by
  unfold applySpent
  split
  · exact .ite ((makeSpent_table _ s).trans (removeSpent_table _ _)) (.refl s)
  · exact .refl s

theorem applyBookings_table (r : PassResult) (a : InstallAcc) : KeepsTable a.s (applyBookings r a).s :=
  (KeepsTable.foldl_of InstallAcc.s applyUpdate_table _ a).trans (.foldl applySpent_table _ _)

theorem applyMarks_table (p : Snapshot) (r : PassResult) (a : InstallAcc) : KeepsTable a.s (applyMarks p r a).s :=
  .same rfl

theorem postPlanChanged_table (b : Bool) (s : State) : KeepsTable s (postPlanChanged b s) := .ite .same .same

theorem syncInst_table (s : State) (iid : Nat) : KeepsTable s (syncInst s iid) := by
  unfold syncInst syncPlanned
  repeat' split
  all_goals exact .same

theorem syncClaim_table (before s : State) (c : Claim) : KeepsTable s (syncClaim before s c) := by
  unfold syncClaim
  dsimp only
  repeat' split
  all_goals exact .same

theorem takeFresh_table {act : State → State} (h : ∀ u, KeepsTable u (act u)) (before : List DueReq) (k : DueKind)
    (s : State) : KeepsTable s (takeFresh before k act s) := by
  unfold takeFresh
  split
  · exact .refl s
  · refine .ite ?_ (.refl s)
    obtain ⟨-, e⟩ | ⟨-, e⟩ := takeDue_cases k s
    · rw [e]
      exact .trans .same (h _)
    · rw [e]
      exact .refl s

theorem takeFreshInst_table (before : List DueReq) (s : State) (iid : Nat) :
    KeepsTable s (takeFreshInst before s iid) :=
  (takeFresh_table (takeWindowStart_table iid) _ _ s).trans ((takeFresh_table (takeCoreEnd_table iid) _ _ _).trans
    ((takeFresh_table (fun u => .same (enterStopping_bkt _ iid u)) _ _ _).trans
      (takeFresh_table (takeWindowClose_table iid) _ _ _)))

theorem handOff_table (before s : State) : KeepsTable s (handOff before s) :=
  (KeepsTable.foldl syncInst_table _ s).trans ((KeepsTable.foldl (syncClaim_table before) _ _).trans
    ((KeepsTable.foldl (fun u (c : Claim) => takeFresh_table (takeYieldWarning_table c.id) _ _ u) _ _).trans
      (.foldl (takeFreshInst_table _) _ _)))

theorem resulting_table (p : Snapshot) (s : State) : KeepsTable s (resulting p s) :=
  (applyExpansion_table _ _ s).trans ((applyPlan_table p _ _).trans ((applyMarks_table p _ _).trans
    ((applyBookings_table _ _).trans (.same (submitFree_bkt _ _)))))

theorem renewing_bkt (p : Snapshot) (s : State) : (renewing p s).bkt = (resulting p s).bkt := rfl

theorem handing_table (p : Snapshot) (s : State) : KeepsTable (renewing p s) (handing p s) :=
  (postPlanChanged_table _ _).trans ((handOff_table s _).trans (retryStarts_table s _))

theorem endPass_answerAllHeld_bkt (s : State) : (endPass (answerAllHeld s)).bkt = s.bkt := by
  obtain ⟨rs, -, e⟩ := answerAllHeld_replies s
  rw [endPass_frame, e]

theorem installPass_table (p : Snapshot) (s : State) : KeepsTable s (installPass p s) := by
  rw [installPass_eq]
  exact ((resulting_table p s).trans (.same (renewing_bkt p s))).trans
    ((handing_table p s).trans (.same (endPass_answerAllHeld_bkt _)))

theorem execInstall_table {s t : State} (h : execInstall s = .next t) : KeepsTable s t := by
  unfold execInstall at h
  split at h
  · cases h
    exact (installPass_table _ s).trans (.same (settleOutputs_bkt s _))
  · cases h
    exact .refl s

/-! ## The resets, the rollover and the offset change (R14, R15, R57) -/

theorem execWarmReset_table {s t : State} (h : execWarmReset s = .next t) : KeepsTable s t := by
  unfold execWarmReset at h
  split at h
  · cases h
    intro kept
    simpa [warmReset, warmBookings] using kept.filterBookings _
  · cases h
    exact .refl s

theorem execColdReset_table {s t : State} (h : execColdReset s = .next t) : KeepsTable s t := by
  unfold execColdReset at h
  split at h
  · cases h
    intro _
    simpa only [coldReset, startKeepalive_bkt] using freshBookings_kept
  · cases h
    exact .refl s

theorem execDayRollover_table {s t : State} (h : execDayRollover s = .next t) : KeepsTable s t := by
  unfold execDayRollover at h
  split at h
  · cases h
    exact .refl s
  · cases h
    exact .trans (t := modClk rolloverTaken s) .same ((handRollover_table _).trans (settle_table s _))

theorem execOffsetChange_table {s t : State} (h : execOffsetChange s = .next t) : KeepsTable s t := by
  unfold execOffsetChange at h
  split at h
  · cases h
    have logged (c : Condition) (p : Prop) [Decidable p] (u : State) : KeepsTable u (if p then u else submit c u) :=
      .ite (.refl u) .same
    exact (KeepsTable.trans (t := modClk _ s) .same (logged _ _ _)).trans
      (.trans (.same (setDirty_bkt _)) (settle_table s _))
  · cases h
    exact .refl s

/-! ## The events of the line (R196 to R201) -/

section Line

variable {s t : State} {kind tag : Byte} {p : List Byte}

/-- GUIDE_PUT judges the clock before its payload (log entry 13). -/
theorem execGuidePut_table (h : execGuidePut tag p s = .next t) : KeepsTable s t := by
  cases h
  refine (onFrame_table (fun u => .ite ?_ .same) _ _ _ _).trans (settle_table s _)
  split
  · exact .same
  · exact .ite .same (guidePut_table tag _ u)

theorem execBadCheck_table {check : BitVec 16} (h : execBadCheck kind tag p check s = .next t) : KeepsTable s t := by
  unfold execBadCheck answerBadCheck at h
  dsimp only at h
  repeat' split at h
  all_goals
    cases h
    exact .same

theorem execBadKind_table (h : execBadKind kind tag p s = .next t) : KeepsTable s t := by
  unfold execBadKind at h
  split at h
  · cases h
    exact .refl s
  · cases h
    exact onFrame_table (fun u => .same (pushReply_bkt _ u)) _ _ _ _

theorem execFrameDiscardedInHand_table (h : execFrameDiscardedInHand kind tag p s = .next t) : KeepsTable s t := by
  unfold execFrameDiscardedInHand at h
  split at h
  all_goals
    cases h
    exact .same

theorem execLineFramingError_table {bs : List Byte} (h : execLineFramingError bs s = .next t) : KeepsTable s t := by
  unfold execLineFramingError at h
  split at h
  all_goals
    cases h
    exact .same

theorem interByteEnd_table (s : State) : KeepsTable s (interByteEnd s) := by
  unfold interByteEnd
  dsimp only
  cases h : takeDelay .interByte (startDelay .interByte Config.interByteUnits s) with
  | none => exact .same rfl
  | some u => exact .trans (t := startDelay .interByte Config.interByteUnits s) .same (.same (takeDelay_bkt h))

theorem execInterByteTimeout_table {bs : List Byte} (h : execInterByteTimeout bs s = .next t) : KeepsTable s t := by
  unfold execInterByteTimeout at h
  split at h
  · cases h
    exact .refl s
  · split at h
    · cases h
      exact .refl s
    · cases h
      exact .trans (t := modLnk _ s) .same (interByteEnd_table _)

theorem execReplySent_table (h : execReplySent s = .next t) : KeepsTable s t := by
  unfold execReplySent at h
  split at h
  all_goals
    cases h
    exact .same

theorem execFrameLengthExceeds512_table {high low : Byte} (h : execFrameLengthExceeds512 high low s = .next t) :
    KeepsTable s t := by
  unfold execFrameLengthExceeds512 at h
  split at h
  all_goals
    cases h
    exact .same

end Line

/-! ## Every command -/

/-- A command that answers a state which keeps the table. -/
theorem KeepsTable.answers {s u t : State} (k : KeepsTable s u)
    (h : (.next u : Host.Outcome State Fault Refusal) = .next t) : KeepsTable s t := by
  cases h
  exact k

/-- A message, and the end of its event. -/
theorem KeepsTable.settledMessage {α : Type} {act : α → State → State} (k : ∀ m u, KeepsTable u (act m u))
    {pr : Parser α} {kind tag : Byte} {p : List Byte} {s t : State}
    (h : (.next (settle s (onMessage kind tag pr p act s)) : Host.Outcome State Fault Refusal) = .next t) :
    KeepsTable s t :=
  ((onMessage_table k pr kind tag p s).trans (settle_table s _)).answers h

/-- A message that settles nothing. -/
theorem KeepsTable.message {α : Type} {act : α → State → State} (k : ∀ m u, KeepsTable u (act m u))
    {pr : Parser α} {kind tag : Byte} {p : List Byte} {s t : State}
    (h : (.next (onMessage kind tag pr p act s) : Host.Outcome State Fault Refusal) = .next t) : KeepsTable s t :=
  (onMessage_table k pr kind tag p s).answers h

theorem KeepsTable.due {act : State → State} (h : ∀ u, KeepsTable u (act u)) {k : DueKind} {s t : State}
    (e : (.next (onDue k act s) : Host.Outcome State Fault Refusal) = .next t) : KeepsTable s t :=
  (onDue_table h k s).answers e

theorem KeepsTable.delay {act : State → State} (h : ∀ u, KeepsTable u (act u)) {k : DelayKind} {s t : State}
    (e : (.next (onDelay k act s) : Host.Outcome State Fault Refusal) = .next t) : KeepsTable s t :=
  (onDelay_table h k s).answers e

/-- One command keeps the table: the messages of the Booking Table by its rules, terminal entries by what they hand it,
an install by the booking side of expansion, every other command because it leaves the table alone. -/
theorem exec_table (c : Instr) {s t : State} (h : exec c s = .next t) : KeepsTable s t := by
  cases c with
  | powerOn =>
    cases h
    exact fun _ => freshBookings_kept
  | warmReset => exact execWarmReset_table h
  | coldReset => exact execColdReset_table h
  | crystalSecond => exact KeepsTable.answers (.same (modClk_bkt _ s)) h
  | dayRollover => exact execDayRollover_table h
  | offsetChange => exact execOffsetChange_table h
  | timeSet tag p => exact .settledMessage (timeSet_table tag) h
  | timeGet tag p => exact .message (fun _ u => timeGet_table tag u) h
  | guidePut tag p => exact execGuidePut_table h
  | guideDropKeys tag p => exact .settledMessage (guideDrop_table tag) h
  | guideDropService tag p => exact .settledMessage (guideDrop_table tag) h
  | eventStatus tag p => exact .settledMessage (eventStatus_table tag) h
  | guideGetEvent tag p => exact (onFrame_table (guideGet_table tag p) _ _ _ s).answers h
  | guideGetSummary tag p => exact (onFrame_table (guideGet_table tag p) _ _ _ s).answers h
  | bookEvent tag p => exact .settledMessage (bookEvent_table tag) h
  | bookSeries tag p => exact .settledMessage (bookSeries_table tag) h
  | bookManual tag p => exact .settledMessage (bookManual_table tag) h
  | bookChange tag p => exact .settledMessage (bookChange_table tag) h
  | bookSuspend tag p => exact .settledMessage (moveBooking_table _ tag _) h
  | bookResume tag p => exact .settledMessage (moveBooking_table _ tag _) h
  | bookDelete tag p => exact .settledMessage (bookDelete_table tag) h
  | bookGet tag p => exact .message (bookGet_table tag) h
  | bookList tag p => exact .message (bookList_table tag) h
  | historyAdd tag p => exact .settledMessage (historyAdd_table tag) h
  | historyDropPair tag p => exact .settledMessage (historyDrop_table tag) h
  | historyDropSeries tag p => exact .settledMessage (historyDrop_table tag) h
  | historyGet tag p => exact .message (historyGet_table tag) h
  | instanceGet tag p => exact .message (instanceGet_table tag) h
  | planGet tag p => exact .message (planGet_table tag) h
  | outcomeTake tag p => exact .settledMessage (outcomeTake_table tag) h
  | clashGet tag p => exact .message (clashGet_table tag) h
  | install => exact execInstall_table h
  | windowStart n => exact .due (takeWindowStart_table n) h
  | coreEnd n => exact .due (takeCoreEnd_table n) h
  | heldStartLimit n => exact .due (takeHeldLimit_table n) h
  | stopMoment n => exact .due (fun u => .same (enterStopping_bkt _ n u)) h
  | overrunCap n => exact .due (takeOverrunCap_table n) h
  | startConfirmTimeout n => exact .delay (takeStartTimeout_table n) h
  | stopConfirmTimeout n => exact .delay (takeStopTimeout_table n) h
  | recReportStarted tag p => exact .settledMessage (recReport_table tag) h
  | recReportStartFailed tag p => exact .settledMessage (recReport_table tag) h
  | recReportStopped tag p => exact .settledMessage (recReport_table tag) h
  | viewClaimNew tag p => exact .settledMessage (viewClaim_table tag) h
  | viewClaimChange tag p => exact .settledMessage (viewClaim_table tag) h
  | viewRelease tag p => exact .settledMessage (viewRelease_table tag) h
  | yieldWarning n => exact .due (takeYieldWarning_table n) h
  | lockGraceEnd u => exact .due (takeGraceEnd_table u) h
  | lockMonitorTick u locked => exact .delay (takeTick_table u locked) h
  | lockAbandon u => exact .due (takeAbandon_table u) h
  | windowClose n => exact .due (takeWindowClose_table n) h
  | keepaliveExpiry => exact .delay takeKeepalive_table h
  | wakeDue => exact .due takeWakeDue_table h
  | wakeTimeout => exact .delay takeWakeTimeout_table h
  | resetPulseEnd => exact .delay (fun u => .same (modWsv_bkt _ u)) h
  | hello tag p =>
    exact ((onMessage_table (fun _ u => hello_table tag u) _ _ _ _ s).trans
      (.same (settleOutputs_bkt s _))).answers h
  | standby tag p => exact .settledMessage (fun _ u => standby_table tag u) h
  | causeClear tag p => exact .message (fun _ u => causeClear_table tag u) h
  | resetPart tag p => exact .message (resetPart_table tag) h
  | condRead tag p => exact .message (condRead_table tag) h
  | condClear tag p => exact .message (condClear_table tag) h
  | condConfig tag p => exact .message (condConfig_table tag) h
  | noticeFetch tag p => exact .settledMessage (fun _ u => noticeFetch_table tag u) h
  | actionsGet tag p => exact .message (fun _ u => actionsGet_table tag u) h
  | configSet tag p => exact .settledMessage (configSet_table tag) h
  | configGet tag p => exact (onFrame_table (fun u => configGet_table tag _ u) _ _ _ s).answers h
  | badCheck kind tag p check => exact execBadCheck_table h
  | badKind kind tag p => exact execBadKind_table h
  | frameDiscardedInHand kind tag p => exact execFrameDiscardedInHand_table h
  | lineFramingError bs => exact execLineFramingError_table h
  | interByteTimeout bs => exact execInterByteTimeout_table h
  | replySent => exact execReplySent_table h
  | frameLengthExceeds512 high low => exact execFrameLengthExceeds512_table h

/-- Settles O55: a step takes a command off the queue, which the table does not hold, and the command keeps the table. -/
theorem stepsKeepTheBookings : Obligations.StepsKeepTheBookings := by
  intro s t hs h
  unfold step at h
  split at h
  · cases h
    exact hs
  · rename_i c rest _
    exact exec_table c (s := { s with pending := rest }) h hs

end Sys2Proof.Machine

/-! PROOFS. The messages of the Booking Table that touch no recording: reading, adding, changing, suspending and resuming,
and the episode history (R37 to R45, R51 to R56). -/

namespace Sys2Proof.Machine

-- one theorem after another: many at a time would want a thread each
set_option Elab.async false

open Sys2Proof

/-! ## A message that is taken, and the end of its event -/

section Taken

variable {s : State} {kind tag : Byte} {p : List Byte}

/-- A message that settles at its end, where its frame is taken and its payload reads (R199). -/
theorem settledMessage_taken {α : Type} {pr : Parser α} {m : α} (act : α → State → State) (hT : Takes p s)
    (hp : parseAll pr p = .ok m) :
    (.next (settle s (onMessage kind tag pr p act s)) : Host.Outcome State Fault Refusal) =
      .next (settle s (act m (withFrame kind tag p s))) := by
  rw [onMessage_ok kind tag pr p act s m hT hp]

/-- A message that settles nothing, where its frame is taken and its payload reads (R199). -/
theorem message_taken {α : Type} {pr : Parser α} {m : α} (act : α → State → State) (hT : Takes p s)
    (hp : parseAll pr p = .ok m) :
    (.next (onMessage kind tag pr p act s) : Host.Outcome State Fault Refusal) = .next (act m (withFrame kind tag p s)) := by
  rw [onMessage_ok kind tag pr p act s m hT hp]

/-- A refused message changes nothing but that it is answered (R200). -/
theorem refuse_withFrame (hk : reportsAgain kind = false) (st : Status) :
    refuse kind tag st (withFrame kind tag p s) = answered kind tag p (refusalTo kind tag st) s := refuse_eq hk tag st _

theorem settle_refused (hS : Settled s) (hk : reportsAgain kind = false) (st : Status) :
    settle s (refuse kind tag st (withFrame kind tag p s)) = answered kind tag p (refusalTo kind tag st) s := by
  rw [refuse_withFrame hk, settle_answered hS]

/-- A message that writes the Booking Table and may set the dirty flag: its end asks for a pass or does nothing (R82, R94,
R204). -/
theorem settle_table_written (hS : Settled s) (b : Bool) (r : Reply) (t : BookingTable) :
    settle s (withReply r (setDirtyIf b { withFrame kind tag p s with bkt := t })) =
      askPassIf b (answered kind tag p r { s with bkt := t }) := by
  have quiet : settle s (withReply r (setDirtyIf b { withFrame kind tag p s with bkt := t })) =
      beginPass (setDirtyIf b (answered kind tag p r { s with bkt := t })) := by
    cases b <;> exact settle_quiet s _ hS rfl rfl rfl rfl rfl rfl rfl
  rw [quiet]
  cases b with
  | false => exact beginPass_settled s (answered kind tag p r { s with bkt := t }) hS rfl rfl
  | true => exact beginPass_setDirty (answered kind tag p r { s with bkt := t })

end Taken

/-! ## Reading (R51, R56) -/

theorem execBookGet_found {s : State} {tag : Byte} {p : List Byte} {n : Nat} {b : Booking} (hT : Takes p s)
    (hp : parseAll pU8 p = .ok n) (hb : findBooking n s = some b) :
    exec (.bookGet tag p) s = .next (answered 0x27 tag p (okTo 0x27 tag
      (.booking b (countOf b.id (fun st => !isTerminal st) s) (countOf b.id isTerminal s))) s) := by
  refine (message_taken (bookGet tag) hT hp).trans (congrArg _ ?_)
  obtain ⟨-, rfl⟩ := findBooking_some hb
  have held : findBooking b.id (withFrame 0x27 tag p s) = some b := hb
  simp only [bookGet, held]
  rfl

/-- The first index of a HISTORY_GET reply: past the entries of the page that it does not show (R56; log entry 27). -/
theorem historyFirst_eq (n : Nat) (r : Option Ref) (page : List HistEntry) :
    historyFirst n r page =
      if page.any (historyShows r) then n + (page.takeWhile (fun e => !historyShows r e)).length else n := by
  unfold historyFirst
  by_cases h : page.any (historyShows r) = true
  · have hlt : page.findIdx (historyShows r) < page.length := List.findIdx_lt_length.mpr (List.any_eq_true.mp h)
    rw [List.findIdx?_eq_some_iff_findIdx_eq.mpr ⟨hlt, rfl⟩, if_pos h, List.takeWhile_eq_take_findIdx_not]
    simp [hlt.le]
  · have none : page.findIdx? (historyShows r) = none :=
      List.findIdx?_eq_none_iff.mpr (by simpa using h)
    rw [none, if_neg h]

theorem historyShows_eq (r : Option Ref) : historyShows r = fun e => r.all (fun x => e.series == x) := by
  cases r <;> rfl

/-- Settles O9: each read answers from the state in which its frame has been taken. -/
theorem bookingAndHistoryReads : Obligations.BookingAndHistoryReads := by
  refine ⟨fun s tag p n hT hp => ⟨fun b hb => execBookGet_found hT hp hb, fun hb => ?_⟩,
    fun s tag p n hT hp => ⟨fun hn => ?_, fun h1 h2 => ?_⟩, fun s tag p n r hT hp => ⟨fun hn => ?_, fun hn => ?_⟩⟩
  · refine (message_taken (bookGet tag) hT hp).trans (congrArg _ ?_)
    have absent : findBooking n (withFrame 0x27 tag p s) = none := hb
    simp only [bookGet, absent]
    exact refuse_withFrame rfl _
  · exact (message_taken (bookList tag) hT hp).trans (congrArg _ ((if_pos hn).trans (refuse_withFrame rfl _)))
  · exact (message_taken (bookList tag) hT hp).trans (congrArg _ (if_neg (by simp only [Config.bookingCap]; omega)))
  · exact (message_taken (historyGet tag) hT hp).trans (congrArg _ ((if_pos hn).trans (refuse_withFrame rfl _)))
  · refine (message_taken (historyGet tag) hT hp).trans (congrArg _ ((if_neg (Nat.not_lt.mpr hn)).trans ?_))
    rw [historyFirst_eq, historyShows_eq]
    rfl

/-! ## Adding (R37, R39 to R42) -/

theorem clampTo_zero (hi : Nat) : clampTo 0 hi = fun v => min hi v := by
  funext v
  exact Nat.zero_max _

theorem newBooking_eq (n : Nat) (part : BookingPart) (c : CommonMsg) (t : BookingTable) :
    newBooking n part c t = madeBooking n part c t := by
  have pre : clampPrePad = fun v => min 3600 v := clampTo_zero 3600
  have post : clampPostPad = fun v => min 7200 v := clampTo_zero 7200
  rw [newBooking, pre, post]
  rfl

/-- A clamp into a range changes a value exactly where it lies outside. -/
theorem clampTo_ne {lo hi : Nat} (h : lo ≤ hi) (v : Nat) :
    (clampTo lo hi v != v) = (decide (v < lo) || decide (hi < v)) := by
  rw [Bool.eq_iff_iff]
  simp only [clampTo, bne_iff_ne, Bool.or_eq_true, decide_eq_true_eq]
  omega

theorem clampPriority_ne (v : Nat) : (clampPriority v != v) = (v == 0 || decide (7 < v)) := by
  refine (clampTo_ne (by decide) v).trans ?_
  simp only [Nat.lt_one_iff, beq_eq_decide]

theorem clampPrePad_ne (v : Nat) : (clampPrePad v != v) = decide (3600 < v) := (clampTo_ne (Nat.zero_le _) v).trans (by simp)

theorem clampPostPad_ne (v : Nat) : (clampPostPad v != v) = decide (7200 < v) :=
  (clampTo_ne (Nat.zero_le _) v).trans (by simp)

theorem clampFraction_ne (v : Nat) : (clampFraction v != v) = (decide (v < 100) || decide (1000 < v)) :=
  clampTo_ne (by decide) v

theorem clampsOpt_eq (f : Nat → Nat) (o : Option Nat) : clampsOpt f o = o.any (fun v => f v != v) := by cases o <;> rfl

/-- The CLAMPED flag of an add command (R37). -/
theorem commonClamped_eq (c : CommonMsg) : commonClamped c = outOfRange c := by
  simp only [commonClamped, outOfRange, clampsOpt_eq, clampPriority_ne, clampPrePad_ne, clampPostPad_ne, clampFraction_ne]

theorem badDay_eq_false (d : Int) : badDay d = false ↔ -1 ≤ d ∧ d ≤ 49710 := by
  simp [badDay]

/-- The tests of R42, one conjunct for each. -/
theorem manualRefused_eq_false (m : ManualPart) : manualRefused m = false ↔ GoodManual m := by
  have top : m.mask[7] = false ↔ m.mask.toNat < 128 := by
    rw [show m.mask[7] = decide (128 ≤ m.mask.toNat) from BitVec.getLsbD_last m.mask]
    simp
  cases hl : m.lastDay with
  | none =>
    simp [manualRefused, GoodManual, hl, top, badDay_eq_false, Nat.one_le_iff_ne_zero, and_assoc]
  | some d =>
    simp [manualRefused, GoodManual, hl, top, badDay_eq_false, Nat.one_le_iff_ne_zero, and_assoc]

/-- The last two checks of an add command, and its taking (R39). -/
theorem addBooking_added {s : State} {c : Instr} {kind tag : Byte} {p : List Byte} {dup : Option Booking}
    {part : BookingPart} {m : CommonMsg} (hS : Settled s) (hk : reportsAgain kind = false)
    (run : exec c s = .next (settle s (addBooking kind tag dup part m (withFrame kind tag p s)))) :
    Added kind tag p c dup part m s := by
  refine ⟨fun b hd => ?_, fun hd hf => ?_, fun n hd hf => ?_⟩
  all_goals subst hd
  · exact run.trans (congrArg _ (settle_answered hS kind tag p _))
  · have full : lowestFree (withFrame kind tag p s) = none := hf
    rw [run, addBooking, full]
    exact congrArg _ (settle_refused hS hk _)
  · have free : lowestFree (withFrame kind tag p s) = some n := hf
    rw [run, addBooking, free, commonClamped_eq]
    simp only [newBooking_eq]
    exact congrArg _ (settle_table_written hS true _
      { s.bkt with bookings := insertBy bookingLt (madeBooking n part m s.bkt) s.bkt.bookings })

/-- Settles O15: each message judges its own fields, then adds. -/
theorem addCommandsBook : Obligations.AddCommandsBook := by
  refine ⟨fun s tag p k m hS hT hp => ?_, fun s tag p m hS hT hp => ?_, fun s tag p m c hS hT hp => ?_⟩
  · have run : exec (.bookEvent tag p) s = _ := settledMessage_taken (bookEvent tag) hT hp
    have held : (withFrame 0x20 tag p s).gst.recs = s.gst.recs := rfl
    refine ⟨fun h0 => ?_, fun h0 hr => ?_, fun r h0 hr => ?_⟩
    · rw [run, bookEvent, if_pos h0]
      exact congrArg _ (settle_refused hS rfl _)
    · rw [run, bookEvent, if_neg h0, held, hr]
      exact congrArg _ (settle_refused hS rfl _)
    · refine addBooking_added hS rfl (run.trans ?_)
      rw [bookEvent, if_neg h0, held, hr]
      rfl
  · have run : exec (.bookSeries tag p) s = _ := settledMessage_taken (bookSeries tag) hT hp
    have judged : seriesRefused m = true ↔ m.ref.length = 0 ∨ 32 < m.ref.length ∨ m.scope = some 0 := by
      simp [seriesRefused, or_assoc]
    refine ⟨fun h => ?_, fun h1 h2 h3 => ?_⟩
    · rw [run, bookSeries, if_pos (judged.mpr h)]
      exact congrArg _ (settle_refused hS rfl _)
    · refine addBooking_added hS rfl (run.trans ?_)
      rw [bookSeries, if_neg (fun h => ?_)]
      · rfl
      · obtain h | h | h := judged.mp h
        · omega
        · omega
        · exact h3 h
  · have run : exec (.bookManual tag p) s = _ := settledMessage_taken (bookManual tag) hT hp
    refine ⟨fun h => ?_, fun h => ?_⟩
    · have bad : manualRefused m = true := by
        simpa using mt (manualRefused_eq_false m).mp h
      rw [run, bookManual, if_pos bad]
      exact congrArg _ (settle_refused hS rfl _)
    · refine addBooking_added hS rfl (run.trans ?_)
      rw [bookManual, if_neg (by simp [(manualRefused_eq_false m).mpr h])]

end Sys2Proof.Machine

/-! PROOFS. The messages that change one booking, and the episode history (R42 to R45, R53, R55). -/

namespace Sys2Proof.Machine

-- one theorem after another: many at a time would want a thread each
set_option Elab.async false

open Sys2Proof

/-! ## One booking changed in its place -/

/-- One booking changed, as the model writes it and as the statements do. -/
theorem modBkt_eq_withBooking (n : Nat) (f : Booking → Booking) (s : State) :
    modBkt (fun t => { t with bookings := t.bookings.map (fun b => if b.id == n then f b else b) }) s =
      withBooking n f s := by
  simp only [modBkt, withBooking, beq_iff_eq]

/-- A message that changes one booking in its place, and the end of its event. -/
theorem settle_withBooking {s : State} (hS : Settled s) (kind tag : Byte) (p : List Byte) (dirty : Bool) (n : Nat)
    (f : Booking → Booking) (r : Reply) :
    settle s (withReply r (setDirtyIf dirty (modBkt (fun t => { t with
        bookings := t.bookings.map (fun b => if b.id == n then f b else b) }) (withFrame kind tag p s)))) =
      askPassIf dirty (answered kind tag p r (withBooking n f s)) := by
  rw [modBkt_eq_withBooking]
  exact settle_table_written hS dirty r (withBooking n f s).bkt

/-! ## BOOK_CHANGE (R42, R43) -/

theorem onManual_eq (f : ManualPart → ManualPart) (b : Booking) : onManual f b = manualWritten f b := by
  unfold onManual manualWritten
  cases b.part <;> rfl

/-- The one field that a change writes, as R43 states it. -/
theorem applyField_eq (b : Booking) (f : ChangeField) : applyField f b = fieldWritten b f := by
  cases f with
  | prePad v => exact congrArg (fun g : Nat → Nat => some { b with prePad := g v }) (clampTo_zero 3600)
  | postPad v => exact congrArg (fun g : Nat → Nat => some { b with postPad := g v }) (clampTo_zero 7200)
  | newOnly v =>
    obtain ⟨id, part, st, pr, pre, post, follow, frac⟩ := b
    cases part <;> rfl
  | service v => exact onManual_eq _ b
  | mux v => exact onManual_eq _ b
  | t0 v => exact onManual_eq _ b
  | dur v => exact onManual_eq _ b
  | mask v => exact onManual_eq _ b
  | firstDay v => exact onManual_eq _ b
  | lastDay v => exact onManual_eq _ b
  | priority v => rfl
  | follow v => rfl
  | minFraction v => rfl
  | refused => rfl

theorem applyFields_one (b : Booking) (f : ChangeField) : applyFields [f] b = fieldWritten b f := by
  rw [← applyField_eq]
  exact Option.bind_fun_some (applyField f b)

theorem fieldClamped_eq (f : ChangeField) : fieldClamped f = valueClamped f := by
  cases f with
  | priority v => exact clampPriority_ne v
  | prePad v => exact clampPrePad_ne v
  | postPad v => exact clampPostPad_ne v
  | minFraction v => exact clampFraction_ne v
  | _ => rfl

/-- The record after a change is refused by R42 exactly where it is MANUAL and fails a test. -/
theorem partRefused_eq_false (b : Booking) : partRefused b = false ↔ ∀ m, b.part = .manual m → GoodManual m := by
  unfold partRefused
  split
  · rename_i m hm
    rw [manualRefused_eq_false]
    exact ⟨fun h m' hm' => by cases hm.symm.trans hm'; exact h, fun h => h m hm⟩
  · rename_i hn
    exact ⟨fun _ m hm => absurd hm (hn m), fun _ => rfl⟩

/-- Settles O16: the checks of R43 in their order, then the field written. -/
theorem bookChangeWritesOneField : Obligations.BookChangeWritesOneField := by
  intro s tag p n f hS hT hp
  have run : exec (.bookChange tag p) s = .next (settle s (bookChange tag (n, [f]) (withFrame 0x23 tag p s))) :=
    settledMessage_taken (bookChange tag) hT hp
  refine ⟨fun hb => ?_, fun b hb => ?_⟩
  · have absent : findBooking n (withFrame 0x23 tag p s) = none := hb
    rw [run, bookChange, absent]
    exact congrArg _ (settle_refused hS rfl _)
  · have held : findBooking n (withFrame 0x23 tag p s) = some b := hb
    obtain ⟨-, rfl⟩ := findBooking_some hb
    rw [run, bookChange, held]
    simp only [applyFields_one]
    refine ⟨fun hsp => ?_, fun hsp hf => ?_, fun b' m hsp hf hm hbad => ?_, fun b' hsp hf hgood => ?_⟩
    · rw [if_pos hsp]
      exact congrArg _ (settle_refused hS rfl _)
    · rw [if_neg hsp, hf]
      exact congrArg _ (settle_refused hS rfl _)
    · have bad : partRefused b' = true := by
        simpa using mt (partRefused_eq_false b').mp (fun h => hbad (h m hm))
      rw [if_neg hsp, hf]
      simp only [bad, if_true]
      exact congrArg _ (settle_refused hS rfl _)
    · have good : partRefused b' = false := (partRefused_eq_false b').mpr hgood
      rw [if_neg hsp, hf]
      simp only [good, Bool.false_eq_true, if_false, List.any_cons, List.any_nil, Bool.or_false, fieldClamped_eq,
        bne_eq_decide_ne]
      exact congrArg _ (settle_withBooking hS 0x23 tag p _ b.id (fun _ => b') _)

/-! ## BOOK_SUSPEND and BOOK_RESUME (R45) -/

section Move

variable {s : State} {kind tag : Byte} {p : List Byte} {n : Nat} {b : Booking} {target : BookingState}

theorem moveBooking_absent (hS : Settled s) (hk : reportsAgain kind = false) (hb : findBooking n s = none) :
    settle s (moveBooking kind tag target n (withFrame kind tag p s)) =
      answered kind tag p (refusalTo kind tag .notFound) s := by
  have absent : findBooking n (withFrame kind tag p s) = none := hb
  rw [moveBooking, absent]
  exact settle_refused hS hk _

theorem moveBooking_spent (hS : Settled s) (hk : reportsAgain kind = false) (hb : findBooking n s = some b)
    (hsp : b.bstate = .spent) :
    settle s (moveBooking kind tag target n (withFrame kind tag p s)) =
      answered kind tag p (refusalTo kind tag .notAllowed) s := by
  have held : findBooking n (withFrame kind tag p s) = some b := hb
  rw [moveBooking, held]
  exact (congrArg _ (if_pos hsp)).trans (settle_refused hS hk _)

/-- A booking that is already where it is to be moved is left alone. -/
theorem moveBooking_there (hS : Settled s) (hb : findBooking n s = some b) (hst : b.bstate = target)
    (hsp : b.bstate ≠ .spent) :
    settle s (moveBooking kind tag target n (withFrame kind tag p s)) =
      answered kind tag p (okTo kind tag (.bookState b.bstate)) s := by
  have held : findBooking n (withFrame kind tag p s) = some b := hb
  rw [moveBooking, held]
  exact (congrArg _ ((if_neg hsp).trans (if_pos hst))).trans (settle_answered hS kind tag p _)

theorem moveBooking_moves (hS : Settled s) (hb : findBooking n s = some b) (hst : b.bstate ≠ target)
    (hsp : b.bstate ≠ .spent) :
    settle s (moveBooking kind tag target n (withFrame kind tag p s)) =
      askPass (answered kind tag p (okTo kind tag (.bookState b.bstate))
        (withBooking n (fun x => { x with bstate := target }) s)) := by
  have held : findBooking n (withFrame kind tag p s) = some b := hb
  rw [moveBooking, held]
  exact (congrArg _ ((if_neg hsp).trans (if_neg hst))).trans (settle_withBooking hS kind tag p true n _ _)

end Move

/-- Settles O17: both messages are the one move, to two states. -/
theorem suspendAndResumeMoveABooking : Obligations.SuspendAndResumeMoveABooking := by
  intro s tag p n hS hT hp
  have suspend : exec (.bookSuspend tag p) s = _ := settledMessage_taken (moveBooking 0x24 tag .suspended) hT hp
  have resume : exec (.bookResume tag p) s = _ := settledMessage_taken (moveBooking 0x25 tag .active) hT hp
  rw [suspend, resume]
  refine ⟨fun hb => ⟨?_, ?_⟩, fun b hb => ⟨fun hst => ⟨?_, ?_⟩, fun hst => ⟨?_, ?_⟩, fun hst => ⟨?_, ?_⟩⟩⟩
  · exact congrArg _ (moveBooking_absent hS rfl hb)
  · exact congrArg _ (moveBooking_absent hS rfl hb)
  · exact congrArg _ (moveBooking_spent hS rfl hb hst)
  · exact congrArg _ (moveBooking_spent hS rfl hb hst)
  · rw [moveBooking_moves hS hb (by simp [hst]) (by simp [hst]), hst]
  · rw [moveBooking_there hS hb hst (by simp [hst]), hst]
  · rw [moveBooking_there hS hb hst (by simp [hst]), hst]
  · rw [moveBooking_moves hS hb (by simp [hst]) (by simp [hst]), hst]

/-! ## The episode history (R53, R55) -/

section Insert

variable {s : State} {e : HistEntry}

theorem insertHistory_held (h : e ∈ s.bkt.history) : insertHistory e s = (s, .duplicate, none) := by
  simp [insertHistory, h]

theorem insertHistory_room (h : e ∉ s.bkt.history) (hl : s.bkt.history.length < 512) :
    insertHistory e s = (setDirty (withHistory (s.bkt.history ++ [e]) s), .added, none) := by
  simp only [insertHistory, List.contains_iff_mem, if_neg h, if_pos hl]
  rfl

theorem insertHistory_full {old : HistEntry} {rest : List HistEntry} (h : e ∉ s.bkt.history)
    (hl : s.bkt.history.length = 512) (hr : s.bkt.history = old :: rest) :
    insertHistory e s = (setDirty (withHistory (rest ++ [e]) s), .addedReplacingOldest, some old) := by
  have written : modBkt (fun b => { b with history := b.history.drop 1 ++ [e] }) s = withHistory (rest ++ [e]) s := by
    simp only [modBkt, withHistory, hr, List.drop_one, List.tail_cons]
  have oldest : s.bkt.history.head? = some old := by rw [hr, List.head?_cons]
  simp only [insertHistory, List.contains_iff_mem, if_neg h, hl, lt_irrefl, if_false, Config.histCap, written, oldest]

end Insert

theorem pairRefused_iff (e : HistEntry) :
    pairRefused e = true ↔ 32 < e.series.length ∨ e.episode.length = 0 ∨ 32 < e.episode.length := by
  simp [pairRefused, or_assoc]

theorem pairRefused_eq_false {e : HistEntry} (h1 : e.series.length ≤ 32) (h2 : 1 ≤ e.episode.length)
    (h3 : e.episode.length ≤ 32) : ¬ pairRefused e = true := by
  rw [pairRefused_iff]
  omega

theorem historyAdd_taken {s : State} {tag : Byte} {e : HistEntry} (h : ¬ pairRefused e = true) {t : State}
    {r : HistResult} {o : Option HistEntry} (hi : insertHistory e s = (t, r, o)) :
    historyAdd tag e s = answerOk 0x2C tag (.historyAdd r o) t := by
  rw [historyAdd, if_neg h, hi]

/-- A drop of the history: the counts, and a pass asked for where an entry left (R55). -/
theorem settle_dropEntries {s : State} (hS : Settled s) (tag : Byte) (p : List Byte) (f : HistEntry → Bool) :
    settle s (dropEntries tag f (withFrame 0x2D tag p s)) =
      askPassIf (s.bkt.history.any f) (answered 0x2D tag p (okTo 0x2D tag (.historyDrop
        (s.bkt.history.length - (s.bkt.history.filter (fun e => !f e)).length)
        (s.bkt.history.filter (fun e => !f e)).length)) (withHistory (s.bkt.history.filter (fun e => !f e)) s)) := by
  have removed : (s.bkt.history.length - (s.bkt.history.filter (fun e => !f e)).length != 0) = s.bkt.history.any f := by
    have split := List.length_eq_length_filter_add (l := s.bkt.history) f
    rw [Bool.eq_iff_iff, List.any_eq_true, bne_iff_ne, split, Nat.add_sub_cancel, ← Nat.pos_iff_ne_zero,
      List.length_filter_pos_iff]
  rw [← removed]
  exact settle_table_written hS _ _ { s.bkt with history := s.bkt.history.filter (fun e => !f e) }

/-- Settles O19: the three ways of an insertion, and what is left after a drop. -/
theorem historyPairsInsertedAndRemoved : Obligations.HistoryPairsInsertedAndRemoved := by
  refine ⟨fun s e => ⟨insertHistory_held, insertHistory_room, fun _ _ => insertHistory_full⟩,
    fun s tag p e hS hT hp => ?_, fun s tag p e hS hT hp => ?_, fun s tag p r hS hT hp => ?_⟩
  · have run : exec (.historyAdd tag p) s = _ := settledMessage_taken (historyAdd tag) hT hp
    rw [run]
    refine ⟨fun h => ?_, fun h1 h2 h3 => ?_⟩
    · rw [historyAdd, if_pos ((pairRefused_iff e).mpr h)]
      exact congrArg _ (settle_refused hS rfl _)
    · have ok := pairRefused_eq_false h1 h2 h3
      refine ⟨fun he => ?_, fun he hl => ?_, fun old rest he hl hr => ?_⟩
      · rw [historyAdd_taken (s := withFrame 0x2C tag p s) ok (insertHistory_held he)]
        exact congrArg _ (settle_answered hS 0x2C tag p _)
      · rw [historyAdd_taken (s := withFrame 0x2C tag p s) ok (insertHistory_room he hl)]
        exact congrArg _ (settle_table_written hS true _ { s.bkt with history := s.bkt.history ++ [e] })
      · rw [historyAdd_taken (s := withFrame 0x2C tag p s) ok (insertHistory_full he hl hr)]
        exact congrArg _ (settle_table_written hS true _ { s.bkt with history := rest ++ [e] })
  · have run : exec (.historyDropPair tag p) s = _ := settledMessage_taken (historyDrop tag) hT hp
    rw [run]
    refine ⟨fun h => ?_, fun h1 h2 h3 => ?_⟩
    · rw [historyDrop, if_pos ((pairRefused_iff e).mpr h)]
      exact congrArg _ (settle_refused hS rfl _)
    · have member : decide (e ∈ s.bkt.history) = s.bkt.history.any (fun x => x == e) := by
        rw [Bool.eq_iff_iff]
        simp
      rw [historyDrop, if_neg (pairRefused_eq_false h1 h2 h3), member]
      exact congrArg _ (settle_dropEntries hS tag p (fun x => x == e))
  · have run : exec (.historyDropSeries tag p) s = _ := settledMessage_taken (historyDrop tag) hT hp
    rw [run]
    refine ⟨fun h => ?_, fun h => ?_⟩
    · rw [historyDrop, if_pos h]
      exact congrArg _ (settle_refused hS rfl _)
    · rw [historyDrop, if_neg (Nat.not_lt.mpr h)]
      exact congrArg _ (settle_dropEntries hS tag p (fun x => x.series == r))

end Sys2Proof.Machine

/-! PROOFS. What the end of an event does to each part of the state (R82 to R84, R94, R144, R184, R190, R204): the starts
that wait are retried only where something they wait for has changed, and then only those that wait. -/

namespace Sys2Proof.Machine

-- one theorem after another: many at a time would want a thread each
set_option Elab.async false

open Sys2Proof

/-! ## The waiting starts (R144) -/

theorem waitChanged_same_waits {before after : State} (ha : after.run.tunerA.active = before.run.tunerA.active)
    (hb : after.run.tunerB.active = before.run.tunerB.active) (hc : after.run.claims = before.run.claims) :
    waitChanged before after = false := by
  simp only [waitChanged, ha, hb, hc, Bool.or_eq_false_iff, Bool.not_eq_false', List.all_eq_true, List.any_eq_true,
    List.contains_iff_mem]
  exact ⟨⟨fun k hk => hk, fun k hk => hk⟩, fun c hk => ⟨c, hk, by simp⟩⟩

/-- No retry where run records and claims hold what they held. -/
theorem retryStarts_same_waits {before s : State} (ha : s.run.tunerA.active = before.run.tunerA.active)
    (hb : s.run.tunerB.active = before.run.tunerB.active) (hc : s.run.claims = before.run.claims) :
    retryStarts before s = s := by
  unfold retryStarts
  simp only [retryRounds, waitChanged_same_waits ha hb hc, Bool.and_false]
  rfl

/-- No retry while the host is not AWAKE. -/
theorem retryStarts_asleep {before s : State} (h : hostAwake s = false) : retryStarts before s = s := by
  unfold retryStarts
  simp only [retryRounds, h, Bool.false_and]
  rfl

theorem sortBy_nil {α : Type} (lt : α → α → Bool) : sortBy lt [] = [] := rfl

theorem mem_idsWhere {p : Inst → Bool} {s : State} {k : Nat} :
    k ∈ idsWhere p s ↔ ∃ i ∈ s.lst.insts, p i = true ∧ i.id = k := by
  simp only [idsWhere, mem_sortBy, List.mem_map, List.mem_filter, and_assoc]

/-- With nobody waiting, a round of retries does nothing. -/
theorem retryWaiting_nobody {s : State} (h : NobodyWaits s) : retryWaiting s = s := by
  have resumes : interruptedIds s = [] := List.eq_nil_iff_forall_not_mem.mpr (fun k hk => by
    obtain ⟨i, hi, hp, -⟩ := mem_idsWhere.mp hk
    exact (h i hi).1 (by simpa using hp))
  have starts : heldStarts s = [] := by
    rw [heldStarts, List.filter_eq_nil_iff.mpr (fun i hi hp => (h i hi).2 (by simpa using hp)), sortBy_nil, List.map_nil]
  simp only [retryWaiting, resumes, List.foldl_nil, starts]

theorem retryRounds_nobody {s : State} (h : NobodyWaits s) (fuel : Nat) (before : State) :
    retryRounds fuel before s = s := by
  induction fuel generalizing before with
  | zero => rfl
  | succ fuel ih =>
    unfold retryRounds
    rw [retryWaiting_nobody h, ih, ite_self]

/-- With nobody waiting, nothing is retried. -/
theorem retryStarts_nobody {s : State} (h : NobodyWaits s) (before : State) : retryStarts before s = s :=
  retryRounds_nobody h _ before

/-! ## One delay request (R4) -/

theorem heldDelay_cancelDelay_same (k : DelayKind) (s : State) : heldDelay k (cancelDelay k s) = none := by
  simp [heldDelay]

theorem heldDelay_cancelDelay_other {k j : DelayKind} (h : j ≠ k) (s : State) :
    heldDelay j (cancelDelay k s) = heldDelay j s := by
  simp only [heldDelay, cancelDelay_delays, List.find?_filter]
  congr 1
  funext d
  by_cases hd : d.kind = j <;> simp [hd, h]

theorem heldDelay_startDelay_same (k : DelayKind) (n : Nat) (s : State) :
    heldDelay k (startDelay k n s) = some { kind := k, left := n } := by
  have gone := heldDelay_cancelDelay_same k s
  simp only [heldDelay, cancelDelay_delays] at gone
  simp [heldDelay, List.find?_append, gone]

theorem heldDelay_startDelay_other {k j : DelayKind} (h : j ≠ k) (n : Nat) (s : State) :
    heldDelay j (startDelay k n s) = heldDelay j s := by
  have kept := heldDelay_cancelDelay_other h s
  simp only [heldDelay, cancelDelay_delays] at kept
  have differ : (k == j) = false := beq_eq_false_iff_ne.mpr h.symm
  simp [heldDelay, List.find?_append, kept, differ]

/-! ## The outputs of an event -/

theorem wakeTarget_standby {s : State} (h : s.wsv.host = .standby) :
    wakeTarget s = s.lst.earliest.map (fun w => w - s.wsv.wakeLead) := by
  unfold wakeTarget
  rw [h]
  cases s.lst.earliest <;> rfl

section Outputs

variable (before s : State)

/-- The Clock Unit at the end of an event: the wake due request alone is synchronised (R184). -/
theorem settleOutputs_clk :
    (settleOutputs before s).clk = (syncWake (handSummaries (placeTerminals s))).clk := by
  simp only [settleOutputs, beginPass_clk, setAttention_clk, retestStandby_clk]

theorem syncWake_delays (u : State) : (syncWake u).clk.delays = u.clk.delays := by
  unfold syncWake ensureDue
  repeat' split
  all_goals rfl

theorem syncWake_heldDue_other {k : DueKind} (h : k ≠ .wakeDue) (u : State) : heldDue k (syncWake u) = heldDue k u := by
  unfold syncWake
  split
  · exact heldDue_ensureDue_other h _ u
  · exact heldDue_withdrawDue_other h u

/-- The wake due request is the one R184 asks for. -/
theorem syncWake_heldDue (u : State) : (heldDue .wakeDue (syncWake u)).map (fun d => d.time) = wakeTarget u := by
  unfold syncWake
  split
  · rename_i t ht
    rw [ht, heldDue_ensureDue_time]
  · rename_i ht
    rw [ht, heldDue_withdrawDue_same]
    rfl

theorem heldDue_of_clk {u v : State} (h : u.clk = v.clk) (k : DueKind) : heldDue k u = heldDue k v := by
  rw [heldDue, heldDue, h]

theorem heldDelay_of_delays {u v : State} (h : u.clk.delays = v.clk.delays) (k : DelayKind) :
    heldDelay k u = heldDelay k v := by
  rw [heldDelay, heldDelay, h]

@[simp] theorem settleOutputs_heldDelay (k : DelayKind) : heldDelay k (settleOutputs before s) = heldDelay k s :=
  heldDelay_of_delays (by rw [settleOutputs_clk, syncWake_delays, handSummaries_clk, placeTerminals_clk]) k

theorem settleOutputs_heldDue {k : DueKind} (h : k ≠ .wakeDue) : heldDue k (settleOutputs before s) = heldDue k s := by
  rw [heldDue_of_clk (settleOutputs_clk before s), syncWake_heldDue_other h]
  exact heldDue_of_clk (by rw [handSummaries_clk, placeTerminals_clk]) k

@[simp] theorem settleOutputs_time : timeOf (settleOutputs before s).clk = timeOf s.clk :=
  (settleOutputs_quiet before s).time

@[simp] theorem settleOutputs_count : (settleOutputs before s).clk.count = s.clk.count :=
  (time_of_timeOf (settleOutputs_time before s)).1

@[simp] theorem settleOutputs_cstate : (settleOutputs before s).clk.cstate = s.clk.cstate :=
  (time_of_timeOf (settleOutputs_time before s)).2.1

@[simp] theorem settleOutputs_offset : (settleOutputs before s).clk.offset = s.clk.offset :=
  (time_of_timeOf (settleOutputs_time before s)).2.2

/-- The recordings stand: the list takes the new terminal order and the earliest planned window start (R82, R83). -/
theorem settleOutputs_lst : (settleOutputs before s).lst =
    { s.lst with terminalOrder := s.lst.terminalOrder ++ newTerminals s.lst, earliest := earliestPlanned s } := by
  simp only [settleOutputs, beginPass_lst, setAttention_lst, retestStandby_lst, syncWake_lst]
  rfl

/-- Nothing of the list moves at the end of an event that has left it alone. -/
theorem settleOutputs_same_lst {before s u : State} (hS : Settled s) (hl : u.lst = s.lst) :
    (settleOutputs before u).lst = s.lst := by
  obtain ⟨earliest, -, placed, -⟩ := hS
  have planned : earliestPlanned u = earliestPlanned s := by simp only [earliestPlanned, plannedInsts, hl]
  rw [settleOutputs_lst, hl, placed, planned, ← earliest, List.append_nil]

/-- In STANDBY the wake due request stands one wake lead before the earliest planned window start (R184). -/
theorem settleOutputs_wakeDue {s : State} (h : s.wsv.host = .standby) :
    (heldDue .wakeDue (settleOutputs before s)).map (fun d => d.time) =
      (settleOutputs before s).lst.earliest.map (fun w => w - s.wsv.wakeLead) := by
  rw [heldDue_of_clk (settleOutputs_clk ..), syncWake_heldDue, wakeTarget_standby (by simpa using h), settleOutputs_lst]
  simp only [handSummaries_wsv, placeTerminals_wsv]
  rfl

@[simp] theorem settleOutputs_insts : (settleOutputs before s).lst.insts = s.lst.insts := by rw [settleOutputs_lst]

@[simp] theorem settleOutputs_tx : (settleOutputs before s).lnk.tx = s.lnk.tx := (settleOutputs_replies before s).1

@[simp] theorem settleOutputs_held : (settleOutputs before s).lnk.held = s.lnk.held := (settleOutputs_replies before s).2.1

/-- The Link Port before the attention output is set: only the notice queue may have grown (R191, R202). -/
theorem settleOutputs_lnk : ∃ v, NoticesOnly (handSummaries (placeTerminals s)) v ∧
    (settleOutputs before s).lnk = { v.lnk with attn := !v.lnk.notices.isEmpty || !v.lnk.actionSet.isEmpty } := by
  refine ⟨_, ?_, by simp only [settleOutputs, beginPass_lnk, setAttention, modLnk_lnk]; rfl⟩
  obtain ⟨ns, o, e⟩ := retestStandby_noticesOnly
    (runningCount before != runningCount (handSummaries (placeTerminals s)) ||
      before.lst.earliest != (handSummaries (placeTerminals s)).lst.earliest)
    (syncWake (handSummaries (placeTerminals s)))
  exact ⟨ns, o, by rw [e, syncWake_lnk]⟩

/-- The action set is that of the list (R82). -/
@[simp] theorem settleOutputs_actionSet : (settleOutputs before s).lnk.actionSet = actionIds s := by
  obtain ⟨v, ⟨ns, o, e⟩, h⟩ := settleOutputs_lnk before s
  rw [h, e]
  rfl

theorem postNotice_mem {n : Notice} {u : State} (b : NoticeBody) (h : n ∈ u.lnk.notices) :
    n ∈ (postNotice b u).lnk.notices := by
  obtain ⟨-, e⟩ | ⟨-, e⟩ := postNotice_cases b u
  · rw [e]
    exact List.mem_append_left _ h
  · rw [e]
    exact h

/-- A notice that waits goes on waiting (R202). -/
theorem settleOutputs_notice {n : Notice} (h : n ∈ s.lnk.notices) : n ∈ (settleOutputs before s).lnk.notices := by
  have waits : n ∈ (syncWake (handSummaries (placeTerminals s))).lnk.notices := by
    rw [syncWake_lnk]
    exact h
  simp only [settleOutputs, beginPass_lnk, setAttention, modLnk_lnk]
  unfold retestStandby
  split
  · exact postNotice_mem _ waits
  · exact waits

/-- With no standby wanted there is nothing to retest (R191). -/
theorem retestStandby_unwanted {u : State} (h : u.wsv.standbyWanted = false) (b : Bool) : retestStandby b u = u := by
  unfold retestStandby
  rw [if_neg (by simp [h])]

theorem settleOutputs_wsv_unwanted {s : State} (h : s.wsv.standbyWanted = false) :
    (settleOutputs before s).wsv = s.wsv := by
  simp only [settleOutputs, beginPass_wsv, setAttention_wsv]
  rw [retestStandby_unwanted (by simpa using h)]
  simp

end Outputs

/-! ## The Planner at the end of an event (R93, R94) -/

/-- The Planner with the dirty flag set, where a condition holds (R93). -/
def dirtied (b : Bool) (p : Planner) : Planner :=
  if b then (match p.passState with
    | .idle => { p with dirty := true }
    | .pass => { p with again := true }) else p

theorem setDirtyIf_pln (b : Bool) (s : State) : (setDirtyIf b s).pln = dirtied b s.pln := by
  cases b
  · rfl
  · rfl

theorem setDirty_pln (s : State) : (setDirty s).pln = dirtied true s.pln := rfl

theorem dirtied_dirtied (b c : Bool) (p : Planner) : dirtied c (dirtied b p) = dirtied (b || c) p := by
  cases b
  · rfl
  · cases c
    · rfl
    · cases hp : p.passState <;> simp [dirtied, hp]

/-- An event that has set the dirty flag asks for a pass. -/
theorem settleOutputs_asks {before s u : State} (h : u.pln = dirtied true s.pln) :
    PassAsked s (settleOutputs before u) := by
  unfold settleOutputs
  exact passAsked_beginPass (by rw [setDirty_pln]; simpa using h)

/-- An event that has left the Planner alone leaves it alone at its end. -/
theorem settleOutputs_same_pln {before s u : State} (hS : Settled s) (hp : u.pln = s.pln)
    (hc : u.clk.cstate = s.clk.cstate) : (settleOutputs before u).pln = s.pln := by
  unfold settleOutputs
  dsimp only
  rw [beginPass_settled s _ hS (by simpa using hp) ?_]
  · simpa using hp
  · have time := (time_of_timeOf (syncWake_time (handSummaries (placeTerminals u)))).2.1
    simpa [time] using hc

end Sys2Proof.Machine

/-! PROOFS. CONFIG_SET of one item (R38, R139, R181, R206). -/

namespace Sys2Proof.Machine

-- one theorem after another: many at a time would want a thread each
set_option Elab.async false

open Sys2Proof

/-! ## One setting written -/

/-- The value written is a keepalive code as the settings give it: OFF is 255 (R181). -/
abbrev CodeFormed (v : Nat) : Prop := v = 255 ∨ v ≤ 7

theorem keepCodeOf_formed {v : Nat} (h : CodeFormed v) : keepCodeOf v = if v = 255 then none else some v := by
  unfold keepCodeOf
  split
  · rfl
  · congr 1
    omega

theorem keepCodeNum_keepCodeOf (v : Nat) : keepCodeNum (keepCodeOf v) = if v = 255 then 255 else min 7 v := by
  unfold keepCodeOf
  split <;> rfl

theorem retimeAbandon_noGap {t : Tuner} {s : State} (h : (tunerRun t s).mon ≠ .gap) : retimeAbandon t s = s := if_neg h

/-- What the write of one item leaves of each part of the state (R206): its owner's setting, and for the keepalive code
and the wake lead a request anew. -/
structure SettingWritten (n v : Nat) (s u : State) : Prop where
  bkt : u.bkt = { s.bkt with
    defPriority := if n = 1 then v else s.bkt.defPriority
    defPrePad := if n = 2 then v else s.bkt.defPrePad
    defPostPad := if n = 3 then v else s.bkt.defPostPad }
  wsv : u.wsv = { s.wsv with
    wakeLead := if n = 4 then v else s.wsv.wakeLead
    keepCode := if n = 5 then (if v = 255 then none else some v) else s.wsv.keepCode }
  run : u.run = { s.run with
    gapTol := if n = 6 then v else s.run.gapTol
    abandonLimit := if n = 7 then v else s.run.abandonLimit
    overrunLimit := if n = 8 then v else s.run.overrunLimit }
  pln : u.pln = s.pln
  lst : u.lst = s.lst
  gst : u.gst = s.gst
  cnd : u.cnd = s.cnd
  lnk : u.lnk = s.lnk
  time : timeOf u.clk = timeOf s.clk
  value : settingValue n u = v
  keepalive : n = 5 → s.wsv.host = .awake → heldDelay .keepalive u =
    if v = 255 then none else some { kind := .keepalive, left := 5 * 2 ^ v * Config.unitsPerSecond }

/-- The keepalive interval after its code is written in AWAKE (R181). -/
theorem writeKeepCode_keepalive {v : Nat} (hv : CodeFormed v) {s : State} (h : s.wsv.host = .awake) :
    heldDelay .keepalive (writeKeepCode v s) =
      if v = 255 then none else some { kind := .keepalive, left := 5 * 2 ^ v * Config.unitsPerSecond } := by
  by_cases hoff : v = 255
  · have cancelled : writeKeepCode v s = cancelDelay .keepalive (modWsv (fun w => { w with keepCode := none }) s) := by
      have off : keepCodeOf v = none := (keepCodeOf_formed hv).trans (if_pos hoff)
      unfold writeKeepCode startKeepalive
      simp [h, off]
    rw [cancelled, if_pos hoff, heldDelay_cancelDelay_same]
  · have restarted : writeKeepCode v s = startDelay .keepalive (secs (5 * 2 ^ v))
        (cancelDelay .keepalive (modWsv (fun w => { w with keepCode := some v }) s)) := by
      unfold writeKeepCode startKeepalive
      simp [h, keepCodeOf_formed hv, hoff, keepaliveSecs]
    rw [restarted, if_neg hoff, heldDelay_startDelay_same]
    rfl

theorem writeSetting_written {n v : Nat} {s : State} (h1 : 1 ≤ n) (h8 : n ≤ 8) (hv : n = 5 → CodeFormed v)
    (hw : s.wsv.standbyWanted = false) (hg : ∀ t, (tunerRun t s).mon ≠ .gap) :
    SettingWritten n v s (writeSetting n v s) := by
  have lead : writeWakeLead v s = withdrawDue .wakeDue (modWsv (fun w => { w with wakeLead := v }) s) :=
    retestStandby_unwanted (u := withdrawDue .wakeDue (modWsv (fun w => { w with wakeLead := v }) s)) hw true
  have limit : writeSetting 7 v s = modRun (fun r => { r with abandonLimit := v }) s := by
    show retimeAbandon .b (retimeAbandon .a (modRun (fun r => { r with abandonLimit := v }) s)) = _
    have one : ∀ t, (tunerRun t (modRun (fun r => { r with abandonLimit := v }) s)).mon ≠ .gap := fun t =>
      match t with
      | .a => hg .a
      | .b => hg .b
    rw [retimeAbandon_noGap (one .a), retimeAbandon_noGap (one .b)]
  obtain rfl | rfl | rfl | rfl | rfl | rfl | rfl | rfl :
      n = 1 ∨ n = 2 ∨ n = 3 ∨ n = 4 ∨ n = 5 ∨ n = 6 ∨ n = 7 ∨ n = 8 := by omega
  case inr.inr.inr.inr.inl =>
    have code := keepCodeOf_formed (hv rfl)
    refine ⟨?_, ?_, ?_, ?_, ?_, ?_, ?_, ?_, ?_, ?_, fun _ h => writeKeepCode_keepalive (hv rfl) h⟩
    all_goals simp [writeSetting, writeKeepCode, settingValue, code]
    split
    · simp_all [keepCodeNum]
    · rfl
  case inr.inr.inr.inl =>
    refine ⟨?_, ?_, ?_, ?_, ?_, ?_, ?_, ?_, ?_, ?_, nofun⟩
    all_goals simp [writeSetting, lead, settingValue]
  case inr.inr.inr.inr.inr.inr.inl =>
    rw [limit]
    exact ⟨rfl, rfl, rfl, rfl, rfl, rfl, rfl, rfl, rfl, rfl, nofun⟩
  all_goals exact ⟨rfl, rfl, rfl, rfl, rfl, rfl, rfl, rfl, rfl, rfl, nofun⟩

/-! ## CONFIG_SET of one item (R206) -/

theorem badItems_one {n v : Nat} : badItems [(n, v)] = true ↔ n = 0 ∨ 8 < n := by
  simp [badItems, List.eraseDups_cons]

theorem settingClamp_keepCode (v : Nat) : settingClamp 5 v = if v = 255 then 255 else min 7 v := keepCodeNum_keepCodeOf v

theorem settingClamp_codeFormed (v : Nat) : CodeFormed (settingClamp 5 v) := by
  rw [settingClamp_keepCode]
  split
  · exact .inl rfl
  · exact .inr (Nat.min_le_left 7 v)

/-- The state in which a CONFIG_SET of one item has been answered, before the end of its event. -/
def settingAnswered (tag : Byte) (p : List Byte) (n v : Nat) (s : State) : State :=
  let v' := settingClamp n v
  withReply (replyTo 0x0A tag .ok (decide (v' ≠ v)) (.settings [(n, v')])) (writeSetting n v' (withFrame 0x0A tag p s))

/-- A CONFIG_SET of one item writes it and answers; no waiting start is retried, as no run record and no claim moves. -/
theorem execConfigSet_one {s : State} {tag : Byte} {p : List Byte} {n v : Nat} (hT : Takes p s)
    (hp : parseAll (pItems p.length) p = .ok [(n, v)]) (hn : ¬ (n = 0 ∨ 8 < n))
    (W : SettingWritten n (settingClamp n v) (withFrame 0x0A tag p s)
      (writeSetting n (settingClamp n v) (withFrame 0x0A tag p s))) :
    exec (.configSet tag p) s = .next (settleOutputs s (settingAnswered tag p n v s)) := by
  refine (settledMessage_taken (configSet tag) hT hp).trans (congrArg _ ?_)
  have answers : configSet tag [(n, v)] (withFrame 0x0A tag p s) = settingAnswered tag p n v s := by
    have clamps : [(n, v)].any (fun x => settingClamp x.1 x.2 != x.2) = decide (settingClamp n v ≠ v) := by
      simp [bne, beq_eq_decide]
    refine (if_neg Bool.false_ne_true).trans ((if_neg (mt badItems_one.mp hn)).trans ?_)
    dsimp only
    rw [clamps]
    exact congrArg (fun x => answer 0x0A tag .ok (decide (settingClamp n v ≠ v)) (.settings [(n, x)])
      (writeSetting n (settingClamp n v) (withFrame 0x0A tag p s))) W.value
  have run : (settingAnswered tag p n v s).run = _ := W.run
  rw [answers]
  exact congrArg (settleOutputs s)
    (retryStarts_same_waits (congrArg (fun r => r.tunerA.active) run) (congrArg (fun r => r.tunerB.active) run)
      (congrArg (fun r => r.claims) run))

/-- Settles O45: the owner of the item holds the value, and the end of the event hands on what the write left. -/
theorem configSetWritesOneSetting : Obligations.ConfigSetWritesOneSetting := by
  intro s tag p n v hS hT hp hw hg
  refine ⟨fun hn => ?_, fun h1 h8 => ?_⟩
  · refine (settledMessage_taken (configSet tag) hT hp).trans (congrArg _ ?_)
    simp only [configSet, if_pos (badItems_one.mpr hn)]
    exact settle_refused hS rfl _
  · have W : SettingWritten n (settingClamp n v) (withFrame 0x0A tag p s)
        (writeSetting n (settingClamp n v) (withFrame 0x0A tag p s)) :=
      writeSetting_written h1 h8 (fun h => h ▸ settingClamp_codeFormed v) hw hg
    have unwanted : (settingAnswered tag p n v s).wsv.standbyWanted = false := by
      rw [show (settingAnswered tag p n v s).wsv = _ from W.wsv]
      exact hw
    have wsv := settleOutputs_wsv_unwanted s unwanted
    refine ⟨_, settingClamp n v, execConfigSet_one hT hp (by omega) W, ?_, ?_, ?_, ?_, ?_, ?_, ?_, ?_, ?_, ?_, ?_, ?_, ?_,
      ?_, ?_, ?_, ?_, ?_, ?_⟩
    case refine_1 =>
      rw [settleOutputs_tx]
      exact congrArg (· ++ [_]) (congrArg (fun l => l.tx) (W.lnk : _ = _))
    case refine_6 => exact fun h => h ▸ settingClamp_keepCode v
    case refine_10 => exact (settleOutputs_bkt ..).trans W.bkt
    case refine_11 => exact wsv.trans W.wsv
    case refine_12 => exact (settleOutputs_run ..).trans W.run
    case refine_13 => exact fun h5 awake => (settleOutputs_heldDelay ..).trans (W.keepalive h5 awake)
    case refine_14 =>
      rintro rfl standby
      have host : (settingAnswered tag p 4 v s).wsv.host = .standby :=
        (congrArg (fun w => w.host) W.wsv).trans standby
      rw [settleOutputs_wakeDue s host, settleOutputs_same_lst (u := settingAnswered tag p 4 v s) hS W.lst,
        show (settingAnswered tag p 4 v s).wsv.wakeLead = _ from congrArg (fun w => w.wakeLead) W.wsv]
      rfl
    case refine_15 => exact settleOutputs_same_pln hS W.pln (time_of_timeOf W.time).2.1
    case refine_16 => exact settleOutputs_same_lst hS W.lst
    case refine_17 => exact (settleOutputs_gst ..).trans W.gst
    case refine_18 => exact (settleOutputs_cnd ..).trans W.cnd
    case refine_19 => exact (settleOutputs_count ..).trans (time_of_timeOf W.time).1
    all_goals
      rintro rfl
      rfl

end Sys2Proof.Machine

/-! PROOFS. What the end of a recording does to each part of the state while no gap is open on its tuner (R46, R53, R54, R83,
R138, R148, R149, R161, R162): its record, the run records and monitors, the requests and delays, the Booking Table and
the Planner. -/

namespace Sys2Proof.Machine

-- one theorem after another: many at a time would want a thread each
set_option Elab.async false

open Sys2Proof

/-! ## Requests and delays after a withdrawal (R3, R4) -/

theorem heldDue_none_iff {k : DueKind} {s : State} : heldDue k s = none ↔ ∀ d ∈ s.clk.dues, d.kind ≠ k := by
  simp [heldDue]

/-- Where the requests have only grown fewer, one that was not held is not held. -/
theorem heldDue_none_of_sublist {k : DueKind} {s u : State} (hd : u.clk.dues.Sublist s.clk.dues)
    (h : heldDue k s = none) : heldDue k u = none :=
  heldDue_none_iff.mpr (fun d hm => heldDue_none_iff.mp h d (hd.subset hm))

theorem withdrawDues_dues (ks : List DueKind) (s : State) :
    (withdrawDues ks s).clk.dues = s.clk.dues.filter (fun d => !ks.contains d.kind) := rfl

theorem withdrawDues_sublist (ks : List DueKind) (s : State) : (withdrawDues ks s).clk.dues.Sublist s.clk.dues :=
  List.filter_sublist

theorem heldDue_withdrawDues_mem {k : DueKind} {ks : List DueKind} (h : k ∈ ks) (s : State) :
    heldDue k (withdrawDues ks s) = none := by
  rw [heldDue_none_iff, withdrawDues_dues]
  rintro d hd rfl
  simp [h] at hd

/-! ## A monitor that no gap keeps open (R161) -/

/-- The two states differ in the monitors alone: a monitor, with its tick and its requests, stands or is OFF. -/
structure MonitorsRest (s u : State) : Prop where
  rest : u = { s with clk := { s.clk with dues := u.clk.dues, delays := u.clk.delays }
                      run := { s.run with tunerA := u.run.tunerA, tunerB := u.run.tunerB } }
  dues : u.clk.dues.Sublist s.clk.dues
  delays : ∀ k, (∀ t, k ≠ .lockTick t) → heldDelay k u = heldDelay k s
  active : ∀ t, (tunerRun t u).active = (tunerRun t s).active
  mux : ∀ t, (tunerRun t u).mux = (tunerRun t s).mux
  mon : ∀ t, (tunerRun t u).mon = (tunerRun t s).mon ∨ (tunerRun t u).mon = .off

theorem MonitorsRest.refl (s : State) : MonitorsRest s s :=
  ⟨rfl, .refl _, fun _ _ => rfl, fun _ => rfl, fun _ => rfl, fun _ => .inl rfl⟩

theorem monitorOff_noGap {t : Tuner} {s : State} (h : (tunerRun t s).mon ≠ .gap) :
    monitorOff t s = cancelDelay (.lockTick t) (withdrawDues [.graceEnd t, .abandon t]
      (modTuner t (fun r => { r with mon := .off, tol := 0, drop := none, grace := none, charged := [] }) s)) := by
  unfold monitorOff
  rw [if_neg h]

theorem tunerRun_monitorOff_same {t : Tuner} {s : State} (h : (tunerRun t s).mon ≠ .gap) :
    tunerRun t (monitorOff t s) =
      { tunerRun t s with mon := .off, tol := 0, drop := none, grace := none, charged := [] } := by
  rw [monitorOff_noGap h]
  cases t <;> rfl

theorem tunerRun_monitorOff_other {t x : Tuner} {s : State} (h : (tunerRun t s).mon ≠ .gap) (hx : x ≠ t) :
    tunerRun x (monitorOff t s) = tunerRun x s := by
  rw [monitorOff_noGap h]
  cases t <;> cases x <;> first | rfl | exact absurd rfl hx

theorem monitorOff_rest {t : Tuner} {s : State} (h : (tunerRun t s).mon ≠ .gap) : MonitorsRest s (monitorOff t s) := by
  refine ⟨?_, ?_, fun k hk => ?_, fun x => ?_, fun x => ?_, fun x => ?_⟩
  case refine_1 =>
    rw [monitorOff_noGap h]
    cases t <;> rfl
  case refine_2 =>
    rw [monitorOff_noGap h]
    exact (withdrawDues_sublist _ _).trans (by rw [modTuner_clk])
  case refine_3 =>
    rw [monitorOff_noGap h, heldDelay_cancelDelay_other (hk t)]
    exact heldDelay_of_delays (by rw [withdrawDues_delays, modTuner_clk]) k
  all_goals
    by_cases hx : x = t
    · subst hx
      simp [tunerRun_monitorOff_same h]
    · simp [tunerRun_monitorOff_other h hx]

theorem monitorCheckOf_rest {i : Inst} {s : State} (h : ∀ t, i.tuner = some t → (tunerRun t s).mon ≠ .gap) :
    MonitorsRest s (monitorCheckOf i s) := by
  unfold monitorCheckOf
  split
  · rename_i t ht
    unfold monitorCheck
    repeat' split
    · exact .refl s
    · exact .refl s
    · exact monitorOff_rest (h t ht)
  · exact .refl s

/-! ## A tuner is left (R138) -/

theorem dropActive_active (k : Nat) (r : TunerRun) : (dropActive k r).active = r.active.filter (fun j => j != k) := by
  unfold dropActive
  split
  · rfl
  · rename_i h
    rw [List.filter_eq_self.mpr]
    intro j hj
    rw [bne_iff_ne]
    rintro rfl
    exact h (List.contains_iff_mem.mpr hj)

/-- The tuner goes idle with the last of its recordings. -/
theorem dropActive_mux {k : Nat} {r : TunerRun} (h : (dropActive k r).active = []) (hm : r.active = [] → r.mux = none) :
    (dropActive k r).mux = none := by
  unfold dropActive at h ⊢
  split at h
  · rename_i hk
    rw [if_pos hk]
    dsimp only at h ⊢
    rw [h]
    rfl
  · rename_i hk
    rw [if_neg hk]
    exact hm h

theorem tunerRun_leaveActive (k : Nat) (t : Tuner) (s : State) : tunerRun t (leaveActive k s) = dropActive k (tunerRun t s) := by
  cases t <;> rfl

/-! ## The Booking Table is handed a recording (R46, R53, R54) -/

/-- A pair that is new always changes the history, a full one too (R53). -/
theorem insertedHistory_ne {e : HistEntry} {h : List HistEntry} (he : e ∉ h) : insertedHistory e h ≠ h := by
  rw [insertedHistory, if_neg he]
  intro same
  exact he (same ▸ List.mem_append_right _ (List.mem_singleton_self e))

/-- The dirty flag is set exactly when the history has changed (R53, R95). -/
theorem insertHistory_pln (e : HistEntry) (s : State) :
    (insertHistory e s).1.pln = dirtied (decide (insertedHistory e s.bkt.history ≠ s.bkt.history)) s.pln := by
  by_cases he : e ∈ s.bkt.history
  · rw [insertHistory_held he, insertedHistory, if_pos he]
    simp [dirtied]
  · rw [decide_eq_true (insertedHistory_ne he)]
    unfold insertHistory
    rw [if_neg (by simpa using he)]
    split <;> exact setDirty_pln _

/-- The history after the Booking Table has been handed a recording that ended DONE under a booking (R54). -/
def handedHistory (b : Booking) (i : Inst) (h : List HistEntry) : List HistEntry :=
  match i.episode with
  | some ep =>
    if 900 ≤ recordedFraction i then insertedHistory { series := historySeries b.part, episode := ep } h else h
  | none => h

/-- The bookings after the Booking Table has been handed a recording that ended DONE under a booking (R46). -/
def handedBookings (b : Booking) (bs : List Booking) : List Booking :=
  match b.part with
  | .event _ _ _ => bs.map (fun x => if x.id = b.id then { x with bstate := .spent } else x)
  | .series _ _ _ | .manual _ => bs

theorem doneTable_none {i : Inst} {s : State} (h : findBooking i.booking s = none) : doneTable i s = s.bkt := by
  rw [doneTable, h]

theorem doneTable_some {i : Inst} {s : State} {b : Booking} (h : findBooking i.booking s = some b) :
    doneTable i s = { s.bkt with
      history := handedHistory b i s.bkt.history, bookings := handedBookings b s.bkt.bookings } := by
  rw [doneTable, h]
  cases hp : b.part <;> simp only [handedHistory, handedBookings, insertedHistory, historySeries, hp] <;> rfl

/-- While the recording is held its booking stays, SPENT or not (R47). -/
theorem removeSpent_carried {bid : Nat} {s : State} (h : ∃ j ∈ s.lst.insts, j.booking = bid) : removeSpent bid s = s := by
  unfold removeSpent
  rw [if_pos (by simpa using h)]

/-- The first hand-off: the pair of the recording's episode is inserted where its fraction suffices (R54). -/
def pairStored (b : Booking) (i : Inst) (s : State) : State :=
  match i.episode with
  | some ep =>
    if Config.historyFraction ≤ recordedFraction i then
      (insertHistory { series := historySeries b.part, episode := ep } s).1
    else s
  | none => s

theorem handDone_some {i : Inst} {s : State} {b : Booking} (h : findBooking i.booking s = some b) :
    handDone i (recordedFraction i) s =
      match b.part with
      | .event _ _ _ => removeSpent b.id (makeSpent b.id (pairStored b i s))
      | _ => pairStored b i s := by
  rw [handDone, h]
  rfl

section PairStored

variable (b : Booking) (i : Inst) (s : State)

theorem pairStored_lst : (pairStored b i s).lst = s.lst := by
  unfold pairStored
  repeat' split
  all_goals simp

theorem pairStored_bkt : (pairStored b i s).bkt = { s.bkt with history := handedHistory b i s.bkt.history } := by
  unfold pairStored handedHistory
  cases i.episode with
  | none => rfl
  | some ep =>
    dsimp only [Config.historyFraction]
    split
    · exact insertHistory_bkt _ s
    · rfl

theorem pairStored_pln : (pairStored b i s).pln =
    dirtied (decide (handedHistory b i s.bkt.history ≠ s.bkt.history)) s.pln := by
  unfold pairStored handedHistory
  cases i.episode with
  | none => simp [dirtied]
  | some ep =>
    dsimp only [Config.historyFraction]
    split
    · exact insertHistory_pln _ s
    · simp [dirtied]

end PairStored

/-- What the hand-off writes, while the recording is held (R46, R54, R95). -/
theorem handDone_writes {i : Inst} {s : State} (h : ∃ j ∈ s.lst.insts, j.booking = i.booking) :
    (handDone i (recordedFraction i) s).bkt = doneTable i s ∧
      (handDone i (recordedFraction i) s).pln =
        dirtied (decide ((doneTable i s).history ≠ s.bkt.history)) s.pln := by
  cases hb : findBooking i.booking s with
  | none =>
    rw [doneTable_none hb, handDone, hb]
    simp [dirtied]
  | some b =>
    obtain ⟨-, same⟩ := findBooking_some hb
    have carried : ∃ j ∈ (makeSpent b.id (pairStored b i s)).lst.insts, j.booking = b.id := by
      rw [show (makeSpent b.id (pairStored b i s)).lst = _ from pairStored_lst b i s, same]
      exact h
    rw [handDone_some hb, doneTable_some hb]
    dsimp only
    rw [← pairStored_pln]
    cases hp : b.part with
    | event key last held =>
      dsimp only
      rw [removeSpent_carried carried]
      refine ⟨?_, rfl⟩
      simp [makeSpent, pairStored_bkt, handedBookings, hp]
    | series ref scope newOnly =>
      refine ⟨?_, rfl⟩
      simp [pairStored_bkt, handedBookings, hp]
    | manual part =>
      refine ⟨?_, rfl⟩
      simp [pairStored_bkt, handedBookings, hp]

end Sys2Proof.Machine

/-! PROOFS. The moves of a recording out of its state while no gap is open on its tuner: it ends (R83), it enters STOPPING
(R148), or a failure of the host interrupts it (R162). -/

namespace Sys2Proof.Machine

-- one theorem after another: many at a time would want a thread each
set_option Elab.async false

open Sys2Proof

/-- No gap is open on the tuner the recording holds. -/
abbrev NoGapOn (i : Inst) (s : State) : Prop := ∀ t, i.tuner = some t → (tunerRun t s).mon ≠ .gap

/-- One recording has moved; beside its record, the run records, the requests and delays, the notices, the Booking Table
and the Planner, nothing has. Monitors may have turned OFF, and only the recording's own confirm timeouts may be new. -/
structure Moved (k : Nat) (f : Inst → Inst) (s u : State) : Prop where
  lst : u.lst = (modInst k f s).lst
  cnd : u.cnd = s.cnd
  gst : u.gst = s.gst
  wsv : u.wsv = s.wsv
  claims : u.run.claims = s.run.claims
  time : timeOf u.clk = timeOf s.clk
  notices : NoticesOnly s u
  mon : ∀ t, (tunerRun t u).mon = (tunerRun t s).mon ∨ (tunerRun t u).mon = .off
  dues : u.clk.dues.Sublist s.clk.dues
  delays : ∀ d, d ≠ .startConfirm k → d ≠ .stopConfirm k → (∀ t, d ≠ .lockTick t) → heldDelay d u = heldDelay d s

/-- A recording is active on no tuner, and holds no request and no delay of its own (R83, R138, R162). -/
structure Gone (k : Nat) (s u : State) : Prop where
  active : ∀ t, (tunerRun t u).active = (tunerRun t s).active.filter (fun j => j != k)
  idle : ∀ t, (tunerRun t u).active = [] → ((tunerRun t s).active = [] → (tunerRun t s).mux = none) →
    (tunerRun t u).mux = none
  start : heldDelay (.startConfirm k) u = none
  stop : heldDelay (.stopConfirm k) u = none
  own : ∀ d ∈ instDues k, heldDue d u = none

/-- The hand-offs: only notices, the Booking Table and the Planner differ (R85, R95). -/
structure HandsOff (v u : State) : Prop where
  clk : u.clk = v.clk
  gst : u.gst = v.gst
  lst : u.lst = v.lst
  run : u.run = v.run
  cnd : u.cnd = v.cnd
  wsv : u.wsv = v.wsv
  notices : NoticesOnly v u

theorem HandsOff.refl (v : State) : HandsOff v v := ⟨rfl, rfl, rfl, rfl, rfl, rfl, .refl v⟩

theorem HandsOff.trans {v u x : State} (h : HandsOff v u) (g : HandsOff u x) : HandsOff v x :=
  ⟨g.clk.trans h.clk, g.gst.trans h.gst, g.lst.trans h.lst, g.run.trans h.run, g.cnd.trans h.cnd, g.wsv.trans h.wsv,
    h.notices.trans g.notices⟩

theorem HandsOff.moved {k : Nat} {f : Inst → Inst} {s v u : State} (h : HandsOff v u) (m : Moved k f s v) :
    Moved k f s u where
  lst := h.lst.trans m.lst
  cnd := h.cnd.trans m.cnd
  gst := h.gst.trans m.gst
  wsv := h.wsv.trans m.wsv
  claims := by rw [h.run, m.claims]
  time := by rw [h.clk, m.time]
  notices := m.notices.trans h.notices
  mon t := by
    rw [tunerRun_of_run h.run]
    exact m.mon t
  dues := by
    rw [h.clk]
    exact m.dues
  delays d h1 h2 h3 := (heldDelay_of_delays (congrArg (fun c => c.delays) h.clk) d).trans (m.delays d h1 h2 h3)

theorem Gone.congr {k : Nat} {s v u : State} (g : Gone k s v) (hc : u.clk = v.clk) (hr : u.run = v.run) : Gone k s u where
  active t := by rw [tunerRun_of_run hr, g.active]
  idle t := by
    rw [tunerRun_of_run hr]
    exact g.idle t
  start := (heldDelay_of_delays (congrArg (fun c => c.delays) hc) _).trans g.start
  stop := (heldDelay_of_delays (congrArg (fun c => c.delays) hc) _).trans g.stop
  own d hd := (heldDue_of_clk hc d).trans (g.own d hd)

theorem HandsOff.gone {k : Nat} {s v u : State} (h : HandsOff v u) (g : Gone k s v) : Gone k s u := g.congr h.clk h.run

theorem setDirtyIf_handsOff (b : Bool) (v : State) : HandsOff v (setDirtyIf b v) := by
  cases b
  · exact .refl v
  · exact ⟨rfl, rfl, rfl, rfl, rfl, rfl, .refl v⟩

theorem handDone_handsOff (j : Inst) (n : Nat) (v : State) : HandsOff v (handDone j n v) :=
  ⟨by simp, by simp, by simp, by simp, by simp, by simp, (handDone_calm j n v).notices⟩

theorem postNotice_handsOff (b : NoticeBody) (v : State) : HandsOff v (postNotice b v) :=
  ⟨by simp, by simp, by simp, by simp, by simp, by simp, (postNotice_calm b v).notices⟩

/-- The dirty flag at a terminal entry (R95). -/
def endsDirty (fin : InstState) (i : Inst) : Bool := fin == .failed || fin == .missed || i.overrun.isSome

/-- A recording has ended: it has gone, the Booking Table has been handed it when it is DONE, and the dirty flag stands as
R95 says. -/
structure Ended (i : Inst) (fin : InstState) (f : Inst → Inst) (s u : State) : Prop where
  moved : Moved i.id f s u
  gone : Gone i.id s u
  bkt : u.bkt = if fin = .done then doneTable (f i) s else s.bkt
  pln : u.pln = dirtied (endsDirty fin i || decide (u.bkt.history ≠ s.bkt.history)) s.pln
  notice : fin ≠ .cancelled → s.lnk.notices.length < 48 →
    ({ body := .outcomeReady fin i.id i.booking, time := s.clk.count } : Notice) ∈ u.lnk.notices

/-- With no gap open on its tuner, a recording that leaves RECORDING is charged nothing (R159). -/
theorem chargeLeaving_noGapOn {k : Nat} {i : Inst} {s : State} (hi : findInst k s = some i) (h : NoGapOn i s) :
    chargeLeaving k s = s := by
  unfold chargeLeaving
  rw [hi]
  dsimp only
  split
  · rename_i t _ ht
    exact if_neg (h t ht)
  · rfl

/-! ## A recording leaves its tuner (R83, R138, R161, R162) -/

/-- The state in which a recording has lost its requests, changed its record and left its tuner and its monitor. -/
def leftTuner (i : Inst) (f : Inst → Inst) (s : State) : State :=
  monitorCheckOf i (leaveActive i.id (modInst i.id f (withdrawInst i.id s)))

section LeftTuner

variable {i : Inst} {f : Inst → Inst} {s : State}

theorem leftTuner_rest (h : NoGapOn i s) :
    MonitorsRest (leaveActive i.id (modInst i.id f (withdrawInst i.id s))) (leftTuner i f s) :=
  monitorCheckOf_rest (fun t ht => by
    rw [leaveActive_mon]
    exact h t ht)

theorem withdrawInst_heldDelay {k : Nat} {d : DelayKind} (h1 : d ≠ .startConfirm k) (h2 : d ≠ .stopConfirm k) (s : State) :
    heldDelay d (withdrawInst k s) = heldDelay d s := by
  rw [withdrawInst, heldDelay_cancelDelay_other h1, heldDelay_cancelDelay_other h2]
  rfl

theorem leftTuner_moved (h : NoGapOn i s) : Moved i.id f s (leftTuner i f s) := by
  have m := leftTuner_rest (f := f) h
  refine ⟨?_, ?_, ?_, ?_, ?_, ?_, ?_, fun t => ?_, ?_, fun d h1 h2 h3 => ?_⟩
  case refine_8 => exact (m.mon t).imp_left (fun e => e.trans (leaveActive_mon i.id t _))
  case refine_9 => exact m.dues.trans (withdrawDues_sublist _ s)
  case refine_10 => exact (m.delays d h3).trans (withdrawInst_heldDelay h1 h2 s)
  all_goals rw [m.rest]
  case refine_7 => exact .refl s
  all_goals rfl

theorem leftTuner_gone (h : NoGapOn i s) : Gone i.id s (leftTuner i f s) := by
  have m := leftTuner_rest (f := f) h
  refine ⟨fun t => ?_, fun t he hm => ?_, ?_, ?_, fun d hd => ?_⟩
  · rw [m.active, tunerRun_leaveActive, dropActive_active]
    rfl
  · rw [m.active, tunerRun_leaveActive] at he
    rw [m.mux, tunerRun_leaveActive]
    exact dropActive_mux he hm
  · exact (m.delays (.startConfirm i.id) nofun).trans (heldDelay_cancelDelay_same _ _)
  · refine (m.delays (.stopConfirm i.id) nofun).trans ?_
    have other : DelayKind.stopConfirm i.id ≠ .startConfirm i.id := nofun
    exact (heldDelay_cancelDelay_other other _).trans (heldDelay_cancelDelay_same _ _)
  · refine heldDue_none_of_sublist m.dues ?_
    exact heldDue_withdrawDues_mem (List.mem_append_left (warningsFor i.id s) hd) s

theorem leftTuner_bkt (h : NoGapOn i s) : (leftTuner i f s).bkt = s.bkt := by
  rw [(leftTuner_rest h).rest]
  rfl

theorem leftTuner_pln (h : NoGapOn i s) : (leftTuner i f s).pln = s.pln := by
  rw [(leftTuner_rest h).rest]
  rfl

end LeftTuner

/-! ## Terminal entry (R83, R85, R95) -/

section Terminate

variable {k : Nat} {i : Inst} {fin : InstState} {c : Cause} {r : Option Nat} {s : State}

/-- The state in which OUTCOME_READY has been posted (R85). -/
def outcomePosted (i : Inst) (fin : InstState) (c : Cause) (r : Option Nat) (s : State) : State :=
  let v := leftTuner i (finished fin c r s.clk.count) s
  if fin = .cancelled then v else postNotice (.outcomeReady fin i.id i.booking) v

theorem outcomePosted_handsOff : HandsOff (leftTuner i (finished fin c r s.clk.count) s) (outcomePosted i fin c r s) := by
  unfold outcomePosted
  dsimp only
  split
  · exact .refl _
  · exact postNotice_handsOff _ _

theorem outcomePosted_bkt (h : NoGapOn i s) : (outcomePosted i fin c r s).bkt = s.bkt := by
  rw [← leftTuner_bkt (f := finished fin c r s.clk.count) h]
  unfold outcomePosted
  dsimp only
  split
  · rfl
  · exact postNotice_bkt _ _

theorem outcomePosted_pln (h : NoGapOn i s) : (outcomePosted i fin c r s).pln = s.pln := by
  rw [← leftTuner_pln (f := finished fin c r s.clk.count) h]
  unfold outcomePosted
  dsimp only
  split
  · rfl
  · exact postNotice_pln _ _

theorem findInst_id (hi : findInst k s = some i) : i.id = k := by
  simpa using List.find?_some hi

theorem mem_of_findInst (hi : findInst k s = some i) : i ∈ s.lst.insts := List.mem_of_find?_eq_some hi

theorem findInst_of_lst {u : State} (h : u.lst = s.lst) (k : Nat) : findInst k u = findInst k s := by
  rw [findInst, findInst, h]

theorem findInst_outcomePosted (hi : findInst k s = some i) (h : NoGapOn i s) :
    findInst i.id (outcomePosted i fin c r s) = some (finished fin c r s.clk.count i) := by
  obtain rfl := findInst_id hi
  have lst := (outcomePosted_handsOff (fin := fin) (c := c) (r := r)).moved (leftTuner_moved h) |>.lst
  rw [findInst_of_lst lst, findInst_modInst_same i.id (finished fin c r s.clk.count) (fun _ => rfl), hi]
  rfl

/-- Where the queue has room, OUTCOME_READY waits in it (R85, R202). -/
theorem outcomePosted_notice (h : NoGapOn i s) (hc : fin ≠ .cancelled) (hq : s.lnk.notices.length < 48) :
    ({ body := .outcomeReady fin i.id i.booking, time := s.clk.count } : Notice) ∈
      (outcomePosted i fin c r s).lnk.notices := by
  have same : (leftTuner i (finished fin c r s.clk.count) s).lnk = s.lnk := by
    rw [(leftTuner_rest h).rest]
    rfl
  have count := (time_of_timeOf (leftTuner_moved (f := finished fin c r s.clk.count) h).time).1
  unfold outcomePosted
  dsimp only
  rw [if_neg hc]
  obtain ⟨-, e⟩ | ⟨full, -⟩ := postNotice_cases (.outcomeReady fin i.id i.booking)
    (leftTuner i (finished fin c r s.clk.count) s)
  · rw [e, count]
    exact List.mem_append_right _ (List.mem_singleton_self _)
  · rw [same] at full
    exact absurd hq (Nat.not_lt.mpr full)

/-- Terminal entry, but for the hand-off of a DONE recording. -/
theorem terminate_eq (hi : findInst k s = some i) (h : NoGapOn i s) :
    terminate k fin c r s = setDirtyIf (endsDirty fin i) (if fin = .done then
      handDone (finished fin c r s.clk.count i) (recordedFraction (finished fin c r s.clk.count i))
        (outcomePosted i fin c r s)
      else outcomePosted i fin c r s) := by
  obtain rfl := findInst_id hi
  have found := findInst_outcomePosted (fin := fin) (c := c) (r := r) hi h
  unfold terminate
  rw [hi]
  dsimp only
  rw [chargeLeaving_noGapOn hi h]
  split
  · rename_i j hj
    obtain rfl : j = finished .done c r s.clk.count i := Option.some.inj (hj.symm.trans found)
    rfl
  · rename_i other
    rw [if_neg (fun e => other _ e found)]
    rfl

theorem doneTable_congr {j : Inst} {v : State} (h : v.bkt = s.bkt) : doneTable j v = doneTable j s := by
  simp only [doneTable, findBooking, h]

/-- What a terminal entry does (R83, R85, R95). -/
theorem terminate_ended (hi : findInst k s = some i) (h : NoGapOn i s) :
    Ended i fin (finished fin c r s.clk.count) s (terminate k fin c r s) := by
  have posted := outcomePosted_handsOff (i := i) (fin := fin) (c := c) (r := r) (s := s)
  have bkt := outcomePosted_bkt (fin := fin) (c := c) (r := r) h
  have pln := outcomePosted_pln (fin := fin) (c := c) (r := r) h
  rw [terminate_eq hi h]
  by_cases hd : fin = .done
  · subst hd
    rw [if_pos rfl]
    have off := (posted.trans (handDone_handsOff (finished .done c r s.clk.count i)
      (recordedFraction (finished .done c r s.clk.count i)) _)).trans (setDirtyIf_handsOff (endsDirty .done i) _)
    have carried : ∃ j ∈ (outcomePosted i .done c r s).lst.insts, j.booking = (finished .done c r s.clk.count i).booking :=
      ⟨_, mem_of_findInst (findInst_outcomePosted hi h), rfl⟩
    obtain ⟨wb, wp⟩ := handDone_writes carried
    rw [doneTable_congr bkt] at wb wp
    refine ⟨off.moved (leftTuner_moved h), off.gone (leftTuner_gone h), ?_, ?_, fun hc hq => ?_⟩
    · rw [setDirtyIf_bkt, wb, if_pos rfl]
    · rw [setDirtyIf_pln, wp, dirtied_dirtied, setDirtyIf_bkt, wb, pln, bkt, Bool.or_comm]
    · rw [setDirtyIf_lnk, handDone_lnk]
      exact outcomePosted_notice h hc hq
  · rw [if_neg hd]
    have off := posted.trans (setDirtyIf_handsOff (endsDirty fin i) _)
    refine ⟨off.moved (leftTuner_moved h), off.gone (leftTuner_gone h), ?_, ?_, fun hc hq => ?_⟩
    · rw [setDirtyIf_bkt, bkt, if_neg hd]
    · rw [setDirtyIf_pln, setDirtyIf_bkt, bkt, pln]
      simp
    · rw [setDirtyIf_lnk]
      exact outcomePosted_notice h hc hq

end Terminate

/-! ## Entering STOPPING (R148) -/

/-- A recording has entered STOPPING: it stays active, its stop confirm timeout runs, and the dirty flag is set when it was
in overrun. -/
structure Stops (i : Inst) (reason : StopReason) (s u : State) : Prop where
  moved : Moved i.id (stopped reason s.clk.count) s u
  active : ∀ t, (tunerRun t u).active = (tunerRun t s).active
  idle : ∀ t, (tunerRun t u).active = [] → ((tunerRun t s).active = [] → (tunerRun t s).mux = none) →
    (tunerRun t u).mux = none
  stop : heldDelay (.stopConfirm i.id) u = some { kind := .stopConfirm i.id, left := 30 * Config.unitsPerSecond }
  bkt : u.bkt = s.bkt
  pln : u.pln = dirtied i.overrun.isSome s.pln

theorem enterStopping_stops {k : Nat} {i : Inst} {reason : StopReason} {s : State} (hi : findInst k s = some i)
    (h : NoGapOn i s) (hr : i.state = .recording) : Stops i reason s (enterStopping reason k s) := by
  obtain rfl := findInst_id hi
  let v := startDelay (.stopConfirm i.id) (secs Config.confirmSecs)
    (modInst i.id (stopped reason s.clk.count) (withdrawDues [.stopMoment i.id, .overrunCap i.id, .coreEnd i.id] s))
  have e : enterStopping reason i.id s = setDirtyIf i.overrun.isSome (monitorCheckOf i v) := by
    unfold enterStopping
    rw [hi]
    dsimp only
    rw [if_pos hr, chargeLeaving_noGapOn hi h]
    rfl
  have m : MonitorsRest v (monitorCheckOf i v) := monitorCheckOf_rest h
  have off := setDirtyIf_handsOff i.overrun.isSome (monitorCheckOf i v)
  have moved : Moved i.id (stopped reason s.clk.count) s (monitorCheckOf i v) := by
    refine ⟨?_, ?_, ?_, ?_, ?_, ?_, ?_, m.mon, m.dues.trans (withdrawDues_sublist _ s), fun d h1 h2 h3 => ?_⟩
    case refine_8 => exact (m.delays d h3).trans (heldDelay_startDelay_other h2 _ _)
    all_goals rw [m.rest]
    case refine_7 => exact .refl s
    all_goals rfl
  rw [e]
  refine ⟨off.moved moved, fun t => ?_, fun t he hm => ?_, ?_, ?_, ?_⟩
  · rw [tunerRun_of_run off.run, m.active]
    rfl
  · rw [tunerRun_of_run off.run, m.active] at he
    rw [tunerRun_of_run off.run, m.mux]
    exact hm he
  · refine (heldDelay_of_delays (congrArg (fun c => c.delays) off.clk) _).trans ?_
    exact (m.delays (.stopConfirm i.id) nofun).trans (heldDelay_startDelay_same _ _ _)
  · rw [setDirtyIf_bkt, m.rest]
    rfl
  · rw [setDirtyIf_pln, m.rest]
    rfl

/-! ## A failure of the host (R162) -/

/-- A recording that was with the host no longer is: it has gone, and the dirty flag stands as R95 and R153 say. -/
structure Interrupted (i : Inst) (s u : State) : Prop where
  moved : Moved i.id (lostAt s.clk.count) s u
  gone : Gone i.id s u
  bkt : u.bkt = if (lostAt s.clk.count i).state = .done then doneTable (lostAt s.clk.count i) s else s.bkt
  pln : u.pln = dirtied (i.overrun.isSome || (lostAt s.clk.count i).state == .failed ||
    decide (u.bkt.history ≠ s.bkt.history)) s.pln

theorem modInst_lst_eq (k : Nat) (f : Inst → Inst) (s : State) :
    (modInst k f s).lst = { s.lst with insts := changedAt k f s } := by
  simp only [modInst, modLst_lst, changedAt, beq_iff_eq]

/-- Where ids are distinct, only the record of the recording itself counts. -/
theorem Moved.congr {k : Nat} {i : Inst} {f g : Inst → Inst} {s u : State} (hd : DistinctIds s) (hi : findInst k s = some i)
    (e : f i = g i) (m : Moved k f s u) : Moved k g s u := by
  have same : changedAt k f s = changedAt k g s := List.map_congr_left (fun j hj => by
    split
    · rename_i hk
      rw [mem_eq_of_findInst hd hi hj hk, e]
    · rfl)
  have lst : (modInst k f s).lst = (modInst k g s).lst := by
    rw [modInst_lst_eq, modInst_lst_eq, same]
  exact { m with lst := m.lst.trans lst }

theorem lostAt_running {t : Nat} {i : Inst} (h : i.state = .starting ∨ i.state = .recording) :
    lostAt t i = { closeSegments t i with
      state := .interrupted, overrun := none, stopAt := none, entries := i.entries + 1
      runEnd := some (runEndOf t i), stopFixed := i.stopFixed || i.overrun.isSome } := by
  obtain h | h := h
  all_goals
    unfold lostAt runEndOf
    rw [h]
    dsimp only
    congr 1
    cases i.overrun with
    | some o => rfl
    | none =>
      cases i.stopFixed with
      | false => rfl
      | true =>
        cases i.stopAt with
        | none => rfl
        | some m => cases m <;> rfl

theorem lostAt_stopping {t : Nat} {i : Inst} (h : i.state = .stopping) :
    lostAt t i = if i.stopReason = some .abandoned then finished .failed .abandoned none t i
      else finished .done .hostLost none t i := by
  unfold lostAt
  rw [h]

theorem Ended.interrupted {i : Inst} {fin : InstState} {c : Cause} {r : Option Nat} {s u : State} (hd : DistinctIds s)
    (hi : findInst i.id s = some i) (hf : fin = .failed ∨ fin = .done) (hl : lostAt s.clk.count i = finished fin c r s.clk.count i)
    (e : Ended i fin (finished fin c r s.clk.count) s u) : Interrupted i s u := by
  refine ⟨e.moved.congr hd hi hl.symm, e.gone, ?_, ?_⟩
  · rw [e.bkt, hl]
    rfl
  · rw [e.pln, hl]
    unfold endsDirty
    obtain rfl | rfl := hf
    all_goals cases i.overrun.isSome <;> rfl

/-- One recording at a failure of the host (R162). -/
theorem interruptInst_interrupted {k : Nat} {i : Inst} {s : State} (hd : DistinctIds s) (hi : findInst k s = some i)
    (h : NoGapOn i s) (hw : WithHost i) : Interrupted i s (interruptInst k s) := by
  obtain rfl := findInst_id hi
  by_cases hs : i.state = .stopping
  · have ends : interruptInst i.id s = endStopping .hostLost i s := by
      unfold interruptInst
      rw [hi]
      dsimp only
      rw [hs]
    rw [ends, endStopping]
    have lost := lostAt_stopping (t := s.clk.count) hs
    split
    · rename_i ha
      rw [if_pos ha] at lost
      exact (terminate_ended hi h).interrupted hd hi (.inl rfl) lost
    · rename_i ha
      rw [if_neg ha] at lost
      exact (terminate_ended hi h).interrupted hd hi (.inr rfl) lost
  · have running : i.state = .starting ∨ i.state = .recording := by
      obtain h | h | h := hw
      · exact .inl h
      · exact .inr h
      · exact absurd h hs
    have lost := lostAt_running (t := s.clk.count) running
    let f : Inst → Inst := fun j => { closeSegments s.clk.count j with
      state := .interrupted, overrun := none, stopAt := none, entries := j.entries + 1
      runEnd := some (runEndOf s.clk.count i), stopFixed := i.stopFixed || i.overrun.isSome }
    have breaks : interruptInst i.id s = setDirtyIf i.overrun.isSome (leftTuner i f s) := by
      unfold interruptInst
      rw [hi]
      dsimp only
      rw [chargeLeaving_noGapOn hi h]
      obtain hr | hr := running
      all_goals
        rw [hr]
        rfl
    have off := setDirtyIf_handsOff i.overrun.isSome (leftTuner i f s)
    have same : (setDirtyIf i.overrun.isSome (leftTuner i f s)).bkt = s.bkt := by rw [setDirtyIf_bkt, leftTuner_bkt h]
    rw [breaks]
    refine ⟨(off.moved (leftTuner_moved h)).congr hd hi lost.symm, off.gone (leftTuner_gone h), ?_, ?_⟩
    · rw [same, lost]
      rfl
    · rw [same, setDirtyIf_pln, leftTuner_pln h, lost, decide_eq_false (not_not.mpr rfl)]
      cases i.overrun.isSome <;> rfl

end Sys2Proof.Machine

/-! PROOFS. The events that end one recording (R145, R147, R149, R163): the confirm timeouts, the reports START_FAILED and
STOPPED, and the window close, from the event to its end. -/

namespace Sys2Proof.Machine

-- one theorem after another: many at a time would want a thread each
set_option Elab.async false

open Sys2Proof

/-! ## Before and after the end of the recording -/

/-- An event has begun: beside the delays, the time within the second and what the link has received, nothing has changed. -/
structure Begun (s u : State) : Prop where
  gst : u.gst = s.gst
  bkt : u.bkt = s.bkt
  lst : u.lst = s.lst
  pln : u.pln = s.pln
  run : u.run = s.run
  cnd : u.cnd = s.cnd
  wsv : u.wsv = s.wsv
  time : u.clk.count = s.clk.count ∧ u.clk.cstate = s.clk.cstate ∧ u.clk.offset = s.clk.offset
  link : u.lnk.tx = s.lnk.tx ∧ u.lnk.held = s.lnk.held ∧ u.lnk.notices = s.lnk.notices

theorem withFrame_begun (kind tag : Byte) (p : List Byte) (s : State) : Begun s (withFrame kind tag p s) := by
  refine ⟨rfl, rfl, rfl, rfl, rfl, rfl, rfl, ⟨rfl, rfl, rfl⟩, ⟨rfl, rfl, rfl⟩⟩

/-- A delay that ends is taken, and is held no longer (R4). -/
theorem takeDelay_begun {k : DelayKind} {s : State} (h : Elapses k s) :
    ∃ v, takeDelay k s = some v ∧ Begun s v ∧ heldDelay k v = none := by
  obtain ⟨d, hd, hlt⟩ := h
  have taken := takeDelay_within (by simpa [heldDelay] using hd) hlt
  refine ⟨_, taken, ⟨rfl, rfl, rfl, rfl, rfl, rfl, rfl, ⟨rfl, rfl, rfl⟩, ⟨rfl, rfl, rfl⟩⟩, heldDelay_cancelDelay_same k _⟩

/-- A request that has been delivered is taken (R3). -/
theorem takeDue_delivered {k : DueKind} {s : State} (h : Delivered k s) : takeDue k s = some (withdrawDue k s) := by
  obtain ⟨d, hm, hk, hd⟩ := h
  obtain ⟨-, e⟩ | ⟨no, -⟩ := takeDue_cases k s
  · exact e
  · rw [no d hm hk] at hd
    exact absurd hd Bool.false_ne_true

theorem withdrawDue_begun (k : DueKind) (s : State) : Begun s (withdrawDue k s) :=
  ⟨rfl, rfl, rfl, rfl, rfl, rfl, rfl, ⟨rfl, rfl, rfl⟩, ⟨rfl, rfl, rfl⟩⟩

/-- A delay that ends acts on the state in which it has been taken, and the event settles. -/
theorem onDelay_taken {k : DelayKind} {act : State → State} {s v : State} (h : takeDelay k s = some v) :
    onDelay k act s = settle s (act v) := by
  rw [onDelay, h]

theorem onDue_taken {k : DueKind} {act : State → State} {s v : State} (h : takeDue k s = some v) :
    onDue k act s = settle s (act v) := by
  rw [onDue, h]

/-- What has been put out after an end: conditions, notices and replies. -/
structure PutsOut (v x : State) (rs : List Reply) : Prop where
  clk : x.clk = v.clk
  gst : x.gst = v.gst
  bkt : x.bkt = v.bkt
  lst : x.lst = v.lst
  pln : x.pln = v.pln
  run : x.run = v.run
  wsv : x.wsv = v.wsv
  tx : x.lnk.tx = v.lnk.tx ++ rs
  held : x.lnk.held = v.lnk.held

theorem PutsOut.refl (v : State) : PutsOut v v [] :=
  ⟨rfl, rfl, rfl, rfl, rfl, rfl, rfl, (List.append_nil _).symm, rfl⟩

theorem PutsOut.submit {v x : State} {rs : List Reply} (h : PutsOut v x rs) (c : Condition) :
    PutsOut v (submit c x) rs := by
  obtain ⟨ns, o, e⟩ := submit_noticesOnly c x
  refine ⟨?_, ?_, ?_, ?_, ?_, ?_, ?_, ?_, ?_⟩
  case refine_8 =>
    rw [e]
    exact h.tx
  case refine_9 =>
    rw [e]
    exact h.held
  all_goals simp [h.clk, h.gst, h.bkt, h.lst, h.pln, h.run, h.wsv]

theorem PutsOut.answerOk {v x : State} (h : PutsOut v x []) (kind tag : Byte) (body : ReplyBody) :
    PutsOut v (answerOk kind tag body x) [okTo kind tag body] :=
  ⟨h.clk, h.gst, h.bkt, h.lst, h.pln, h.run, h.wsv,
    congrArg (· ++ [okTo kind tag body]) (h.tx.trans (List.append_nil _)), h.held⟩

/-- One recording has ended in an event since its beginning, with these replies. -/
structure EndedSince (i : Inst) (fin : InstState) (c : Cause) (r : Option Nat) (rs : List Reply) (s x : State) : Prop where
  insts : x.lst.insts = changedAt i.id (finished fin c r s.clk.count) s
  gone : Gone i.id s x
  claims : x.run.claims = s.run.claims
  gst : x.gst = s.gst
  wsv : x.wsv = s.wsv
  time : x.clk.count = s.clk.count ∧ x.clk.cstate = s.clk.cstate ∧ x.clk.offset = s.clk.offset
  tx : x.lnk.tx = s.lnk.tx ++ rs
  held : x.lnk.held = s.lnk.held
  bkt : x.bkt = if fin = .done then doneTable (finished fin c r s.clk.count i) s else s.bkt
  pln : x.pln = dirtied (endsDirty fin i || decide (x.bkt.history ≠ s.bkt.history)) s.pln

theorem Ended.since {i : Inst} {fin : InstState} {c : Cause} {r : Option Nat} {rs : List Reply} {s s1 v x : State}
    (e : Ended i fin (finished fin c r s1.clk.count) s1 v) (b : Begun s s1) (p : PutsOut v x rs) :
    EndedSince i fin c r rs s x := by
  obtain ⟨count, cstate, offset⟩ := b.time
  obtain ⟨count', cstate', offset'⟩ := time_of_timeOf e.moved.time
  obtain ⟨ns, o, lnk⟩ := e.moved.notices
  obtain ⟨tx, held, -⟩ := b.link
  have gone : Gone i.id s1 x := e.gone.congr p.clk p.run
  exact {
    insts := by rw [p.lst, e.moved.lst, modInst_lst_eq, ← count, changedAt, b.lst, changedAt]
    gone := { gone with
      active := fun t => by rw [gone.active, tunerRun_of_run b.run]
      idle := fun t => by
        rw [← tunerRun_of_run b.run]
        exact gone.idle t }
    claims := by rw [p.run, e.moved.claims, b.run]
    gst := by rw [p.gst, e.moved.gst, b.gst]
    wsv := by rw [p.wsv, e.moved.wsv, b.wsv]
    time := by
      rw [p.clk]
      exact ⟨count'.trans count, cstate'.trans cstate, offset'.trans offset⟩
    tx := by rw [p.tx, lnk, ← tx]
    held := by rw [p.held, lnk, ← held]
    bkt := by rw [p.bkt, e.bkt, doneTable_congr b.bkt, b.bkt, count]
    pln := by rw [p.pln, p.bkt, e.pln, b.pln, b.bkt] }

/-! ## The end of the event -/

section Settles

variable {i : Inst} {fin : InstState} {c : Cause} {r : Option Nat} {rs : List Reply} {s x : State}

/-- The record of the recording that has ended stands among those of the others. -/
theorem EndedSince.mem (e : EndedSince i fin c r rs s x) {j : Inst} (hj : j ∈ x.lst.insts) :
    (∃ k ∈ s.lst.insts, k.id = i.id ∧ j = finished fin c r s.clk.count k) ∨ (j ∈ s.lst.insts ∧ j.id ≠ i.id) := by
  rw [e.insts] at hj
  obtain ⟨k, hk, rfl⟩ := List.mem_map.mp hj
  split
  · rename_i same
    exact .inl ⟨k, hk, same, rfl⟩
  · rename_i differ
    exact .inr ⟨hk, differ⟩

/-- Nobody waits once the recording has ended, where nobody else waited. -/
theorem EndedSince.nobodyWaits (e : EndedSince i fin c r rs s x) (hN : NobodyWaits s) (hf : isTerminal fin = true) :
    NobodyWaits x := by
  intro j hj
  obtain ⟨k, -, -, rfl⟩ | ⟨hj, -⟩ := e.mem hj
  · have state : (finished fin c r s.clk.count k).state = fin := rfl
    rw [state]
    constructor
    · rintro rfl
      exact absurd hf Bool.false_ne_true
    · rintro ⟨rfl, -⟩
      exact absurd hf Bool.false_ne_true
  · exact hN j hj

theorem EndedSince.settle_eq (e : EndedSince i fin c r rs s x) (hN : NobodyWaits s) (hf : isTerminal fin = true) :
    settle s x = settleOutputs s x :=
  congrArg (settleOutputs s) (retryStarts_nobody (e.nobodyWaits hN hf) s)

theorem action_of_terminal {st : InstState} (h : isTerminal st = true) : (st == .starting || st == .stopping) = false := by
  cases st <;> first | rfl | exact absurd h Bool.false_ne_true

/-- A recording that has ended asks the host for nothing (R82). -/
theorem EndedSince.not_action (e : EndedSince i fin c r rs s x) (hf : isTerminal fin = true) :
    i.id ∉ (settleOutputs s x).lnk.actionSet := by
  rw [settleOutputs_actionSet]
  intro h
  obtain ⟨j, hj, hs, hid⟩ := mem_idsWhere.mp h
  obtain ⟨k, -, -, rfl⟩ | ⟨-, differ⟩ := e.mem hj
  · have state : (finished fin c r s.clk.count k).state = fin := rfl
    rw [state, action_of_terminal hf] at hs
    exact Bool.false_ne_true hs
  · exact differ hid

theorem EndedSince.leftTuner {t : Tuner} (e : EndedSince i fin c r rs s x) (ha : i.id ∈ (tunerRun t s).active)
    (ho : i.id ∉ (tunerRun (otherTuner t) s).active) : LeftTuner i.id t s (settleOutputs s x) := by
  rw [LeftTuner, tunerRun_of_run (settleOutputs_run s x), tunerRun_of_run (settleOutputs_run s x)]
  refine ⟨e.gone.active t, fun h => e.gone.idle t h (fun none => ?_), ?_⟩
  · rw [none] at ha
    cases ha
  · rw [e.gone.active, List.filter_eq_self]
    intro k hk
    rw [bne_iff_ne]
    rintro rfl
    exact ho hk

theorem EndedSince.tx_eq (e : EndedSince i fin c r rs s x) : (settleOutputs s x).lnk.tx = s.lnk.tx ++ rs := by
  rw [settleOutputs_tx, e.tx]

theorem EndedSince.otherPartsKept (e : EndedSince i fin c r rs s x) (hf : fin ≠ .done) :
    OtherPartsKept s (settleOutputs s x) := by
  obtain ⟨count, cstate, offset⟩ := e.time
  refine ⟨?_, ?_, ?_, ?_, ?_, ?_, ?_, ?_⟩
  · rw [settleOutputs_gst, e.gst]
  · rw [settleOutputs_bkt, e.bkt, if_neg hf]
  · rw [settleOutputs_run, e.claims]
  · rw [settleOutputs_count, count]
  · rw [settleOutputs_cstate, cstate]
  · rw [settleOutputs_offset, offset]
  · rw [settleOutputs_held, e.held]
  · rw [settleOutputs_wsv, e.wsv]

/-- A recording that ends FAILED asks for a pass (R95). -/
theorem EndedSince.passAsked (e : EndedSince i .failed c r rs s x) : PassAsked s (settleOutputs s x) :=
  settleOutputs_asks e.pln

theorem EndedSince.handedDone (e : EndedSince i .done c r rs s x) (hS : Settled s) :
    HandedDone (finished .done c r s.clk.count i) i s (settleOutputs s x) := by
  refine ⟨?_, fun h => settleOutputs_asks ?_, fun hh ho => settleOutputs_same_pln hS ?_ e.time.2.1⟩
  · rw [settleOutputs_bkt, e.bkt, if_pos rfl]
  · rw [e.pln]
    rw [settleOutputs_bkt] at h
    obtain h | h := h
    · simp [h]
    · have late : i.overrun.isSome = true := Option.isSome_iff_ne_none.mpr h
      simp [endsDirty, late]
  · rw [settleOutputs_bkt] at hh
    rw [e.pln, hh, endsDirty, ho, decide_eq_false (not_not.mpr rfl)]
    rfl

end Settles

/-! ## The confirm timeouts (R145, R149) -/

section Timeouts

variable {i : Inst} {s v : State} {t : Tuner}

theorem Begun.findInst (b : Begun s v) (k : Nat) : findInst k v = findInst k s := findInst_of_lst b.lst k

theorem Begun.noGapOn (b : Begun s v) (ht : i.tuner = some t) (hg : (tunerRun t s).mon ≠ .gap) : NoGapOn i v := by
  intro x hx
  obtain rfl : x = t := Option.some.inj (hx.symm.trans ht)
  rw [tunerRun_of_run b.run]
  exact hg

/-- The condition of a failed start is that of R145, whatever the end has written (R145, R147). -/
theorem startFailedCond_eq (b : Begun s v) (ht : i.tuner = some t) : startFailedCond i v = startFailed t i s := by
  have bank : bankOf i = tunerBank t := by rw [bankOf, ht]
  have future : liveFuture i v = i.alts.any (fun k => (recOf k s.gst.recs).any
      (fun r => decide (s.clk.count + 60 < r.start + r.dur))) := by
    rw [liveFuture, b.gst, now, b.time.1]
    rfl
  rw [startFailedCond, bank, future]
  rfl

/-- A start that fails, since the beginning of its event (R145, R147). -/
theorem failStart_since {c : Cause} {r : Option Nat} (b : Begun s v) (hi : findInst i.id s = some i)
    (ht : i.tuner = some t) (hg : (tunerRun t s).mon ≠ .gap) :
    EndedSince i .failed c r [] s (failStart c r i v) ∧
      (failStart c r i v).cnd = (submit (startFailed t i s) s).cnd := by
  have found : findInst i.id v = some i := (b.findInst i.id).trans hi
  have e := terminate_ended (fin := .failed) (c := c) (r := r) found (b.noGapOn ht hg)
  rw [failStart, startFailedCond_eq b ht]
  refine ⟨e.since b ((PutsOut.refl _).submit _), submit_cnd_congr _ (e.moved.cnd.trans b.cnd) ?_⟩
  exact (time_of_timeOf e.moved.time).1.trans b.time.1

end Timeouts

/-- The final state of a STOPPING recording that ends (R149). -/
def stoppingFinal (i : Inst) : InstState := if i.stopReason = some .abandoned then .failed else .done

/-- The cause with which a STOPPING recording ends (R149). -/
def stoppingCause (c : Cause) (i : Inst) : Cause := if i.stopReason = some .abandoned then .abandoned else c

theorem stoppingFinal_terminal (i : Inst) : isTerminal (stoppingFinal i) = true := by
  unfold stoppingFinal
  split <;> rfl

section Stopping

variable {i : Inst} {c : Cause} {rs : List Reply} {s v x : State} {t : Tuner}

theorem endStopping_eq (c : Cause) (i : Inst) (s : State) :
    endStopping c i s = terminate i.id (stoppingFinal i) (stoppingCause c i) none s := by
  unfold endStopping stoppingFinal stoppingCause
  split <;> rfl

theorem endStopping_since (b : Begun s v) (hi : findInst i.id s = some i) (ht : i.tuner = some t)
    (hg : (tunerRun t s).mon ≠ .gap) (p : PutsOut (endStopping c i v) x rs) :
    EndedSince i (stoppingFinal i) (stoppingCause c i) none rs s x := by
  have found : findInst i.id v = some i := (b.findInst i.id).trans hi
  rw [endStopping_eq] at p
  exact (terminate_ended found (b.noGapOn ht hg)).since b p

/-- The log has been left alone by the end itself. -/
theorem endStopping_cnd (b : Begun s v) (hi : findInst i.id s = some i) (ht : i.tuner = some t)
    (hg : (tunerRun t s).mon ≠ .gap) :
    (endStopping c i v).cnd = s.cnd ∧ (endStopping c i v).clk.count = s.clk.count := by
  have found : findInst i.id v = some i := (b.findInst i.id).trans hi
  have e := terminate_ended (fin := stoppingFinal i) (c := stoppingCause c i) (r := none) found (b.noGapOn ht hg)
  rw [endStopping_eq]
  exact ⟨e.moved.cnd.trans b.cnd, (time_of_timeOf e.moved.time).1.trans b.time.1⟩

theorem finished_stopping (c : Cause) (i : Inst) (n : Nat) :
    finished (stoppingFinal i) (stoppingCause c i) none n =
      if i.stopReason = some .abandoned then finished .failed .abandoned none n else finished .done c none n := by
  unfold stoppingFinal stoppingCause
  split <;> rfl

/-- An abandoned recording ends FAILED: the Booking Table stands, and a pass is asked for (R95, R149). -/
theorem EndedSince.abandoned (e : EndedSince i (stoppingFinal i) (stoppingCause c i) none rs s x)
    (h : i.stopReason = some .abandoned) : (settleOutputs s x).bkt = s.bkt ∧ PassAsked s (settleOutputs s x) := by
  rw [stoppingFinal, stoppingCause, if_pos h, if_pos h] at e
  refine ⟨?_, e.passAsked⟩
  rw [settleOutputs_bkt, e.bkt, if_neg nofun]

/-- Any other ends DONE and is handed to the Booking Table (R46, R54, R149). -/
theorem EndedSince.stoppedDone (e : EndedSince i (stoppingFinal i) (stoppingCause c i) none rs s x) (hS : Settled s)
    (h : i.stopReason ≠ some .abandoned) : HandedDone (finished .done c none s.clk.count i) i s (settleOutputs s x) := by
  rw [stoppingFinal, stoppingCause, if_neg h, if_neg h] at e
  exact e.handedDone hS

end Stopping

/-- Settles O29: each timeout is taken, ends its recording and settles. -/
theorem confirmTimeoutsEnd : Obligations.ConfirmTimeoutsEnd := by
  intro s n i t hS hd hN hi ht hg ha ho
  obtain rfl := findInst_id hi
  refine ⟨fun he hs => ?_, fun he hs => ?_⟩
  · obtain ⟨v, taken, b, -⟩ := takeDelay_begun he
    obtain ⟨e, cnd⟩ := failStart_since (c := .startUnconfirmed) (r := none) b hi ht hg
    have run : exec (.startConfirmTimeout i.id) s = .next (settleOutputs s (failStart .startUnconfirmed none i v)) := by
      refine congrArg Host.Outcome.next ((onDelay_taken taken).trans ?_)
      rw [takeStartTimeout, b.findInst, hi]
      dsimp only
      rw [if_pos hs, e.settle_eq hN rfl]
    refine ⟨_, run, ?_, ?_, e.leftTuner ha ho, e.not_action rfl, ?_, e.passAsked, e.otherPartsKept nofun⟩
    · rw [settleOutputs_insts, e.insts]
    · rw [settleOutputs_cnd, cnd]
    · rw [e.tx_eq, List.append_nil]
  · obtain ⟨v, taken, b, -⟩ := takeDelay_begun he
    let stopUnconfirmed := tunerCond t .soft .stopUnconfirmed i
    obtain ⟨log, count⟩ := endStopping_cnd (c := .stopUnconfirmed) b hi ht hg
    have e := endStopping_since (c := .stopUnconfirmed) b hi ht hg ((PutsOut.refl _).submit stopUnconfirmed)
    have run : exec (.stopConfirmTimeout i.id) s =
        .next (settleOutputs s (submit stopUnconfirmed (endStopping .stopUnconfirmed i v))) := by
      refine congrArg Host.Outcome.next ((onDelay_taken taken).trans ?_)
      rw [takeStopTimeout, b.findInst, hi]
      dsimp only
      rw [if_pos hs, bankOf, ht]
      exact e.settle_eq hN (stoppingFinal_terminal i)
    refine ⟨_, run, ?_, ?_, e.abandoned, e.stoppedDone hS, e.leftTuner ha ho,
      e.not_action (stoppingFinal_terminal i), ?_, ?_, ?_, ?_⟩
    · rw [settleOutputs_insts, e.insts, finished_stopping]
    · rw [settleOutputs_cnd, submit_cnd_congr stopUnconfirmed log count]
      rfl
    · rw [e.tx_eq, List.append_nil]
    · rw [settleOutputs_gst, e.gst]
    · rw [settleOutputs_run, e.claims]
    · rw [settleOutputs_count, e.time.1]

end Sys2Proof.Machine

/-! PROOFS. The reports START_FAILED and STOPPED of the host (R147, R149). -/

namespace Sys2Proof.Machine

-- one theorem after another: many at a time would want a thread each
set_option Elab.async false

open Sys2Proof

section Reports

variable {i : Inst} {fin : InstState} {c : Cause} {r : Option Nat} {s x : State} {t : Tuner} {tag : Byte} {p : List Byte}

theorem EndedSince.found (e : EndedSince i fin c r [] s x) (hi : findInst i.id s = some i) :
    findInst i.id x = some (finished fin c r s.clk.count i) := by
  have same : findInst i.id x =
      findInst i.id (modInst i.id (finished fin c r s.clk.count) s) := by
    simp only [findInst, e.insts, modInst_lst_eq]
  rw [same, findInst_modInst_same i.id (finished fin c r s.clk.count) (fun _ => rfl), hi]
  rfl

/-- The answer to a report says with which state the recording ended (R147, R149). -/
theorem EndedSince.reported (e : EndedSince i fin c r [] s x) (hi : findInst i.id s = some i) (tag : Byte) :
    EndedSince i fin c r [okTo 0x38 tag (.report fin)] s (answerReport tag i.id x) := by
  rw [answerReport, e.found hi]
  exact { e with
    gone := e.gone.congr rfl rfl
    tx := congrArg (· ++ _) (e.tx.trans (List.append_nil _)) }

/-- A report that finds its recording in the hands of the host, and not given up, is judged by the state (R150). -/
theorem gaveUp_eq_false (ho : i.outcome = none) (hs : i.state ≠ .cancelled) : gaveUp i = false := by
  simp [gaveUp, ho, hs]

/-- Whether STOPPED_EARLY is logged: the stop moment is open or lies ahead (R149). -/
theorem stopsEarly_iff {n : Nat} : stopsEarly i n = true ↔ i.stopAt = some .opened ∨ ∃ m, i.stopAt = some (.at m) ∧ n < m := by
  unfold stopsEarly
  cases i.stopAt with
  | none => simp
  | some m => cases m <;> simp

/-- A recording the host has stopped, since the beginning of its event (R149). -/
theorem takeHostStop_since {v : State} (b : Begun s v) (hi : findInst i.id s = some i) (ht : i.tuner = some t)
    (hg : (tunerRun t s).mon ≠ .gap) :
    EndedSince i .done .hostStop none [] s (takeHostStop i v) ∧
      (takeHostStop i v).cnd = if stopsEarly i s.clk.count = true then
        (submit (tunerCond t .deferred .stoppedEarly i) s).cnd else s.cnd := by
  have e := terminate_ended (fin := .done) (c := .hostStop) (r := none) ((b.findInst i.id).trans hi) (b.noGapOn ht hg)
  have bank : bankOf i = tunerBank t := by rw [bankOf, ht]
  have count : now v = s.clk.count := b.time.1
  have log : (terminate i.id .done .hostStop none v).cnd = s.cnd := e.moved.cnd.trans b.cnd
  rw [takeHostStop, count, bank]
  split
  · exact ⟨e.since b ((PutsOut.refl _).submit _),
      submit_cnd_congr _ log ((time_of_timeOf e.moved.time).1.trans b.time.1)⟩
  · exact ⟨e.since b (PutsOut.refl _), log⟩

end Reports

/-- Settles O31: each report that is taken ends its recording, answers and settles. -/
theorem failedAndStoppedReportsEnd : Obligations.FailedAndStoppedReportsEnd := by
  intro s tag p n i t hS hd hN hT hi hno ht hg ha ho
  obtain rfl := findInst_id hi
  have b := withFrame_begun 0x38 tag p s
  refine ⟨fun hp => ?_, fun c hp hc hs => ?_, fun hp hs => ?_, fun hp hs => ?_⟩
  · refine (settledMessage_taken (recReport tag) hT hp).trans (congrArg _ ?_)
    rw [recReport, if_pos rfl]
    exact settle_refused hS rfl _
  · obtain ⟨f, cnd⟩ := failStart_since (c := .startFailed) (r := some c) b hi ht hg
    have e := f.reported hi tag
    have run : exec (.recReportStartFailed tag p) s = .next (settleOutputs s
        (answerReport tag i.id (failStart .startFailed (some c) i (withFrame 0x38 tag p s)))) := by
      refine (settledMessage_taken (recReport tag) hT hp).trans (congrArg _ ?_)
      rw [← e.settle_eq hN rfl, recReport, if_neg (by simpa using hc), b.findInst, hi]
      dsimp only
      rw [gaveUp_eq_false hno (by rw [hs]; exact nofun), if_neg Bool.false_ne_true, hs]
    refine ⟨_, run, ?_, ?_, e.leftTuner ha ho, e.not_action rfl, ?_, e.tx_eq, e.passAsked, e.otherPartsKept nofun⟩
    · rw [settleOutputs_insts, e.insts]
    · rw [settleOutputs_cnd]
      exact cnd
    · rw [settleOutputs_heldDelay, e.gone.start]
  · have f := endStopping_since (c := .reportedStop) b hi ht hg (PutsOut.refl _)
    have e := f.reported hi tag
    have run : exec (.recReportStopped tag p) s = .next (settleOutputs s
        (answerReport tag i.id (endStopping .reportedStop i (withFrame 0x38 tag p s)))) := by
      refine (settledMessage_taken (recReport tag) hT hp).trans (congrArg _ ?_)
      rw [← e.settle_eq hN (stoppingFinal_terminal i), recReport, if_neg nofun, b.findInst, hi]
      dsimp only
      rw [gaveUp_eq_false hno (by rw [hs]; exact nofun), if_neg Bool.false_ne_true, hs]
    refine ⟨_, run, ?_, e.leftTuner ha ho, e.not_action (stoppingFinal_terminal i), ?_, e.tx_eq, e.abandoned,
      e.stoppedDone hS, ?_, ?_, ?_, ?_⟩
    · rw [settleOutputs_insts, e.insts, finished_stopping]
    · rw [settleOutputs_heldDelay, e.gone.stop]
    · rw [settleOutputs_cnd]
      exact (endStopping_cnd b hi ht hg).1
    · rw [settleOutputs_gst, e.gst]
    · rw [settleOutputs_run, e.claims]
    · rw [settleOutputs_count, e.time.1]
  · obtain ⟨f, cnd⟩ := takeHostStop_since b hi ht hg
    have e := f.reported hi tag
    have run : exec (.recReportStopped tag p) s = .next (settleOutputs s
        (answerReport tag i.id (takeHostStop i (withFrame 0x38 tag p s)))) := by
      refine (settledMessage_taken (recReport tag) hT hp).trans (congrArg _ ?_)
      rw [← e.settle_eq hN rfl, recReport, if_neg nofun, b.findInst, hi]
      dsimp only
      rw [gaveUp_eq_false hno (by rw [hs]; exact nofun), if_neg Bool.false_ne_true, hs]
    refine ⟨_, run, ?_, e.leftTuner ha ho, e.tx_eq, e.handedDone hS, fun early => ?_, fun late => ?_, ?_, ?_, ?_⟩
    · rw [settleOutputs_insts, e.insts]
    · rw [settleOutputs_cnd]
      exact cnd.trans (if_pos (stopsEarly_iff.mpr early))
    · obtain ⟨m, hm, hle⟩ := late
      rw [settleOutputs_cnd]
      refine cnd.trans (if_neg (fun early => ?_))
      rw [stopsEarly, hm] at early
      exact absurd (of_decide_eq_true early) (Nat.not_lt.mpr hle)
    · rw [settleOutputs_gst, e.gst]
    · rw [settleOutputs_run, e.claims]
    · rw [settleOutputs_count, e.time.1]

end Sys2Proof.Machine

/-! PROOFS. A yield warning that falls due, and the window close of a waiting resume (R156, R163). -/

namespace Sys2Proof.Machine

-- one theorem after another: many at a time would want a thread each
set_option Elab.async false

open Sys2Proof

/-! ## An event that takes a request and at most posts a notice -/

theorem postNotice_withNotice (b : NoticeBody) (s : State) : postNotice b s = withNotice b s := by
  unfold withNotice
  obtain ⟨h, e⟩ | ⟨h, e⟩ := postNotice_cases b s
  · rw [e, if_pos h]
  · rw [e, if_neg (Nat.not_lt.mpr h)]

/-- Where the list, the run records, the host and the Planner stand, only the attention output follows (R204). -/
theorem settle_attn {s u : State} {k : DueKind} (hS : Settled s) (hk : k ≠ .wakeDue) (hl : u.lst = s.lst)
    (hr : u.run = s.run) (hw : u.wsv = s.wsv) (hp : u.pln = s.pln) (hc : u.clk = (withoutDue k s).clk)
    (ha : u.lnk.actionSet = s.lnk.actionSet) : settle s u = withAttn u := by
  have due : heldDue .wakeDue u = heldDue .wakeDue s :=
    (heldDue_of_clk hc .wakeDue).trans (heldDue_withdrawDue_other hk.symm s)
  rw [settle_base s u hS hl hr hw due ha]
  exact beginPass_settled s (withAttn u) hS hp (congrArg (fun c => c.cstate) hc)

/-- A request that is taken and does nothing is gone. -/
theorem settle_withoutDue {s : State} {k : DueKind} (hS : Settled s) (hk : k ≠ .wakeDue) :
    settle s (withoutDue k s) = withoutDue k s := by
  rw [settle_attn (u := withoutDue k s) hS hk rfl rfl rfl rfl rfl rfl]
  obtain ⟨-, -, -, -, attn, -⟩ := hS
  unfold withAttn withoutDue
  rw [← attn]

/-- A request that is taken and posts a notice is gone, and the attention output follows (R202, R204). -/
theorem settle_posted {s : State} {k : DueKind} (hS : Settled s) (hk : k ≠ .wakeDue) (b : NoticeBody) :
    settle s (postNotice b (withoutDue k s)) = withAttn (withNotice b (withoutDue k s)) := by
  rw [← postNotice_withNotice]
  obtain ⟨-, e⟩ | ⟨-, e⟩ := postNotice_cases b (withoutDue k s)
  all_goals
    rw [e]
    exact settle_attn hS hk rfl rfl rfl rfl rfl rfl

/-! ## The window close (R163) -/

section WindowClose

variable {i : Inst} {s : State}

/-- A recording that was active on no tuner ends without any tuner coming free (R144). -/
theorem EndedSince.settle_inactive {fin : InstState} {c : Cause} {r : Option Nat} {rs : List Reply} {x : State}
    (e : EndedSince i fin c r rs s x) (hn : NotActive i.id s) :
    settle s x = settleOutputs s x ∧ ∀ t, (tunerRun t (settleOutputs s x)).active = (tunerRun t s).active := by
  obtain ⟨na, nb⟩ := hn
  have stands {ks : List Nat} (h : i.id ∉ ks) : ks.filter (fun j => j != i.id) = ks := by
    rw [List.filter_eq_self]
    intro k hk
    rw [bne_iff_ne]
    rintro rfl
    exact h hk
  have a : x.run.tunerA.active = s.run.tunerA.active := (e.gone.active .a).trans (stands na)
  have b : x.run.tunerB.active = s.run.tunerB.active := (e.gone.active .b).trans (stands nb)
  refine ⟨congrArg (settleOutputs s) (retryStarts_same_waits a b e.claims), fun t => ?_⟩
  rw [tunerRun_of_run (settleOutputs_run s x)]
  cases t
  · exact a
  · exact b

end WindowClose

/-- Settles O35: a claim that holds its mark is told of; a waiting resume whose window closes ends. -/
theorem yieldWarningPostsAndWindowCloseEnds : Obligations.YieldWarningPostsAndWindowCloseEnds := by
  refine ⟨fun s n c hS hdel hc => ⟨fun k hk => ?_, fun hk => ?_⟩,
    fun s n i hS hd hn hdel hi hg => ⟨fun hs => ?_, fun hs => ?_⟩⟩
  case refine_1 =>
    refine congrArg Host.Outcome.next ((onDue_taken (takeDue_delivered hdel)).trans ?_)
    have claim : (withdrawDue (.yieldWarning n) s).run.claims.find? (fun x => x.id == n) = some c := hc
    rw [takeYieldWarning, claim]
    dsimp only
    rw [hk]
    dsimp only
    exact settle_posted (k := .yieldWarning n) hS nofun _
  case refine_2 =>
    refine congrArg Host.Outcome.next ((onDue_taken (takeDue_delivered hdel)).trans ?_)
    have claim : (withdrawDue (.yieldWarning n) s).run.claims.find? (fun x => x.id == n) = some c := hc
    rw [takeYieldWarning, claim]
    dsimp only
    rw [hk]
    exact settle_withoutDue (k := .yieldWarning n) hS nofun
  case refine_3 =>
    obtain rfl := findInst_id hi
    have b := withdrawDue_begun (.windowClose i.id) s
    have ends := terminate_ended (fin := .done) (c := .windowClosed) (r := none) ((b.findInst i.id).trans hi) hg
    have e := ends.since b (PutsOut.refl _)
    obtain ⟨settles, active⟩ := e.settle_inactive hn
    have run : exec (.windowClose i.id) s = .next (settleOutputs s
        (terminate i.id .done .windowClosed none (withdrawDue (.windowClose i.id) s))) := by
      refine congrArg Host.Outcome.next ((onDue_taken (takeDue_delivered hdel)).trans ?_)
      rw [takeWindowClose, b.findInst, hi]
      dsimp only
      rw [if_pos hs, settles]
    refine ⟨_, run, ?_, e.handedDone hS, active, ?_, ?_, fun room => settleOutputs_notice _ _ (ends.notice nofun room), ?_,
      ?_, ?_⟩
    · rw [settleOutputs_insts, e.insts]
    · rw [settleOutputs_cnd, ends.moved.cnd]
      rfl
    · rw [e.tx_eq, List.append_nil]
    · rw [settleOutputs_gst, e.gst]
    · rw [settleOutputs_run, e.claims]
    · rw [settleOutputs_count, e.time.1]
  case refine_4 =>
    refine congrArg Host.Outcome.next ((onDue_taken (takeDue_delivered hdel)).trans ?_)
    rw [takeWindowClose, (withdrawDue_begun _ s).findInst, hi]
    dsimp only
    rw [if_neg hs]
    exact settle_withoutDue (k := .windowClose n) hS nofun

end Sys2Proof.Machine

/-! PROOFS. A sweep over recordings: one move after another, each of another recording (R49, R162). -/

namespace Sys2Proof.Machine

-- one theorem after another: many at a time would want a thread each
set_option Elab.async false

open Sys2Proof

/-! ## Steps in a row -/

/-- The states of a fold over ids, with what each of its steps is known to do. -/
inductive Chain (T : Nat → State → State → Prop) : List Nat → State → State → Prop
  | nil (s : State) : Chain T [] s s
  | cons {k : Nat} {ks : List Nat} {s v u : State} (h : T k s v) (rest : Chain T ks v u) : Chain T (k :: ks) s u

theorem Chain.mono {T U : Nat → State → State → Prop} (h : ∀ k s v, T k s v → U k s v) {ks : List Nat} {s u : State}
    (c : Chain T ks s u) : Chain U ks s u := by
  induction c with
  | nil s => exact .nil s
  | cons step _ ih => exact .cons (h _ _ _ step) ih

theorem foldl_chain {step : Nat → State → State} {T : Nat → State → State → Prop} {Inv : List Nat → State → Prop}
    (h : ∀ k ks s, Inv (k :: ks) s → T k s (step k s) ∧ Inv ks (step k s)) {ks : List Nat} {s : State} (hI : Inv ks s) :
    Chain T ks s (ks.foldl (fun acc k => step k acc) s) := by
  induction ks generalizing s with
  | nil => exact .nil s
  | cons k ks ih =>
    obtain ⟨step, rest⟩ := h k ks s hI
    exact .cons step (ih rest)

/-! ## What a sweep needs at each step -/

/-- The sweep has these recordings before it: each still is as it was at the beginning, and no gap is open. -/
structure Sweeps (s0 : State) (ks : List Nat) (s : State) : Prop where
  nodup : ks.Nodup
  distinct : DistinctIds s
  noGap : ∀ t, (tunerRun t s).mon ≠ .gap
  count : s.clk.count = s0.clk.count
  ahead : ∀ k ∈ ks, findInst k s = findInst k s0

/-- A move of the first recording leaves the sweep with the others. -/
theorem Sweeps.moved {s0 s v : State} {k : Nat} {ks : List Nat} {g : Inst → Inst} (h : Sweeps s0 (k :: ks) s)
    (hg : ∀ i, (g i).id = i.id) (m : Moved k g s v) : Sweeps s0 ks v := by
  obtain ⟨first, nodup⟩ := List.nodup_cons.mp h.nodup
  refine ⟨nodup, ?_, fun t => ?_, (time_of_timeOf m.time).1.trans h.count, fun j hj => ?_⟩
  · rw [DistinctIds, m.lst, modInst_ids k g hg]
    exact h.distinct
  · obtain same | off := m.mon t
    · rw [same]
      exact h.noGap t
    · rw [off]
      exact nofun
  · have differ : j ≠ k := fun e => first (e ▸ hj)
    rw [findInst_of_lst m.lst, findInst_modInst_other differ g hg]
    exact h.ahead j (List.mem_cons_of_mem k hj)

/-! ## The whole sweep -/

/-- One step of a sweep: some recordings go, and some wait for the confirmation of their stop. -/
structure MoveStep (g : Inst → Inst) (goes stops : Nat → Bool) (k : Nat) (s v : State) : Prop where
  moved : Moved k g s v
  active : ∀ t, (tunerRun t v).active = (tunerRun t s).active.filter (fun j => !(j == k && goes k))
  idle : ∀ t, (tunerRun t v).active = [] → ((tunerRun t s).active = [] → (tunerRun t s).mux = none) →
    (tunerRun t v).mux = none
  gone : goes k = true → heldDelay (.startConfirm k) v = none ∧ heldDelay (.stopConfirm k) v = none ∧
    ∀ d ∈ instDues k, heldDue d v = none
  stop : stops k = true → heldDelay (.stopConfirm k) v = some { kind := .stopConfirm k, left := 30 * Config.unitsPerSecond }

/-- What a sweep over these recordings has done. -/
structure MovedAll (g : Inst → Inst) (goes stops : Nat → Bool) (ks : List Nat) (s u : State) : Prop where
  lst : u.lst = { s.lst with insts := s.lst.insts.map (fun i => if i.id ∈ ks then g i else i) }
  cnd : u.cnd = s.cnd
  gst : u.gst = s.gst
  wsv : u.wsv = s.wsv
  claims : u.run.claims = s.run.claims
  time : timeOf u.clk = timeOf s.clk
  notices : NoticesOnly s u
  mon : ∀ t, (tunerRun t u).mon = (tunerRun t s).mon ∨ (tunerRun t u).mon = .off
  dues : u.clk.dues.Sublist s.clk.dues
  delays : ∀ d, (∀ k ∈ ks, d ≠ .startConfirm k ∧ d ≠ .stopConfirm k) → (∀ t, d ≠ .lockTick t) →
    heldDelay d u = heldDelay d s
  active : ∀ t, (tunerRun t u).active = (tunerRun t s).active.filter (fun j => !(ks.contains j && goes j))
  idle : ∀ t, (tunerRun t u).active = [] → ((tunerRun t s).active = [] → (tunerRun t s).mux = none) →
    (tunerRun t u).mux = none
  gone : ∀ k ∈ ks, goes k = true → heldDelay (.startConfirm k) u = none ∧ heldDelay (.stopConfirm k) u = none ∧
    ∀ d ∈ instDues k, heldDue d u = none
  stop : ∀ k ∈ ks, stops k = true →
    heldDelay (.stopConfirm k) u = some { kind := .stopConfirm k, left := 30 * Config.unitsPerSecond }

section OneStep

variable {g : Inst → Inst} {goes stops : Nat → Bool} {k : Nat} {i : Inst} {s v : State}

/-- A recording goes. -/
theorem Gone.moveStep (h : Gone k s v) (m : Moved k g s v) (hgo : goes k = true) (hst : stops k = false) :
    MoveStep g goes stops k s v where
  moved := m
  active t := by
    rw [h.active]
    refine List.filter_congr (fun j _ => ?_)
    by_cases hj : j = k
    · subst hj
      simp [hgo]
    · simp [hj, bne]
  idle := h.idle
  gone _ := ⟨h.start, h.stop, h.own⟩
  stop hs := absurd (hst.symm.trans hs) Bool.false_ne_true

theorem filter_stays (hgo : goes k = false) (ks : List Nat) : ks = ks.filter (fun j => !(j == k && goes k)) := by
  simp [hgo]

/-- A recording enters STOPPING, and stays active. -/
theorem Stops.moveStep {reason : StopReason} (h : Stops i reason s v) (m : Moved i.id g s v) (hgo : goes i.id = false) :
    MoveStep g goes stops i.id s v where
  moved := m
  active t := (h.active t).trans (filter_stays hgo _)
  idle := h.idle
  gone hg := absurd (hgo.symm.trans hg) Bool.false_ne_true
  stop _ := h.stop

/-- A recording stands as it stood. -/
theorem moveStep_stands (hd : DistinctIds s) (hi : findInst k s = some i) (hg : g i = i) (hgo : goes k = false)
    (hst : stops k = false) : MoveStep g goes stops k s s where
  moved := by
    have nothing : modInst k (fun j => j) s = s := by
      simp only [modInst, ite_self, List.map_id']
      rfl
    have rests : Moved k (fun j => j) s s := by
      exact ⟨congrArg (fun u => u.lst) nothing.symm, rfl, rfl, rfl, rfl, rfl, .refl s, fun _ => .inl rfl, .refl _,
        fun _ _ _ _ => rfl⟩
    exact rests.congr hd hi hg.symm
  active t := filter_stays hgo _
  idle _ h hm := hm h
  gone hg := absurd (hgo.symm.trans hg) Bool.false_ne_true
  stop hs := absurd (hst.symm.trans hs) Bool.false_ne_true

end OneStep

theorem MovedAll.nil (g : Inst → Inst) (goes stops : Nat → Bool) (s : State) : MovedAll g goes stops [] s s where
  lst := by simp
  cnd := rfl
  gst := rfl
  wsv := rfl
  claims := rfl
  time := rfl
  notices := .refl s
  mon _ := .inl rfl
  dues := .refl _
  delays _ _ _ := rfl
  active t := by simp
  idle _ h hm := hm h
  gone := nofun
  stop := nofun

section Cons

variable {g : Inst → Inst} {goes stops : Nat → Bool} {k : Nat} {ks : List Nat} {s v u : State}

/-- The records after a move and a sweep over others. -/
theorem MoveStep.lst_cons (hg : ∀ i, (g i).id = i.id) (first : k ∉ ks) (m : MoveStep g goes stops k s v)
    (h : u.lst = { v.lst with insts := v.lst.insts.map (fun i => if i.id ∈ ks then g i else i) }) :
    u.lst = { s.lst with insts := s.lst.insts.map (fun i => if i.id ∈ k :: ks then g i else i) } := by
  rw [h, m.moved.lst, modInst_lst_eq, changedAt]
  dsimp only
  rw [List.map_map]
  congr 1
  refine List.map_congr_left (fun i _ => ?_)
  dsimp only [Function.comp]
  by_cases hk : i.id = k
  · subst hk
    simp only [if_true, hg, first, if_false, List.mem_cons_self]
  · simp only [hk, if_false, List.mem_cons, false_or]

/-- A recording that has been dealt with keeps its timeouts through the sweep over the others. -/
theorem MovedAll.confirms (first : k ∉ ks) (h : MovedAll g goes stops ks v u) :
    heldDelay (.startConfirm k) u = heldDelay (.startConfirm k) v ∧
      heldDelay (.stopConfirm k) u = heldDelay (.stopConfirm k) v := by
  refine ⟨h.delays _ (fun j hj => ⟨?_, nofun⟩) nofun, h.delays _ (fun j hj => ⟨nofun, ?_⟩) nofun⟩
  all_goals
    rintro ⟨⟩
    exact first hj

theorem MovedAll.cons (hg : ∀ i, (g i).id = i.id) (first : k ∉ ks) (m : MoveStep g goes stops k s v)
    (h : MovedAll g goes stops ks v u) : MovedAll g goes stops (k :: ks) s u where
  lst := m.lst_cons hg first h.lst
  cnd := h.cnd.trans m.moved.cnd
  gst := h.gst.trans m.moved.gst
  wsv := h.wsv.trans m.moved.wsv
  claims := h.claims.trans m.moved.claims
  time := h.time.trans m.moved.time
  notices := m.moved.notices.trans h.notices
  mon t := by
    obtain same | off := h.mon t
    · rw [same]
      exact m.moved.mon t
    · exact .inr off
  dues := h.dues.trans m.moved.dues
  delays d hd ht := by
    obtain ⟨h1, h2⟩ := hd k (List.mem_cons_self ..)
    rw [h.delays d (fun j hj => hd j (List.mem_cons_of_mem k hj)) ht, m.moved.delays d h1 h2 ht]
  active t := by
    rw [h.active, m.active, List.filter_filter]
    refine List.filter_congr (fun j _ => ?_)
    by_cases hj : j = k
    · subst hj
      simp [first]
    · simp [hj]
  idle t hu hm := h.idle t hu (fun hv => m.idle t hv hm)
  gone j hj hgo := by
    obtain rfl | hj := List.mem_cons.mp hj
    · obtain ⟨h1, h2, h3⟩ := m.gone hgo
      obtain ⟨e1, e2⟩ := h.confirms first
      exact ⟨e1.trans h1, e2.trans h2, fun d hd => heldDue_none_of_sublist h.dues (h3 d hd)⟩
    · exact h.gone j hj hgo
  stop j hj hst := by
    obtain rfl | hj := List.mem_cons.mp hj
    · exact (h.confirms first).2.trans (m.stop hst)
    · exact h.stop j hj hst

end Cons

theorem Chain.movedAll {g : Inst → Inst} {goes stops : Nat → Bool} (hg : ∀ i, (g i).id = i.id) {ks : List Nat}
    {s u : State} (c : Chain (MoveStep g goes stops) ks s u) (hn : ks.Nodup) : MovedAll g goes stops ks s u := by
  induction c with
  | nil s => exact .nil g goes stops s
  | cons step _ ih =>
    obtain ⟨first, nodup⟩ := List.nodup_cons.mp hn
    exact .cons hg first step (ih nodup)

end Sys2Proof.Machine

/-! PROOFS. A failure of the host (R155, R161, R162): the claims go, each recording in its hands is interrupted or ends, and the
monitors turn OFF. -/

namespace Sys2Proof.Machine

-- one theorem after another: many at a time would want a thread each
set_option Elab.async false

open Sys2Proof

/-! ## The claims go (R155) -/

theorem dropClaims_eq (s : State) : ∃ ds ps, ds.Sublist s.clk.dues ∧ ps = dirtied (!s.run.claims.isEmpty) s.pln ∧
    dropClaims s = { s with
      clk := { s.clk with dues := ds }, run := { s.run with claims := [] }, pln := ps } := by
  unfold dropClaims
  split
  · rename_i none
    rw [List.isEmpty_iff] at none
    refine ⟨s.clk.dues, s.pln, .refl _, ?_, ?_⟩
    · rw [none]
      rfl
    · rw [← none]
  · rename_i some
    refine ⟨_, _, List.filter_sublist, ?_, rfl⟩
    rw [Bool.eq_false_of_not_eq_true some]
    rfl

/-! ## The recordings in the hands of the host (R162) -/

/-- The recording with this id is in the hands of the host. -/
def inHostHands (s : State) (k : Nat) : Bool := (findInst k s).any (fun i => decide (WithHost i))

theorem inHostHands_iff {s : State} {k : Nat} : inHostHands s k = true ↔ ∃ i, findInst k s = some i ∧ WithHost i := by
  simp only [inHostHands, Option.any_eq_true, decide_eq_true_eq]

/-- The recording ends DONE at a failure of the host (R162). -/
abbrev EndsDone (i : Inst) : Prop := i.state = .stopping ∧ i.stopReason ≠ some .abandoned

/-- The recording ends FAILED at a failure of the host (R162). -/
abbrev EndsFailed (i : Inst) : Prop := i.state = .stopping ∧ i.stopReason = some .abandoned

/-- One step of the sweep at a failure of the host; `s0` is the state before the sweep. -/
structure LostStep (s0 : State) (k : Nat) (s v : State) : Prop where
  step : MoveStep (lostAt s0.clk.count) (inHostHands s0) (fun _ => false) k s v
  bkt : ∀ i, findInst k s0 = some i →
    v.bkt = if EndsDone i then doneTable (lostAt s0.clk.count i) s else s.bkt
  pln : ∀ i, findInst k s0 = some i → ∃ b, v.pln = dirtied b s.pln ∧
    (WithHost i → i.overrun.isSome = true ∨ EndsFailed i → b = true) ∧
    (v.bkt.history ≠ s.bkt.history → b = true)

@[simp] theorem lostAt_id (t : Nat) (i : Inst) : (lostAt t i).id = i.id := by
  unfold lostAt
  split
  case h_3 => split <;> rfl
  all_goals rfl

/-- What is not in the hands of the host stands as it stood (R162). -/
theorem lostAt_other {t : Nat} {i : Inst} (h : ¬ WithHost i) : lostAt t i = i := by
  unfold lostAt
  cases hs : i.state with
  | starting => exact absurd (.inl hs) h
  | recording => exact absurd (.inr (.inl hs)) h
  | stopping => exact absurd (.inr (.inr hs)) h
  | _ => rfl

theorem lostAt_done_iff {t : Nat} {i : Inst} (h : WithHost i) : (lostAt t i).state = .done ↔ EndsDone i := by
  by_cases hs : i.state = .stopping
  · rw [lostAt_stopping hs]
    by_cases ha : i.stopReason = some .abandoned
    · simp [EndsDone, ha]
    · simp [EndsDone, ha, hs]
  · obtain hr | hr | hr := h
    · simp [lostAt_running (.inl hr), EndsDone, hs]
    · simp [lostAt_running (.inr hr), EndsDone, hs]
    · exact absurd hr hs

theorem interruptInst_other {k : Nat} {i : Inst} {s : State} (hi : findInst k s = some i) (h : ¬ WithHost i) :
    interruptInst k s = s := by
  unfold interruptInst
  rw [hi]
  dsimp only
  cases hs : i.state with
  | starting => exact absurd (.inl hs) h
  | recording => exact absurd (.inr (.inl hs)) h
  | stopping => exact absurd (.inr (.inr hs)) h
  | _ => rfl

theorem interruptInst_lostStep {s0 s : State} {k : Nat} {ks : List Nat} {i : Inst} (h : Sweeps s0 (k :: ks) s)
    (hi : findInst k s0 = some i) : LostStep s0 k s (interruptInst k s) := by
  have found : findInst k s = some i := (h.ahead k (List.mem_cons_self ..)).trans hi
  have hands : inHostHands s0 k = decide (WithHost i) := by rw [inHostHands, hi, Option.any_some]
  by_cases hw : WithHost i
  · have e := interruptInst_interrupted h.distinct found (fun t _ => h.noGap t) hw
    obtain rfl := findInst_id found
    obtain ⟨moved, gone, bkt, pln⟩ := e
    rw [h.count] at moved bkt pln
    refine ⟨gone.moveStep moved (hands.trans (decide_eq_true hw)) rfl, fun j hj => ?_, fun j hj => ⟨_, pln, ?_, ?_⟩⟩
    all_goals obtain rfl : i = j := Option.some.inj (hi.symm.trans hj)
    · simpa only [lostAt_done_iff hw] using bkt
    · rintro - (late | ⟨hs, ha⟩)
      · simp [late]
      · simp [lostAt_stopping hs, ha]
    · intro changed
      simp [changed]
  · rw [interruptInst_other found hw]
    have stands := lostAt_other (t := s0.clk.count) hw
    refine ⟨moveStep_stands h.distinct found stands (hands.trans (decide_eq_false hw)) rfl, fun j hj => ?_,
      fun j hj => ⟨false, rfl, fun hj' => ?_, fun changed => absurd rfl changed⟩⟩
    all_goals obtain rfl : i = j := Option.some.inj (hi.symm.trans hj)
    · rw [if_neg (fun ends => hw (.inr (.inr ends.1)))]
    · exact absurd hj' hw

/-! ## The sweep -/

theorem idsWhere_nodup {s : State} (hd : DistinctIds s) (p : Inst → Bool) : (idsWhere p s).Nodup :=
  (sortBy_perm natLt _).nodup_iff.mpr (hd.sublist ((List.filter_sublist (p := p)).map _))

theorem findInst_of_mem {s : State} (hd : DistinctIds s) {i : Inst} (hi : i ∈ s.lst.insts) : findInst i.id s = some i := by
  cases h : findInst i.id s with
  | none => exact absurd (beq_self_eq_true i.id) (List.find?_eq_none.mp h i hi)
  | some j => rw [mem_eq_of_findInst hd h hi rfl]

/-- The recordings a sweep finds before it. -/
theorem sweeps_idsWhere {s : State} (hd : DistinctIds s) (hg : ∀ t, (tunerRun t s).mon ≠ .gap) (p : Inst → Bool) :
    Sweeps s (idsWhere p s) s := ⟨idsWhere_nodup hd p, hd, hg, rfl, fun _ _ => rfl⟩

theorem mem_idsWhere_found {s : State} (hd : DistinctIds s) {p : Inst → Bool} {k : Nat} (h : k ∈ idsWhere p s) :
    ∃ i ∈ s.lst.insts, findInst k s = some i ∧ p i = true := by
  obtain ⟨i, hi, hp, rfl⟩ := mem_idsWhere.mp h
  exact ⟨i, hi, findInst_of_mem hd hi, hp⟩

/-- The sweep over the running recordings at a failure of the host. -/
def sweepLost (s : State) : State :=
  (idsWhere (fun i => isRunning i.state) s).foldl (fun acc k => interruptInst k acc) s

theorem sweepLost_chain {s : State} (hd : DistinctIds s) (hg : ∀ t, (tunerRun t s).mon ≠ .gap) :
    Chain (LostStep s) (idsWhere (fun i => isRunning i.state) s) s (sweepLost s) := by
  refine foldl_chain (Inv := fun ks v => Sweeps s ks v ∧ ∀ k ∈ ks, ∃ i, findInst k s = some i) (fun k ks v h => ?_)
    ⟨sweeps_idsWhere hd hg _, fun k hk => ?_⟩
  · obtain ⟨sweeps, found⟩ := h
    obtain ⟨i, hi⟩ := found k (List.mem_cons_self ..)
    have step := interruptInst_lostStep sweeps hi
    exact ⟨step, sweeps.moved (lostAt_id _) step.step.moved, fun j hj => found j (List.mem_cons_of_mem k hj)⟩
  · obtain ⟨i, -, hi, -⟩ := mem_idsWhere_found hd hk
    exact ⟨i, hi⟩

section Tables

variable {s0 s u : State} {ks : List Nat}

/-- With nothing that ends DONE the Booking Table stands. -/
theorem Chain.lost_bkt (c : Chain (LostStep s0) ks s u) (found : ∀ k ∈ ks, ∃ i, findInst k s0 = some i)
    (h : ∀ k ∈ ks, ∀ i, findInst k s0 = some i → ¬ EndsDone i) : u.bkt = s.bkt := by
  induction c with
  | nil s => rfl
  | @cons k ks s v u step _ ih =>
    obtain ⟨i, hi⟩ := found k (List.mem_cons_self ..)
    rw [ih (fun j hj => found j (List.mem_cons_of_mem k hj)) (fun j hj => h j (List.mem_cons_of_mem k hj)),
      step.bkt i hi, if_neg (h k (List.mem_cons_self ..) i hi)]

/-- With one recording alone that ends DONE, the Booking Table is handed that one (R46, R54). -/
theorem Chain.lost_bkt_one (c : Chain (LostStep s0) ks s u) (found : ∀ k ∈ ks, ∃ i, findInst k s0 = some i) {k : Nat}
    {i : Inst} (hk : k ∈ ks) (hi : findInst k s0 = some i) (he : EndsDone i) (hn : ks.Nodup)
    (h : ∀ j ∈ ks, j ≠ k → ∀ x, findInst j s0 = some x → ¬ EndsDone x) :
    u.bkt = doneTable (lostAt s0.clk.count i) s := by
  induction c with
  | nil s => cases hk
  | @cons k' ks s v u step rest ih =>
    obtain ⟨first, nodup⟩ := List.nodup_cons.mp hn
    have found' : ∀ j ∈ ks, ∃ i, findInst j s0 = some i := fun j hj => found j (List.mem_cons_of_mem k' hj)
    obtain rfl | hk := List.mem_cons.mp hk
    · have others : ∀ j ∈ ks, ∀ x, findInst j s0 = some x → ¬ EndsDone x := fun j hj =>
        h j (List.mem_cons_of_mem k hj) (fun e => first (e ▸ hj))
      rw [rest.lost_bkt found' others, step.bkt i hi, if_pos he]
    · obtain ⟨x, hx⟩ := found k' (List.mem_cons_self ..)
      have stands : v.bkt = s.bkt := by
        rw [step.bkt x hx, if_neg (h k' (List.mem_cons_self ..) (fun e => first (e ▸ hk)) x hx)]
      rw [ih found' hk nodup (fun j hj => h j (List.mem_cons_of_mem k' hj)), doneTable_congr stands]

/-- The dirty flag is set where a recording was in overrun, where one ends FAILED, and where a pair has entered the history
(R95, R153). -/
theorem Chain.lost_pln (c : Chain (LostStep s0) ks s u) (found : ∀ k ∈ ks, ∃ i, findInst k s0 = some i) :
    ∃ b, u.pln = dirtied b s.pln ∧
      (∀ k ∈ ks, ∀ i, findInst k s0 = some i → WithHost i → i.overrun.isSome = true ∨ EndsFailed i → b = true) ∧
      (u.bkt.history ≠ s.bkt.history → b = true) := by
  induction c with
  | nil s => exact ⟨false, rfl, nofun, fun changed => absurd rfl changed⟩
  | @cons k ks s v u step _ ih =>
    obtain ⟨i, hi⟩ := found k (List.mem_cons_self ..)
    obtain ⟨b, eb, late, changed⟩ := step.pln i hi
    obtain ⟨c, ec, lates, changes⟩ := ih (fun j hj => found j (List.mem_cons_of_mem k hj))
    refine ⟨b || c, by rw [ec, eb, dirtied_dirtied], fun j hj x hx hw ho => ?_, fun hh => ?_⟩
    · obtain rfl | hj := List.mem_cons.mp hj
      · obtain rfl : i = x := Option.some.inj (hi.symm.trans hx)
        rw [late hw ho, Bool.true_or]
      · rw [lates j hj x hx hw ho, Bool.or_true]
    · by_cases same : v.bkt.history = s.bkt.history
      · rw [changes (by rwa [same]), Bool.or_true]
      · rw [changed same, Bool.true_or]

end Tables

/-! ## The whole failure -/

/-- What a failure of the host leaves (R155, R161, R162). -/
structure HostLost (s u : State) : Prop where
  lst : u.lst = { s.lst with insts := s.lst.insts.map (lostAt s.clk.count) }
  cnd : u.cnd = s.cnd
  gst : u.gst = s.gst
  wsv : u.wsv = s.wsv
  claims : u.run.claims = []
  time : timeOf u.clk = timeOf s.clk
  notices : NoticesOnly s u
  off : ∀ t, (tunerRun t u).mon = .off ∧ (tunerRun t u).grace = none
  dues : u.clk.dues.Sublist s.clk.dues
  delays : ∀ d, (∀ k, d ≠ .startConfirm k ∧ d ≠ .stopConfirm k) → (∀ t, d ≠ .lockTick t) →
    heldDelay d u = heldDelay d s
  active : ∀ t, (tunerRun t u).active = (tunerRun t s).active.filter (fun j => !inHostHands s j)
  idle : ∀ t, (tunerRun t u).active = [] → ((tunerRun t s).active = [] → (tunerRun t s).mux = none) →
    (tunerRun t u).mux = none
  gone : ∀ i ∈ s.lst.insts, WithHost i → heldDelay (.startConfirm i.id) u = none ∧
    heldDelay (.stopConfirm i.id) u = none ∧ ∀ d ∈ instDues i.id, heldDue d u = none
  bkt : (∀ i ∈ s.lst.insts, ¬ EndsDone i) → u.bkt = s.bkt
  bktOne : ∀ i ∈ s.lst.insts, EndsDone i → (∀ j ∈ s.lst.insts, j.state = .stopping → j.id = i.id) →
    u.bkt = doneTable (lostAt s.clk.count i) s
  pln : ∃ b, u.pln = dirtied b s.pln ∧ (s.run.claims ≠ [] → b = true) ∧
    (∀ i ∈ s.lst.insts, WithHost i → i.overrun.isSome = true ∨ EndsFailed i → b = true) ∧
    (u.bkt.history ≠ s.bkt.history → b = true)

theorem isRunning_of_withHost {i : Inst} (h : WithHost i) : isRunning i.state = true := by
  obtain h | h | h := h
  all_goals
    rw [h]
    rfl

theorem mem_running {s : State} {i : Inst} (hi : i ∈ s.lst.insts) (h : WithHost i) :
    i.id ∈ idsWhere (fun i => isRunning i.state) s := mem_idsWhere.mpr ⟨i, hi, isRunning_of_withHost h, rfl⟩

/-- What the sweep has done: those in the hands of the host have gone, and none waits for the confirmation of a stop. -/
theorem sweepLost_moved {s : State} (hd : DistinctIds s) (hg : ∀ t, (tunerRun t s).mon ≠ .gap) :
    MovedAll (lostAt s.clk.count) (inHostHands s) (fun _ => false) (idsWhere (fun i => isRunning i.state) s) s
      (sweepLost s) :=
  ((sweepLost_chain hd hg).mono (fun _ _ _ h => h.step)).movedAll (lostAt_id _) (idsWhere_nodup hd _)

theorem MonitorsRest.trans {s v u : State} (h : MonitorsRest s v) (g : MonitorsRest v u) : MonitorsRest s u where
  rest := by rw [g.rest, h.rest]
  dues := g.dues.trans h.dues
  delays d hd := (g.delays d hd).trans (h.delays d hd)
  active t := (g.active t).trans (h.active t)
  mux t := (g.mux t).trans (h.mux t)
  mon t := by
    obtain same | off := g.mon t
    · rw [same]
      exact h.mon t
    · exact .inr off

/-- Both monitors turn OFF (R161). -/
theorem monitorsOff {x : State} (hg : ∀ t, (tunerRun t x).mon ≠ .gap) :
    MonitorsRest x (monitorOff .b (monitorOff .a x)) ∧
      ∀ t, (tunerRun t (monitorOff .b (monitorOff .a x))).mon = .off ∧
        (tunerRun t (monitorOff .b (monitorOff .a x))).grace = none := by
  have differ : Tuner.b ≠ .a := nofun
  have hb : (tunerRun .b (monitorOff .a x)).mon ≠ .gap := by
    rw [tunerRun_monitorOff_other (hg .a) differ]
    exact hg .b
  refine ⟨(monitorOff_rest (hg .a)).trans (monitorOff_rest hb), fun t => ?_⟩
  cases t with
  | a =>
    rw [tunerRun_monitorOff_other hb differ.symm, tunerRun_monitorOff_same (hg .a)]
    exact ⟨rfl, rfl⟩
  | b =>
    rw [tunerRun_monitorOff_same hb]
    exact ⟨rfl, rfl⟩

/-- A failure of the host (R155, R161, R162). -/
theorem interruptHost_lost {s : State} (hd : DistinctIds s) (hg : ∀ t, (tunerRun t s).mon ≠ .gap) :
    HostLost s (interruptHost s) := by
  obtain ⟨ds, ps, hds, hps, e⟩ := dropClaims_eq s
  let s1 : State := { s with clk := { s.clk with dues := ds }, run := { s.run with claims := [] }, pln := ps }
  have runs : ∀ t, tunerRun t s1 = tunerRun t s := fun t => by cases t <;> rfl
  have noGap : ∀ t, (tunerRun t s1).mon ≠ .gap := fun t => by
    rw [runs]
    exact hg t
  have hd1 : DistinctIds s1 := hd
  have m := sweepLost_moved hd1 noGap
  have chain := sweepLost_chain hd1 noGap
  have found : ∀ k ∈ idsWhere (fun i => isRunning i.state) s1, ∃ i, findInst k s1 = some i := fun k hk => by
    obtain ⟨i, -, hi, -⟩ := mem_idsWhere_found hd1 hk
    exact ⟨i, hi⟩
  have gapless : ∀ t, (tunerRun t (sweepLost s1)).mon ≠ .gap := fun t => by
    obtain same | off := m.mon t
    · rw [same]
      exact noGap t
    · rw [off]
      exact nofun
  obtain ⟨r, off⟩ := monitorsOff gapless
  have whole : interruptHost s = monitorOff .b (monitorOff .a (sweepLost s1)) := by
    rw [interruptHost, e]
    rfl
  have bkt : (monitorOff .b (monitorOff .a (sweepLost s1))).bkt = (sweepLost s1).bkt := by rw [r.rest]
  have met {i : Inst} (hi : i ∈ s.lst.insts) (hw : WithHost i) :
      i.id ∈ idsWhere (fun i => isRunning i.state) s1 := mem_running (s := s1) hi hw
  rw [whole]
  refine ⟨?_, ?_, ?_, ?_, ?_, ?_, ?_, off, r.dues.trans (m.dues.trans hds), fun d h1 h2 => ?_, fun t => ?_, fun t he hm => ?_,
    fun i hi hw => ?_, fun none => ?_, fun i hi he one => ?_, ?_⟩
  case refine_1 =>
    rw [r.rest]
    refine m.lst.trans (congrArg (fun is => { s.lst with insts := is }) (List.map_congr_left (fun i hi => ?_)))
    split
    · rfl
    · rename_i unmet
      exact (lostAt_other (fun hw => unmet (met hi hw))).symm
  case refine_2 => rw [r.rest]; exact m.cnd
  case refine_3 => rw [r.rest]; exact m.gst
  case refine_4 => rw [r.rest]; exact m.wsv
  case refine_5 => rw [r.rest]; exact m.claims
  case refine_6 => rw [r.rest]; exact m.time
  case refine_7 => rw [r.rest]; exact m.notices
  case refine_8 => exact (r.delays d h2).trans (m.delays d (fun k _ => h1 k) h2)
  case refine_9 =>
    rw [r.active, m.active, runs]
    refine List.filter_congr (fun j _ => congrArg not ?_)
    by_cases hj : inHostHands s j = true
    · obtain ⟨i, hi, hw⟩ := inHostHands_iff.mp hj
      obtain rfl := findInst_id hi
      rw [List.contains_iff_mem.mpr (met (mem_of_findInst hi) hw), Bool.true_and]
      rfl
    · rw [Bool.eq_false_of_not_eq_true hj]
      exact (congrArg _ (Bool.eq_false_of_not_eq_true hj)).trans (Bool.and_false _)
  case refine_10 =>
    rw [r.active] at he
    rw [r.mux]
    refine m.idle t he ?_
    rwa [runs]
  case refine_11 =>
    obtain ⟨h1, h2, h3⟩ := m.gone i.id (met hi hw) (inHostHands_iff.mpr ⟨i, findInst_of_mem hd hi, hw⟩)
    exact ⟨(r.delays (.startConfirm i.id) nofun).trans h1, (r.delays (.stopConfirm i.id) nofun).trans h2, fun d hd => heldDue_none_of_sublist r.dues (h3 d hd)⟩
  case refine_12 =>
    rw [bkt]
    refine chain.lost_bkt found (fun k hk i hi => none i (mem_of_findInst hi))
  case refine_13 =>
    rw [bkt]
    refine (chain.lost_bkt_one found (met hi (.inr (.inr he.1))) (findInst_of_mem hd hi) he (idsWhere_nodup hd1 _)
      (fun j _ differ x hx ends => differ ?_))
    rw [← findInst_id hx]
    exact one x (mem_of_findInst hx) ends.1
  case refine_14 =>
    obtain ⟨b, eb, late, changed⟩ := chain.lost_pln found
    refine ⟨!s.run.claims.isEmpty || b, ?_, fun claims => ?_, fun i hi hw ho => ?_, fun hh => ?_⟩
    · rw [r.rest]
      refine eb.trans ?_
      rw [show s1.pln = ps from rfl, hps, dirtied_dirtied]
    · simp [claims]
    · rw [late i.id (met hi hw) i (findInst_of_mem hd hi) hw ho, Bool.or_true]
    · rw [bkt] at hh
      rw [changed hh, Bool.or_true]

end Sys2Proof.Machine

/-! PROOFS. The keepalive expires in AWAKE (R155, R161, R162, R183). -/

namespace Sys2Proof.Machine

-- one theorem after another: many at a time would want a thread each
set_option Elab.async false

open Sys2Proof

/-- HOST_HUNG, HARD where recordings are running (R183). -/
def hostHung (n : Nat) : Condition :=
  { bank := .wake, cls := if n = 0 then .soft else .hard, code := .hostHung, iid := none, booking := none }

/-- The state in which HOST_HUNG is logged and the pulse and the wake have begun (R183). -/
def wakeBegun (s : State) : State :=
  modWsv (fun w => { w with host := .waking, attempts := 1, wakeOut := true, reason := .none, standbyWanted := false })
    (startWakeTimeout (beginPulse (submit (hostHung (runningCount s)) s)))

theorem takeKeepalive_awake {s : State} (h : s.wsv.host = .awake) : takeKeepalive s = interruptHost (wakeBegun s) := if_pos h

section WakeBegun

variable {s v : State}

theorem wakeBegun_lst (b : Begun s v) : (wakeBegun v).lst = s.lst := (submit_lst ..).trans b.lst

theorem wakeBegun_run (b : Begun s v) : (wakeBegun v).run = s.run := (submit_run ..).trans b.run

theorem wakeBegun_bkt (b : Begun s v) : (wakeBegun v).bkt = s.bkt := (submit_bkt ..).trans b.bkt

theorem wakeBegun_pln (b : Begun s v) : (wakeBegun v).pln = s.pln := (submit_pln ..).trans b.pln

theorem wakeBegun_gst (b : Begun s v) : (wakeBegun v).gst = s.gst := (submit_gst ..).trans b.gst

theorem wakeBegun_tx (b : Begun s v) : (wakeBegun v).lnk.tx = s.lnk.tx := by
  obtain ⟨ns, o, e⟩ := submit_noticesOnly (hostHung (runningCount v)) v
  exact (congrArg (fun l => l.tx) e).trans b.link.1

theorem wakeBegun_count (b : Begun s v) : (wakeBegun v).clk.count = s.clk.count :=
  (congrArg (fun c => c.count) (submit_clk ..)).trans b.time.1

theorem wakeBegun_cnd (b : Begun s v) : (wakeBegun v).cnd = (submit (hostHung (runningCount s)) s).cnd := by
  have same : runningCount v = runningCount s := by rw [runningCount, runningCount, b.lst]
  exact (congrArg (fun n => (submit (hostHung n) v).cnd) same).trans (submit_cnd_congr _ b.cnd b.time.1)

theorem wakeBegun_wsv (b : Begun s v) : (wakeBegun v).wsv = { s.wsv with
    host := .waking, attempts := 1, wakeOut := true, reason := .none, standbyWanted := false, resetOut := true } := by
  rw [← b.wsv, ← submit_wsv (hostHung (runningCount v)) v]
  rfl

/-- The delays of the wake that begins. -/
theorem wakeBegun_delays (h : heldDelay .keepalive v = none) :
    heldDelay .keepalive (wakeBegun v) = none ∧
      heldDelay .wakeTimeout (wakeBegun v) = some { kind := .wakeTimeout, left := 180 * Config.unitsPerSecond } ∧
      heldDelay .resetPulse (wakeBegun v) = some { kind := .resetPulse, left := Config.pulseUnits } := by
  let x := modWsv (fun w => { w with resetOut := true }) (submit (hostHung (runningCount v)) v)
  have held (k : DelayKind) : heldDelay k (wakeBegun v) = heldDelay k
    (startDelay .wakeTimeout (secs Config.wakeSecs) (startDelay .resetPulse Config.pulseUnits x)) := rfl
  have silent : heldDelay .keepalive x = none := by
    rw [← h]
    exact heldDelay_of_delays (congrArg (fun c => c.delays) (submit_clk ..)) _
  have k1 : DelayKind.keepalive ≠ .wakeTimeout := nofun
  have k2 : DelayKind.keepalive ≠ .resetPulse := nofun
  have k3 : DelayKind.resetPulse ≠ .wakeTimeout := nofun
  refine ⟨?_, ?_, ?_⟩
  · rw [held, heldDelay_startDelay_other k1, heldDelay_startDelay_other k2, silent]
  · rw [held, heldDelay_startDelay_same]
    rfl
  · rw [held, heldDelay_startDelay_other k3, heldDelay_startDelay_same]

end WakeBegun

/-- Settles O36: the wake begins, the host's work is lost, and the event settles with nobody to retry. -/
theorem keepaliveExpiryWakesAndInterrupts : Obligations.KeepaliveExpiryWakesAndInterrupts := by
  intro s hS hd hg he awake
  obtain ⟨v, taken, b, silent⟩ := takeDelay_begun he
  obtain ⟨keep, wake, pulse⟩ := wakeBegun_delays silent
  have lst := wakeBegun_lst b
  have run := wakeBegun_run b
  have wsv := wakeBegun_wsv b
  have count := wakeBegun_count b
  have bkt := wakeBegun_bkt b
  have e : HostLost (wakeBegun v) (interruptHost (wakeBegun v)) :=
    interruptHost_lost (by rwa [DistinctIds, lst]) (fun t => by rw [tunerRun_of_run run]; exact hg t)
  have lost : (interruptHost (wakeBegun v)).wsv = _ := e.wsv.trans wsv
  have asleep : hostAwake (interruptHost (wakeBegun v)) = false := by
    rw [hostAwake, lost]
    rfl
  have event : exec .keepaliveExpiry s = .next (settleOutputs s (interruptHost (wakeBegun v))) := by
    refine congrArg Host.Outcome.next ((onDelay_taken taken).trans ?_)
    rw [takeKeepalive_awake (by rw [b.wsv, awake]), settle, retryStarts_asleep asleep]
  have delay (k : DelayKind) (h1 : ∀ n, k ≠ .startConfirm n ∧ k ≠ .stopConfirm n) (h2 : ∀ t, k ≠ .lockTick t) :
      heldDelay k (settleOutputs s (interruptHost (wakeBegun v))) = heldDelay k (wakeBegun v) := by
    rw [settleOutputs_heldDelay, e.delays k h1 h2]
  refine ⟨_, event, ?_, ?_, ?_, ?_, ?_, ?_, fun t => ?_, ?_, fun t hands idle => ?_, fun i hi hw => ⟨fun k hk => ?_, ?_, ?_⟩,
    fun none => ?_, fun i hi hs one => ?_, fun asks => ?_, ?_, ?_, ?_⟩
  case refine_1 => rw [settleOutputs_wsv_unwanted s (by rw [lost]), lost]
  case refine_2 => rw [delay .keepalive (fun _ => ⟨nofun, nofun⟩) nofun, keep]
  case refine_3 => rw [delay .wakeTimeout (fun _ => ⟨nofun, nofun⟩) nofun, wake]
  case refine_4 => rw [delay .resetPulse (fun _ => ⟨nofun, nofun⟩) nofun, pulse]
  case refine_5 =>
    rw [settleOutputs_cnd, e.cnd, wakeBegun_cnd b]
    rfl
  case refine_6 => rw [settleOutputs_run, e.claims]
  case refine_7 =>
    rw [tunerRun_of_run (settleOutputs_run ..)]
    exact e.off t
  case refine_8 => rw [settleOutputs_insts, e.lst, count, lst]
  case refine_9 =>
    rw [tunerRun_of_run (settleOutputs_run ..)]
    have left : (tunerRun t (interruptHost (wakeBegun v))).active = [] := by
      rw [e.active, tunerRun_of_run run, List.filter_eq_nil_iff]
      intro k hk
      obtain ⟨i, hi, rfl, hw⟩ := hands k hk
      have held : inHostHands (wakeBegun v) i.id = true :=
        inHostHands_iff.mpr ⟨i, (findInst_of_lst lst i.id).trans (findInst_of_mem hd hi), hw⟩
      simp [held]
    exact ⟨left, e.idle t left (by rwa [tunerRun_of_run run])⟩
  case refine_10 =>
    obtain ⟨-, -, own⟩ := e.gone i (by rwa [lst]) hw
    obtain ⟨mine, other⟩ : k ∈ instDues i.id ∧ k ≠ .wakeDue := by
      obtain rfl | rfl | rfl | rfl | rfl : k = .coreEnd i.id ∨ k = .stopMoment i.id ∨ k = .overrunCap i.id ∨
          k = .heldLimit i.id ∨ k = .windowClose i.id := by simpa using hk
      all_goals exact ⟨by simp [instDues], nofun⟩
    rw [settleOutputs_heldDue s _ other, own k mine]
  case refine_11 => rw [settleOutputs_heldDelay, (e.gone i (by rwa [lst]) hw).1]
  case refine_12 => rw [settleOutputs_heldDelay, (e.gone i (by rwa [lst]) hw).2.1]
  case refine_13 =>
    rw [settleOutputs_bkt, e.bkt (fun i hi he => none i (by rwa [← lst]) he.1), bkt]
  case refine_14 =>
    rw [settleOutputs_bkt]
    by_cases ha : i.stopReason = some .abandoned
    · have failed : ∀ j ∈ (wakeBegun v).lst.insts, ¬ EndsDone j := fun j hj ends => by
        rw [lst] at hj
        rw [mem_eq_of_findInst hd (findInst_of_mem hd hi) hj (one j hj ends.1)] at ends
        exact ends.2 ha
      rw [if_pos ha, e.bkt failed, bkt]
    · rw [if_neg ha, e.bktOne i (by rwa [lst]) ⟨hs, ha⟩ (by rwa [lst]), count, doneTable_congr bkt]
  case refine_15 =>
    obtain ⟨dirty, pln, claims, work, changed⟩ := e.pln
    have set : dirty = true := by
      obtain held | ⟨i, hi, hw, ho⟩ | ⟨i, hi, failed⟩ | history := asks
      · exact claims (by rwa [run])
      · exact work i (by rwa [lst]) hw (.inl (Option.isSome_iff_ne_none.mpr ho))
      · exact work i (by rwa [lst]) (.inr (.inr failed.1)) (.inr failed)
      · exact changed (by rwa [settleOutputs_bkt, ← bkt] at history)
    rw [set, wakeBegun_pln b] at pln
    exact settleOutputs_asks pln
  case refine_16 =>
    obtain ⟨ns, o, l⟩ := e.notices
    rw [settleOutputs_tx, l, ← wakeBegun_tx b]
  case refine_17 => rw [settleOutputs_gst, e.gst, wakeBegun_gst b]
  case refine_18 => rw [settleOutputs_count, (time_of_timeOf e.time).1, count]

end Sys2Proof.Machine

/-! PROOFS. BOOK_DELETE (R48, R49): the booking leaves, and each of its recordings is dealt with by its state. -/

namespace Sys2Proof.Machine

-- one theorem after another: many at a time would want a thread each
set_option Elab.async false

open Sys2Proof

/-! ## One recording of the booking (R49) -/

/-- The recording ends at the deletion of its booking (R49). -/
def endsDeleted (st : InstState) : Bool := isPlaceable st || st == .starting || st == .interrupted

/-- The recording with this id is of the booking and ends with it. -/
def goesDeleted (n : Nat) (s : State) (k : Nat) : Bool :=
  s.lst.insts.any (fun i => i.id == k && i.booking == n && endsDeleted i.state)

/-- The recording with this id is in RECORDING. -/
def stopsDeleted (s : State) (k : Nat) : Bool := (findInst k s).any (fun i => i.state == .recording)

theorem goesDeleted_found {n k : Nat} {s : State} {i : Inst} (hd : DistinctIds s) (hi : findInst k s = some i)
    (hb : i.booking = n) : goesDeleted n s k = endsDeleted i.state := by
  obtain rfl := findInst_id hi
  rw [Bool.eq_iff_iff, goesDeleted, List.any_eq_true]
  constructor
  · rintro ⟨j, hj, h⟩
    simp only [Bool.and_eq_true, beq_iff_eq] at h
    obtain ⟨⟨same, -⟩, ends⟩ := h
    obtain rfl := mem_eq_of_findInst hd hi hj same
    exact ends
  · intro ends
    refine ⟨i, mem_of_findInst hi, ?_⟩
    simp only [beq_self_eq_true, Bool.true_and, beq_iff_eq.mpr hb]
    exact ends

theorem goesDeleted_mem {n k : Nat} {s : State} (h : goesDeleted n s k = true) :
    ∃ i ∈ s.lst.insts, i.id = k ∧ i.booking = n := by
  obtain ⟨i, hi, h⟩ := List.any_eq_true.mp h
  simp only [Bool.and_eq_true, beq_iff_eq] at h
  exact ⟨i, hi, h.1⟩

@[simp] theorem deletedAt_id (t : Nat) (i : Inst) : (deletedAt t i).id = i.id := by
  unfold deletedAt
  split <;> rfl

/-- One step of the sweep over the recordings of a booking that is gone; `s0` is the state before the sweep. -/
structure DeleteStep (n : Nat) (s0 : State) (k : Nat) (s v : State) : Prop where
  step : MoveStep (deletedAt s0.clk.count) (goesDeleted n s0) (stopsDeleted s0) k s v
  bkt : v.bkt = s.bkt
  pln : ∃ b, v.pln = dirtied b s.pln

section DeleteInst

variable {n k : Nat} {ks : List Nat} {s0 s : State} {i : Inst}

/-- A recording that ends at the deletion, its booking being gone (R49). -/
theorem terminate_deleteStep {fin : InstState} (h : Sweeps s0 (k :: ks) s) (hd : DistinctIds s0)
    (hi : findInst k s0 = some i) (hb : i.booking = n) (gone : findBooking n s = none) (ends : endsDeleted i.state = true)
    (hr : i.state ≠ .recording) (hf : deletedAt s0.clk.count i = finished fin .deleted none s0.clk.count i) :
    DeleteStep n s0 k s (terminate k fin .deleted none s) := by
  have found : findInst k s = some i := (h.ahead k (List.mem_cons_self ..)).trans hi
  have e := terminate_ended (fin := fin) (c := .deleted) (r := none) found (fun t _ => h.noGap t)
  have goes : goesDeleted n s0 k = true := (goesDeleted_found hd hi hb).trans ends
  have stops : stopsDeleted s0 k = false := by
    rw [stopsDeleted, hi]
    simpa using hr
  obtain rfl := findInst_id found
  have moved : Moved i.id (deletedAt s0.clk.count) s (terminate i.id fin .deleted none s) :=
    e.moved.congr h.distinct found (by rw [hf, h.count])
  refine ⟨e.gone.moveStep moved goes stops, ?_, ⟨_, e.pln⟩⟩
  have absent : findBooking (finished fin .deleted none s.clk.count i).booking s = none := by
    rw [finished_booking, hb, gone]
  rw [e.bkt, doneTable_none absent, ite_self]

theorem deleteInst_step (h : Sweeps s0 (k :: ks) s) (hd : DistinctIds s0) (hi : findInst k s0 = some i)
    (hb : i.booking = n) (gone : findBooking n s = none) : DeleteStep n s0 k s (deleteInst k s) := by
  have found : findInst k s = some i := (h.ahead k (List.mem_cons_self ..)).trans hi
  have goes := goesDeleted_found hd hi hb
  have stops : stopsDeleted s0 k = (i.state == .recording) := by rw [stopsDeleted, hi, Option.any_some]
  have stands (hs : endsDeleted i.state = false) (hr : (i.state == .recording) = false)
      (he : deletedAt s0.clk.count i = i) : DeleteStep n s0 k s s :=
    ⟨moveStep_stands h.distinct found he (goes.trans hs) (stops.trans hr), rfl, ⟨false, rfl⟩⟩
  unfold deleteInst
  rw [found]
  dsimp only
  cases hs : i.state with
  | pending | planned | clashed | starting =>
    refine terminate_deleteStep h hd hi hb gone (by rw [hs]; rfl) (by rw [hs]; exact nofun) ?_
    unfold deletedAt
    rw [hs]
  | interrupted =>
    refine terminate_deleteStep h hd hi hb gone (by rw [hs]; rfl) (by rw [hs]; exact nofun) ?_
    unfold deletedAt
    rw [hs]
  | recording =>
    have e := enterStopping_stops (reason := .cancelled) found (fun t _ => h.noGap t) hs
    obtain rfl := findInst_id found
    have moved : Moved i.id (deletedAt s0.clk.count) s (enterStopping .cancelled i.id s) := by
      refine e.moved.congr h.distinct found ?_
      unfold deletedAt
      rw [hs, h.count]
    exact ⟨e.moveStep moved (goes.trans (by rw [hs]; rfl)), e.bkt, ⟨_, e.pln⟩⟩
  | stopping | done | missed | failed | cancelled =>
    refine stands (by rw [hs]; rfl) (by rw [hs]; rfl) ?_
    unfold deletedAt
    rw [hs]

end DeleteInst

/-! ## All recordings of the booking -/

/-- The state in which the booking has left the table (R48). -/
def bookingGone (n : Nat) (s : State) : State := setDirty (dropBooking n s)

theorem bookingGone_findBooking (n : Nat) (s : State) : findBooking n (bookingGone n s) = none := by
  rw [findBooking, List.find?_eq_none]
  intro b hb hid
  obtain ⟨-, differ⟩ := List.mem_filter.mp hb
  rw [bne_iff_ne] at differ
  exact differ (beq_iff_eq.mp hid)

/-- The sweep over the recordings of a booking that is gone. -/
def sweepDeleted (n : Nat) (s : State) : State :=
  (idsOfBooking n (fun _ => true) s).foldl (fun acc k => deleteInst k acc) s

theorem mem_idsOfBooking {n k : Nat} {s : State} (hd : DistinctIds s) (h : k ∈ idsOfBooking n (fun _ => true) s) :
    ∃ i, findInst k s = some i ∧ i.booking = n := by
  obtain ⟨i, -, hi, hb⟩ := mem_idsWhere_found hd h
  exact ⟨i, hi, by simpa using hb⟩

theorem sweepDeleted_chain {n : Nat} {s : State} (hd : DistinctIds s) (hg : ∀ t, (tunerRun t s).mon ≠ .gap)
    (gone : findBooking n s = none) :
    Chain (DeleteStep n s) (idsOfBooking n (fun _ => true) s) s (sweepDeleted n s) := by
  refine foldl_chain (Inv := fun ks v => Sweeps s ks v ∧ findBooking n v = none ∧
      ∀ k ∈ ks, ∃ i, findInst k s = some i ∧ i.booking = n) (fun k ks v h => ?_)
    ⟨sweeps_idsWhere hd hg _, gone, fun k hk => mem_idsOfBooking hd hk⟩
  obtain ⟨sweeps, absent, found⟩ := h
  obtain ⟨i, hi, hb⟩ := found k (List.mem_cons_self ..)
  have step := deleteInst_step sweeps hd hi hb absent
  refine ⟨step, sweeps.moved (deletedAt_id _) step.step.moved, ?_, fun j hj => found j (List.mem_cons_of_mem k hj)⟩
  rw [findBooking, step.bkt]
  exact absent

/-- The sweep leaves the Booking Table alone, and whatever it does the dirty flag stands. -/
theorem Chain.deleted_tables {n : Nat} {ks : List Nat} {s0 s u : State} (c : Chain (DeleteStep n s0) ks s u) :
    u.bkt = s.bkt ∧ ∃ b, u.pln = dirtied b s.pln := by
  induction c with
  | nil s => exact ⟨rfl, false, rfl⟩
  | cons step _ ih =>
    obtain ⟨bkt, c, pln⟩ := ih
    obtain ⟨b, before⟩ := step.pln
    exact ⟨bkt.trans step.bkt, b || c, by rw [pln, before, dirtied_dirtied]⟩

theorem sweepDeleted_moved {n : Nat} {s : State} (hd : DistinctIds s) (hg : ∀ t, (tunerRun t s).mon ≠ .gap)
    (gone : findBooking n s = none) :
    MovedAll (deletedAt s.clk.count) (goesDeleted n s) (stopsDeleted s) (idsOfBooking n (fun _ => true) s) s
      (sweepDeleted n s) :=
  ((sweepDeleted_chain hd hg gone).mono (fun _ _ _ h => h.step)).movedAll (deletedAt_id _) (idsWhere_nodup hd _)

theorem mem_idsOfBooking_iff {n : Nat} {s : State} {i : Inst} (hd : DistinctIds s) (hi : i ∈ s.lst.insts) :
    i.id ∈ idsOfBooking n (fun _ => true) s ↔ i.booking = n := by
  constructor
  · intro h
    obtain ⟨j, hj, hb⟩ := mem_idsOfBooking hd h
    rwa [mem_eq_of_findInst hd hj hi rfl]
  · intro h
    exact mem_idsWhere.mpr ⟨i, hi, by simp [h], rfl⟩

theorem length_idsOfBooking (n : Nat) (p : InstState → Bool) (s : State) :
    (idsOfBooking n p s).length = countOf n p s := by
  simp [idsOfBooking, idsWhere, countOf]

/-- A recording of a deleted booking waits for nothing (R49). -/
theorem deletedAt_waits_not (t : Nat) (i : Inst) :
    (deletedAt t i).state ≠ .interrupted ∧ (deletedAt t i).state ≠ .planned := by
  unfold deletedAt
  cases hs : i.state with
  | stopping | done | missed | failed | cancelled => simp [hs]
  | _ => exact ⟨nofun, nofun⟩

theorem bookingHeld_eq (n : Nat) (s : State) : bookingHeld n s = (findBooking n s).isSome := by
  rw [bookingHeld, findBooking, List.isSome_find?]

/-- BOOK_DELETE of a booking that is held: the sweep, and the counts of R49. -/
theorem bookDelete_held {n : Nat} {s : State} (tag : Byte) (h : (findBooking n s).isSome = true) :
    bookDelete tag n s = answerOk 0x26 tag (.bookDelete (countOf n cancelsAt s) (countOf n (· == .recording) s)
      (countOf n (· == .interrupted) s)) (sweepDeleted n (bookingGone n s)) := by
  rw [bookDelete, if_pos (by rw [bookingHeld_eq, h]), length_idsOfBooking, length_idsOfBooking, length_idsOfBooking]
  rfl

/-- Settles O18: the booking goes, the sweep deals with its recordings, and nobody is left to retry. -/
theorem bookDeleteDealsWithEveryState : Obligations.BookDeleteDealsWithEveryState := by
  intro s tag p n hS hT hp
  have run : exec (.bookDelete tag p) s = _ := settledMessage_taken (bookDelete tag) hT hp
  refine ⟨fun hb => ?_, fun hb hd hg others => ?_⟩
  · refine run.trans (congrArg _ ?_)
    have absent : ¬ bookingHeld n (withFrame 0x26 tag p s) = true := by
      rw [bookingHeld_eq, show findBooking n (withFrame 0x26 tag p s) = none from hb]
      exact Bool.false_ne_true
    rw [bookDelete, if_neg absent]
    exact settle_refused hS rfl _
  · let s1 := bookingGone n (withFrame 0x26 tag p s)
    let x := sweepDeleted n s1
    have hd1 : DistinctIds s1 := hd
    have runs : ∀ t, tunerRun t s1 = tunerRun t s := fun t => by cases t <;> rfl
    have noGap : ∀ t, (tunerRun t s1).mon ≠ .gap := fun t => by
      rw [runs]
      exact hg t
    have gone := bookingGone_findBooking n (withFrame 0x26 tag p s)
    have m : MovedAll (deletedAt s.clk.count) (goesDeleted n s) (stopsDeleted s) _ s1 x := sweepDeleted_moved hd1 noGap gone
    obtain ⟨bkt, dirty, pln⟩ := (sweepDeleted_chain hd1 noGap gone).deleted_tables
    have insts : x.lst.insts = s.lst.insts.map (fun i => if i.booking = n then deletedAt s.clk.count i else i) := by
      rw [m.lst]
      refine List.map_congr_left (fun i hi => ?_)
      simp only [mem_idsOfBooking_iff hd1 (i := i) hi]
    have met {i : Inst} (hi : i ∈ s.lst.insts) (hn : i.booking = n) : i.id ∈ idsOfBooking n (fun _ => true) s1 :=
      (mem_idsOfBooking_iff hd1 hi).mpr hn
    have nobody : NobodyWaits x := fun j hj => by
      rw [insts] at hj
      obtain ⟨i, hi, rfl⟩ := List.mem_map.mp hj
      split
      · obtain ⟨h1, h2⟩ := deletedAt_waits_not s.clk.count i
        exact ⟨h1, fun h => h2 h.1⟩
      · rename_i other
        exact others i hi other
    let body := ReplyBody.bookDelete (countOf n cancelsAt s) (countOf n (· == .recording) s) (countOf n (· == .interrupted) s)
    have event : exec (.bookDelete tag p) s = .next (settleOutputs s (answerOk 0x26 tag body x)) := by
      refine run.trans (congrArg _ ?_)
      rw [bookDelete_held (s := withFrame 0x26 tag p s) tag hb]
      exact congrArg (settleOutputs s) (retryStarts_nobody (s := answerOk 0x26 tag body x) nobody s)
    refine ⟨_, event, ?_, ?_, ?_, fun t => ?_, fun i hi hn hs => ?_, fun i hi hn hs => ?_, settleOutputs_asks ?_, ?_, ?_, ?_⟩
    case refine_1 =>
      rw [settleOutputs_bkt]
      exact bkt
    case refine_2 =>
      rw [settleOutputs_insts]
      exact insts
    case refine_3 =>
      obtain ⟨ns, o, l⟩ := m.notices
      rw [settleOutputs_tx]
      exact congrArg (· ++ [okTo 0x26 tag body]) (congrArg (fun k => k.tx) l)
    case refine_4 =>
      rw [tunerRun_of_run (settleOutputs_run ..)]
      refine (m.active t).trans ?_
      rw [runs]
      refine List.filter_congr (fun k _ => congrArg not ?_)
      by_cases hk : goesDeleted n s k = true
      · obtain ⟨i, hi, rfl, hn⟩ := goesDeleted_mem hk
        rw [List.contains_iff_mem.mpr (met hi hn), Bool.true_and]
        rfl
      · rw [Bool.eq_false_of_not_eq_true hk, Bool.and_false]
        exact (Bool.eq_false_of_not_eq_true hk).symm
    case refine_5 =>
      rw [settleOutputs_heldDelay]
      refine m.stop i.id (met hi hn) ?_
      rw [stopsDeleted, findInst_of_mem hd hi]
      simp [hs]
    case refine_6 =>
      rw [settleOutputs_heldDelay]
      refine (m.gone i.id (met hi hn) ?_).1
      rw [goesDeleted_found hd (findInst_of_mem hd hi) hn, hs]
      rfl
    case refine_7 =>
      refine pln.trans ?_
      rw [show s1.pln = dirtied true s.pln from rfl, dirtied_dirtied, Bool.true_or]
    case refine_8 =>
      rw [settleOutputs_gst]
      exact m.gst
    case refine_9 =>
      rw [settleOutputs_cnd]
      exact m.cnd
    case refine_10 =>
      rw [settleOutputs_run]
      exact m.claims

end Sys2Proof.Machine

/-! PROOFS. A start attempt on a tuner that is free, and the judging of one resume or one held start (R143, R163). -/

namespace Sys2Proof.Machine

-- one theorem after another: many at a time would want a thread each
set_option Elab.async false

open Sys2Proof

/-! ## The start on a tuner (R138, R143, R163) -/

/-- The stop moment with which a recording starts: the run end of a resume, the window end of a first start. -/
def stopOf (resume : Bool) (i : Inst) : Nat := if resume then i.runEnd.getD (winEnd i) else winEnd i

/-- The record of a recording that starts or resumes (R143, R163). -/
def startedAs (resume : Bool) (t : Tuner) (stop : Nat) (j : Inst) : Inst :=
  { started t stop j with stopFixed := resume && j.stopFixed }

/-- The state in which a recording has started, but for the request of its core end. -/
def joinedState (t : Tuner) (resume : Bool) (i : Inst) (s : State) : State :=
  startDelay (.startConfirm i.id) (secs Config.confirmSecs) (requestDue (.stopMoment i.id) (stopOf resume i)
    (joinActive t i (modInst i.id (startedAs resume t (stopOf resume i))
      (withdrawDues [.windowStart i.id, .heldLimit i.id, .windowClose i.id] s))))

/-- The state in which a recording has started, before START_LATE is judged. -/
def startState (t : Tuner) (resume : Bool) (i : Inst) (s : State) : State :=
  if now s < i.start + i.dur then ensureDue (.coreEnd i.id) (i.start + i.dur) (joinedState t resume i s)
  else withdrawDue (.coreEnd i.id) (joinedState t resume i s)

section StartOn

variable {t : Tuner} {resume late : Bool} {i : Inst} {s : State}

theorem startOn_eq (hi : findInst i.id s = some i) : startOn t resume late i.id s =
    if late = true ∧ i.start < s.clk.count then submit (tunerCond t .deferred .startLate i) (startState t resume i s)
    else startState t resume i s := by
  unfold startOn
  rw [hi]
  rfl

/-- The core end alone is requested or withdrawn beside what `joinedState` holds. -/
theorem startState_clk : ∃ ds, startState t resume i s =
    { joinedState t resume i s with clk := { (joinedState t resume i s).clk with dues := ds } } := by
  unfold startState ensureDue
  repeat' split
  all_goals exact ⟨_, rfl⟩

theorem startState_heldDue {k : DueKind} (h : k ≠ .coreEnd i.id) :
    heldDue k (startState t resume i s) = heldDue k (joinedState t resume i s) := by
  unfold startState
  split
  · exact heldDue_ensureDue_other h _ _
  · exact heldDue_withdrawDue_other h _

/-- A recording has started on a tuner, or resumed there; the log is as given. -/
structure Starts (t : Tuner) (resume : Bool) (i : Inst) (log : CondLog) (s u : State) : Prop where
  lst : u.lst = (modInst i.id (startedAs resume t (stopOf resume i)) s).lst
  run : tunerRun t u = { tunerRun t s with active := (tunerRun t s).active ++ [i.id], mux := some i.mux }
  claims : u.run.claims = s.run.claims
  gst : u.gst = s.gst
  wsv : u.wsv = s.wsv
  bkt : u.bkt = s.bkt
  cnd : u.cnd = log
  tx : u.lnk.tx = s.lnk.tx
  count : u.clk.count = s.clk.count
  confirm : heldDelay (.startConfirm i.id) u = some { kind := .startConfirm i.id, left := 30 * Config.unitsPerSecond }
  stop : (heldDue (.stopMoment i.id) u).map (fun d => d.time) = some (stopOf resume i)
  limit : heldDue (.heldLimit i.id) u = none

theorem joinedState_stop : (heldDue (.stopMoment i.id) (joinedState t resume i s)).map (fun d => d.time) =
    some (stopOf resume i) := by
  have clk (k : DelayKind) (n : Nat) (u : State) (d : DueKind) : heldDue d (startDelay k n u) = heldDue d u := rfl
  rw [joinedState, clk, heldDue_requestDue_same]
  rfl

theorem joinedState_limit : heldDue (.heldLimit i.id) (joinedState t resume i s) = none := by
  have clk (k : DelayKind) (n : Nat) (u : State) (d : DueKind) : heldDue d (startDelay k n u) = heldDue d u := rfl
  have other : DueKind.heldLimit i.id ≠ .stopMoment i.id := nofun
  rw [joinedState, clk, heldDue_requestDue_other other]
  refine (heldDue_of_clk ?_ _).trans (heldDue_withdrawDues_mem (k := .heldLimit i.id)
    (ks := [.windowStart i.id, .heldLimit i.id, .windowClose i.id]) (by simp) s)
  rw [joinActive, modTuner_clk]
  rfl

theorem startState_starts : Starts t resume i s.cnd s (startState t resume i s) := by
  have other1 : DueKind.stopMoment i.id ≠ .coreEnd i.id := nofun
  have other2 : DueKind.heldLimit i.id ≠ .coreEnd i.id := nofun
  have stop := (congrArg (fun o => o.map (fun d => d.time)) (startState_heldDue (t := t) (resume := resume) (s := s) other1)).trans
    joinedState_stop
  have limit := (startState_heldDue (t := t) (resume := resume) (s := s) other2).trans joinedState_limit
  obtain ⟨ds, e⟩ := startState_clk (t := t) (resume := resume) (i := i) (s := s)
  refine ⟨?_, ?_, ?_, ?_, ?_, ?_, ?_, ?_, ?_, ?_, stop, limit⟩
  all_goals rw [e]
  case refine_10 => exact heldDelay_startDelay_same _ _ _
  case refine_2 => cases t <;> rfl
  all_goals cases t <;> rfl

/-- A condition is submitted once the recording has started. -/
theorem Starts.submit {u : State} (e : Starts t resume i s.cnd s u) (c : Condition) :
    Starts t resume i (submit c s).cnd s (submit c u) where
  lst := (submit_lst c u).trans e.lst
  run := (tunerRun_of_run (submit_run c u) t).trans e.run
  claims := (congrArg (fun r => r.claims) (submit_run c u)).trans e.claims
  gst := (submit_gst c u).trans e.gst
  wsv := (submit_wsv c u).trans e.wsv
  bkt := (submit_bkt c u).trans e.bkt
  cnd := submit_cnd_congr c e.cnd e.count
  tx := by
    obtain ⟨ns, o, l⟩ := submit_noticesOnly c u
    rw [l]
    exact e.tx
  count := (congrArg (fun k => k.count) (submit_clk c u)).trans e.count
  confirm := (heldDelay_of_delays (congrArg (fun k => k.delays) (submit_clk c u)) _).trans e.confirm
  stop := by
    rw [heldDue_of_clk (submit_clk c u)]
    exact e.stop
  limit := (heldDue_of_clk (submit_clk c u) _).trans e.limit

theorem startOn_starts (hi : findInst i.id s = some i) : Starts t resume i
    (if late = true ∧ i.start < s.clk.count then (submit (tunerCond t .deferred .startLate i) s).cnd else s.cnd) s
    (startOn t resume late i.id s) := by
  have e := startState_starts (t := t) (resume := resume) (i := i) (s := s)
  rw [startOn_eq hi]
  split
  · exact e.submit _
  · exact e

end StartOn

/-! ## The attempt on a tuner that is free (R143, R144, R163) -/

section Attempt

variable {n : Nat} {t : Tuner} {i : Inst} {s : State}

/-- Nothing is active on any tuner, and no claim is held. -/
structure AllFree (s : State) : Prop where
  idle : ∀ x, (tunerRun x s).active = []
  claims : s.run.claims = []

theorem AllFree.freeFor (h : AllFree s) (t : Tuner) (i : Inst) : freeFor t i s = true := by
  simp [Sys2Proof.Machine.freeFor, activeOn, h.idle, h.claims, Config.tunerCap]

/-- With nothing in RECORDING and no claim held there is no handover (R143). -/
theorem handovers_none (h : s.run.claims = []) (hr : ∀ j ∈ s.lst.insts, j.state ≠ .recording) (t : Tuner) (k : Nat) :
    handovers t k s = s := by
  have none : recordingOn t s = [] := by
    rw [recordingOn, List.filter_eq_nil_iff.mpr (fun j hj => ?_), sortBy_nil]
    simp [hr j hj]
  simp only [handovers, none, List.filter_nil, List.foldl_nil, h]

/-- A resume attempt on a free tuner starts the recording there (R163). -/
theorem startAttempt_resume (h : AllFree s) (hi : findInst n s = some i) (ht : i.tuner = some t) :
    startAttempt true false n s = startOn t true false n s := by
  unfold startAttempt
  rw [hi]
  dsimp only
  rw [ht]
  exact if_pos (h.freeFor t i)

/-- A late first start on a free tuner starts the recording there (R163). -/
theorem startAttempt_held (h : AllFree s) (hi : findInst n s = some i) (ht : i.tuner = some t)
    (hr : ∀ j ∈ s.lst.insts, j.state ≠ .recording) : startAttempt false true n s = startOn t false true n s := by
  unfold startAttempt
  rw [hi]
  dsimp only
  rw [ht]
  dsimp only
  rw [if_neg Bool.false_ne_true, handovers_none h.claims hr]
  exact if_pos (h.freeFor t i)

end Attempt

/-! ## The work a HELLO finds (R163) -/

section Work

variable {n : Nat} {i : Inst} {s : State}

/-- Nothing but this recording waits for a tuner. -/
abbrev OnlyWaits (n : Nat) (s : State) : Prop :=
  ∀ j ∈ s.lst.insts, j.id ≠ n → j.state ≠ .interrupted ∧ ¬ (j.state = .planned ∧ j.startHeld = true)

theorem eq_singleton_of_nodup {ks : List Nat} (hn : ks.Nodup) (h : ∀ k, k ∈ ks ↔ k = n) : ks = [n] :=
  List.perm_singleton.mp ((List.perm_ext_iff_of_nodup hn (List.nodup_singleton n)).mpr (by simpa using h))

theorem heldStarts_nodup (hd : DistinctIds s) : (heldStarts s).Nodup :=
  (((sortBy_perm _ _).map _).nodup_iff).mpr (hd.sublist (List.filter_sublist.map _))

theorem mem_heldStarts {k : Nat} : k ∈ heldStarts s ↔ ∃ j ∈ s.lst.insts, (j.state = .planned ∧ j.startHeld = true) ∧ j.id = k := by
  simp only [heldStarts, List.mem_map, mem_sortBy, List.mem_filter, Bool.and_eq_true, beq_iff_eq, and_assoc]

theorem mem_interruptedIds {k : Nat} : k ∈ interruptedIds s ↔ ∃ j ∈ s.lst.insts, j.state = .interrupted ∧ j.id = k := by
  simp only [interruptedIds, mem_idsWhere, beq_iff_eq]

theorem heldStarts_none (h : ∀ j ∈ s.lst.insts, ¬ (j.state = .planned ∧ j.startHeld = true)) : heldStarts s = [] :=
  List.eq_nil_iff_forall_not_mem.mpr (fun k hk => by
    obtain ⟨j, hj, hp, -⟩ := mem_heldStarts.mp hk
    exact h j hj hp)

theorem interruptedIds_none (h : ∀ j ∈ s.lst.insts, j.state ≠ .interrupted) : interruptedIds s = [] :=
  List.eq_nil_iff_forall_not_mem.mpr (fun k hk => by
    obtain ⟨j, hj, hp, -⟩ := mem_interruptedIds.mp hk
    exact h j hj hp)

/-- With nobody waiting there is no work to take up. -/
theorem takeUpWork_nobody (h : NobodyWaits s) : takeUpWork s = s := by
  unfold takeUpWork
  rw [interruptedIds_none (fun j hj => (h j hj).1)]
  dsimp only [List.foldl_nil]
  rw [heldStarts_none (fun j hj => (h j hj).2)]
  rfl

/-- One resume is all the work: it is judged, and nobody else starts. -/
theorem takeUpWork_resume (hd : DistinctIds s) (hi : findInst n s = some i) (hs : i.state = .interrupted)
    (ho : OnlyWaits n s) (hz : NobodyWaits (judgeResume n s)) : takeUpWork s = judgeResume n s := by
  have one : interruptedIds s = [n] := eq_singleton_of_nodup (idsWhere_nodup hd _) (fun k => by
    rw [mem_interruptedIds]
    constructor
    · rintro ⟨j, hj, hp, rfl⟩
      by_contra other
      exact (ho j hj other).1 hp
    · rintro rfl
      exact ⟨i, mem_of_findInst hi, hs, findInst_id hi⟩)
  unfold takeUpWork
  rw [one]
  dsimp only [List.foldl_cons, List.foldl_nil]
  rw [heldStarts_none (fun j hj => (hz j hj).2)]
  rfl

/-- One held start is all the work. -/
theorem takeUpWork_held (hd : DistinctIds s) (hi : findInst n s = some i) (hs : i.state = .planned ∧ i.startHeld = true)
    (ho : OnlyWaits n s) : takeUpWork s = takeHeld n s := by
  have none : interruptedIds s = [] := interruptedIds_none (fun j hj => by
    by_cases same : j.id = n
    · rw [mem_eq_of_findInst hd hi hj same, hs.1]
      exact nofun
    · exact (ho j hj same).1)
  have one : heldStarts s = [n] := eq_singleton_of_nodup (heldStarts_nodup hd) (fun k => by
    rw [mem_heldStarts]
    constructor
    · rintro ⟨j, hj, hp, rfl⟩
      by_contra other
      exact (ho j hj other).2 hp
    · rintro rfl
      exact ⟨i, mem_of_findInst hi, hs, findInst_id hi⟩)
  unfold takeUpWork
  rw [none]
  dsimp only [List.foldl_nil]
  rw [one]
  rfl

end Work

end Sys2Proof.Machine

/-! PROOFS. A HELLO from its frame to the work it finds (R155, R162, R187 to R189). -/

namespace Sys2Proof.Machine

-- one theorem after another: many at a time would want a thread each
set_option Elab.async false

open Sys2Proof

/-! ## The state that finds the work -/

/-- The Wake Supervisor between the HELLO and its reply (R187). -/
def greetedWsv (w : WakeSup) : WakeSup :=
  { w with host := .awake, wakeOut := false, resetOut := false, silentFloor := none, standbyWanted := false }

/-- The state that finds the work: the host is AWAKE, no claim is held and no recording is active; `f` is what has become
of the record of the one recording, `log` and `table` what the log and the Booking Table hold. -/
structure Ready (s : State) (n : Nat) (f : Inst → Inst) (log : CondLog) (table : BookingTable) (late : Bool) (y : State) :
    Prop where
  ids : ∀ j, (f j).id = j.id
  insts : y.lst.insts = changedAt n f s
  idle : ∀ x, (tunerRun x y).active = []
  claims : y.run.claims = []
  noGap : ∀ t, (tunerRun t y).mon ≠ .gap
  gst : y.gst = s.gst
  wsv : y.wsv = greetedWsv s.wsv
  cnd : y.cnd = log
  count : y.clk.count = s.clk.count
  tx : y.lnk.tx = s.lnk.tx
  bkt : y.bkt = table
  pln : ∃ b, y.pln = dirtied b s.pln ∧ (late = true → b = true)

/-- The greeting before any work: nothing but the host and the delays has changed. -/
def greeting (tag : Byte) (s : State) : State := helloAwake (withFrame 0x01 tag [] s)

section Greeting

variable (tag : Byte) (s : State)

theorem greeting_lst : (greeting tag s).lst = s.lst := startKeepalive_lst _
theorem greeting_bkt : (greeting tag s).bkt = s.bkt := startKeepalive_bkt _
theorem greeting_pln : (greeting tag s).pln = s.pln := startKeepalive_pln _
theorem greeting_run : (greeting tag s).run = s.run := startKeepalive_run _
theorem greeting_cnd : (greeting tag s).cnd = s.cnd := startKeepalive_cnd _
theorem greeting_gst : (greeting tag s).gst = s.gst := startKeepalive_gst _
theorem greeting_wsv : (greeting tag s).wsv = greetedWsv s.wsv := startKeepalive_wsv _
theorem greeting_tx : (greeting tag s).lnk.tx = s.lnk.tx := congrArg (fun l => l.tx) (startKeepalive_lnk _)
theorem greeting_count : (greeting tag s).clk.count = s.clk.count := (time_of_timeOf (startKeepalive_time _)).1

end Greeting

theorem changedAt_id (n : Nat) (s : State) : changedAt n (fun j => j) s = s.lst.insts := by
  simp only [changedAt, ite_self, List.map_id']

/-- While the host is not AWAKE the claims go and nothing else (R155, R188). -/
theorem ready_asleep {s : State} {tag : Byte} {n : Nat} (hg : ∀ t, (tunerRun t s).mon ≠ .gap)
    (idle : ∀ x, (tunerRun x s).active = []) :
    Ready s n (fun j => j) s.cnd s.bkt false (dropClaims (greeting tag s)) := by
  obtain ⟨ds, ps, -, hps, e⟩ := dropClaims_eq (greeting tag s)
  have runs (t : Tuner) : tunerRun t (dropClaims (greeting tag s)) = tunerRun t s := by
    rw [e, ← tunerRun_of_run (greeting_run tag s) t]
    cases t <;> rfl
  refine ⟨fun _ => rfl, ?_, fun x => by rw [runs, idle], ?_, fun t => by rw [runs]; exact hg t, ?_, ?_, ?_, ?_, ?_, ?_, ?_⟩
  all_goals rw [e]
  case refine_1 => exact (congrArg (fun l => l.insts) (greeting_lst tag s)).trans (changedAt_id n s).symm
  case refine_3 => exact greeting_gst tag s
  case refine_4 => exact greeting_wsv tag s
  case refine_5 => exact greeting_cnd tag s
  case refine_6 => exact greeting_count tag s
  case refine_7 => exact greeting_tx tag s
  case refine_8 => exact greeting_bkt tag s
  case refine_9 =>
    rw [greeting_pln] at hps
    exact ⟨_, hps, nofun⟩

/-- A restart of the host interrupts what runs (R162, R187). -/
theorem ready_restarted {s : State} {tag : Byte} {n : Nat} {i : Inst} {cls : CondClass} (hd : DistinctIds s)
    (hg : ∀ t, (tunerRun t s).mon ≠ .gap) (hi : findInst n s = some i)
    (others : ∀ j ∈ s.lst.insts, j.id ≠ n → isRunning j.state = false)
    (active : ∀ x, ∀ k ∈ (tunerRun x s).active, k = n ∧ WithHost i) :
    Ready s n (lostAt s.clk.count) (submit (restarted cls) s).cnd
      (if EndsDone i then doneTable (lostAt s.clk.count i) s else s.bkt) (decide (WithHost i) && i.overrun.isSome)
      (interruptHost (submit (restarted cls) (greeting tag s))) := by
  let a := submit (restarted cls) (greeting tag s)
  have lst : a.lst = s.lst := (submit_lst ..).trans (greeting_lst tag s)
  have run : a.run = s.run := (submit_run ..).trans (greeting_run tag s)
  have bkt : a.bkt = s.bkt := (submit_bkt ..).trans (greeting_bkt tag s)
  have count : a.clk.count = s.clk.count := (congrArg (fun c => c.count) (submit_clk ..)).trans (greeting_count tag s)
  have e : HostLost a (interruptHost a) := interruptHost_lost (by rwa [DistinctIds, lst])
    (fun t => by rw [tunerRun_of_run run]; exact hg t)
  have alone {j : Inst} (hj : j ∈ s.lst.insts) (hw : WithHost j) : j = i := by
    by_cases same : j.id = n
    · exact mem_eq_of_findInst hd hi hj same
    · exact absurd ((others j hj same).symm.trans (isRunning_of_withHost hw)) Bool.false_ne_true
  refine ⟨lostAt_id _, ?_, fun x => ?_, e.claims, fun t => ?_, ?_, ?_, ?_, ?_, ?_, ?_, ?_⟩
  case refine_1 =>
    rw [e.lst, count, lst]
    refine List.map_congr_left (fun j hj => ?_)
    split
    · rfl
    · rename_i other
      refine lostAt_other (fun hw => ?_)
      exact absurd ((others j hj other).symm.trans (isRunning_of_withHost hw)) Bool.false_ne_true
  case refine_2 =>
    rw [e.active, tunerRun_of_run run, List.filter_eq_nil_iff]
    intro k hk
    obtain ⟨rfl, hw⟩ := active x k hk
    have hands : inHostHands a k = true := inHostHands_iff.mpr ⟨i, (findInst_of_lst lst k).trans hi, hw⟩
    simp [hands]
  case refine_3 =>
    rw [(e.off t).1]
    exact nofun
  case refine_4 => rw [e.gst, submit_gst, greeting_gst]
  case refine_5 => rw [e.wsv, submit_wsv, greeting_wsv]
  case refine_6 => rw [e.cnd, submit_cnd_congr (restarted cls) (greeting_cnd tag s) (greeting_count tag s)]
  case refine_7 => rw [(time_of_timeOf e.time).1, count]
  case refine_8 =>
    obtain ⟨ns, o, l⟩ := e.notices
    obtain ⟨ns', o', l'⟩ := submit_noticesOnly (restarted cls) (greeting tag s)
    rw [l, l', ← greeting_tx tag s]
  case refine_9 =>
    have mem : i ∈ a.lst.insts := by
      rw [lst]
      exact mem_of_findInst hi
    by_cases he : EndsDone i
    · rw [if_pos he, e.bktOne i mem he (fun j hj hs => by
        rw [lst] at hj
        rw [alone hj (.inr (.inr hs))]), count, doneTable_congr bkt]
    · rw [if_neg he, e.bkt (fun j hj ends => by
        rw [lst] at hj
        exact he (alone hj (.inr (.inr ends.1)) ▸ ends)), bkt]
  case refine_10 =>
    obtain ⟨b, pln, -, work, -⟩ := e.pln
    refine ⟨b, by rw [pln, submit_pln, greeting_pln], fun late => ?_⟩
    rw [Bool.and_eq_true, decide_eq_true_eq] at late
    exact work i (by rw [lst]; exact mem_of_findInst hi) late.1 (.inl late.2)

end Sys2Proof.Machine

/-! PROOFS. What a HELLO makes of the work it finds (R162, R163, R187, R188). -/

namespace Sys2Proof.Machine

-- one theorem after another: many at a time would want a thread each
set_option Elab.async false

open Sys2Proof

/-! ## The work that was taken up -/

/-- The work has been taken up, and nobody waits any longer: `f` is what has become of the record of the one recording. -/
structure Taken (s : State) (n : Nat) (f : Inst → Inst) (log : CondLog) (table : BookingTable) (z : State) : Prop where
  insts : z.lst.insts = changedAt n f s
  claims : z.run.claims = []
  gst : z.gst = s.gst
  wsv : z.wsv = greetedWsv s.wsv
  cnd : z.cnd = log
  count : z.clk.count = s.clk.count
  tx : z.lnk.tx = s.lnk.tx
  bkt : z.bkt = table
  nobody : NobodyWaits z

theorem changedAt_congr {s : State} {n : Nat} {i : Inst} {f g : Inst → Inst} (hd : DistinctIds s) (hi : findInst n s = some i)
    (e : f i = g i) : changedAt n f s = changedAt n g s :=
  List.map_congr_left (fun j hj => by
    split
    · rename_i same
      rw [mem_eq_of_findInst hd hi hj same, e]
    · rfl)

/-- Only what has become of the one recording counts. -/
theorem Taken.congr {s z : State} {n : Nat} {i : Inst} {f g : Inst → Inst} {log : CondLog} {table : BookingTable}
    (hd : DistinctIds s) (hi : findInst n s = some i) (e : f i = g i) (h : Taken s n f log table z) :
    Taken s n g log table z := { h with insts := h.insts.trans (changedAt_congr hd hi e) }

theorem Ready.congr {s y : State} {n : Nat} {i : Inst} {f g : Inst → Inst} {log : CondLog} {table : BookingTable}
    {late : Bool} (hd : DistinctIds s) (hi : findInst n s = some i) (e : f i = g i) (hg : ∀ j, (g j).id = j.id)
    (h : Ready s n f log table late y) : Ready s n g log table late y :=
  { h with ids := hg, insts := h.insts.trans (changedAt_congr hd hi e) }

/-- A condition is submitted once the work has been taken up. -/
theorem Taken.submit {s l z : State} {n : Nat} {f : Inst → Inst} {table : BookingTable}
    (h : Taken s n f l.cnd table z) (hl : l.clk.count = s.clk.count) (c : Condition) :
    Taken s n f (submit c l).cnd table (submit c z) where
  insts := (congrArg (fun x => x.insts) (submit_lst c z)).trans h.insts
  claims := (congrArg (fun r => r.claims) (submit_run c z)).trans h.claims
  gst := (submit_gst c z).trans h.gst
  wsv := (submit_wsv c z).trans h.wsv
  cnd := submit_cnd_congr c h.cnd (h.count.trans hl.symm)
  count := (congrArg (fun k => k.count) (submit_clk c z)).trans h.count
  tx := by
    obtain ⟨ns, o, e⟩ := submit_noticesOnly c z
    rw [e]
    exact h.tx
  bkt := (submit_bkt c z).trans h.bkt
  nobody := by
    rw [NobodyWaits, submit_lst]
    exact h.nobody

/-! ## The ways the work is taken up -/

section Ways

variable {s y z : State} {n : Nat} {i : Inst} {f : Inst → Inst} {log : CondLog} {table : BookingTable} {late : Bool}

theorem Ready.distinct (h : Ready s n f log table late y) (hd : DistinctIds s) : DistinctIds y := by
  have same : y.lst.insts.map (fun j => j.id) = s.lst.insts.map (fun j => j.id) := by
    rw [h.insts, changedAt, List.map_map]
    refine List.map_congr_left (fun j _ => ?_)
    dsimp only [Function.comp]
    split
    · exact h.ids j
    · rfl
  rwa [DistinctIds, same]

theorem Ready.found (h : Ready s n f log table late y) (hi : findInst n s = some i) : findInst n y = some (f i) := by
  have same : findInst n y = findInst n (modInst n f s) := by
    simp only [findInst, h.insts, modInst_lst_eq]
  rw [same, findInst_modInst_same n f h.ids, hi]
  rfl

/-- Those of the others are as they were. -/
theorem Ready.others (h : Ready s n f log table late y) {j : Inst} (hj : j ∈ y.lst.insts) (other : j.id ≠ n) :
    j ∈ s.lst.insts := by
  rw [h.insts] at hj
  obtain ⟨k, hk, rfl⟩ := List.mem_map.mp hj
  split at other
  · rename_i same
    exact absurd ((h.ids k).trans same) other
  · rename_i differ
    rwa [if_neg differ]

theorem Ready.onlyWaits (h : Ready s n f log table late y) (ho : OnlyWaits n s) : OnlyWaits n y :=
  fun j hj other => ho j (h.others hj other) other

theorem Ready.free (h : Ready s n f log table late y) : AllFree y := ⟨h.idle, h.claims⟩

/-- Nobody waits where the recording no longer does. -/
theorem nobodyWaits_changedAt {g : Inst → Inst} (hd : DistinctIds s) (hi : findInst n s = some i) (ho : OnlyWaits n s)
    (e : z.lst.insts = changedAt n g s) (h1 : (g i).state ≠ .interrupted) (h2 : (g i).state ≠ .planned) :
    NobodyWaits z := by
  intro j hj
  rw [e] at hj
  obtain ⟨k, hk, rfl⟩ := List.mem_map.mp hj
  split
  · rename_i same
    rw [mem_eq_of_findInst hd hi hk same]
    exact ⟨h1, fun h => h2 h.1⟩
  · rename_i differ
    exact ho k hk differ

theorem changedAt_comp {g : Inst → Inst} (hf : ∀ j, (f j).id = j.id) (e : y.lst.insts = changedAt n f s) :
    changedAt n g y = changedAt n (fun j => g (f j)) s := by
  rw [changedAt, e, changedAt, List.map_map]
  refine List.map_congr_left (fun j _ => ?_)
  dsimp only [Function.comp]
  by_cases same : j.id = n
  · simp only [same, hf, if_true]
  · simp only [same, if_false]

/-- The recording ends (R83, R163). -/
theorem Ready.ended {fin : InstState} {c : Cause} (h : Ready s n f log s.bkt late y) (hd : DistinctIds s)
    (hi : findInst n s = some i) (ho : OnlyWaits n s) (ht : isTerminal fin = true) :
    Taken s n (fun j => finished fin c none s.clk.count (f j)) log
        (if fin = .done then doneTable (finished fin c none s.clk.count (f i)) s else s.bkt)
        (terminate n fin c none y) ∧
      (late = true ∨ fin = .failed ∨ fin = .missed →
        (terminate n fin c none y).pln = dirtied true s.pln) := by
  have found := h.found hi
  have e := terminate_ended (fin := fin) (c := c) (r := none) found (fun t _ => h.noGap t)
  have insts : (terminate n fin c none y).lst.insts =
      changedAt n (fun j => finished fin c none s.clk.count (f j)) s := by
    rw [e.moved.lst, modInst_lst_eq, h.count, findInst_id found]
    exact changedAt_comp h.ids h.insts
  refine ⟨⟨insts, ?_, ?_, ?_, ?_, ?_, ?_, ?_, ?_⟩, fun asks => ?_⟩
  · rw [e.moved.claims, h.claims]
  · rw [e.moved.gst, h.gst]
  · rw [e.moved.wsv, h.wsv]
  · rw [e.moved.cnd, h.cnd]
  · rw [(time_of_timeOf e.moved.time).1, h.count]
  · obtain ⟨ns, o, l⟩ := e.moved.notices
    rw [l, ← h.tx]
  · rw [e.bkt, h.bkt, doneTable_congr h.bkt, h.count]
  · refine nobodyWaits_changedAt hd hi ho insts ?_ ?_
    all_goals
      rintro (rfl : fin = _)
      exact absurd ht Bool.false_ne_true
  · obtain ⟨b, pln, dirty⟩ := h.pln
    rw [e.pln, pln, dirtied_dirtied]
    obtain hl | rfl | rfl := asks
    · rw [dirty hl, Bool.true_or]
    · exact congrArg (fun x => dirtied x s.pln) (Bool.or_true b)
    · exact congrArg (fun x => dirtied x s.pln) (Bool.or_true b)

/-- The recording starts on its tuner (R143, R163). -/
theorem Starts.taken {t : Tuner} {resume : Bool} {log' : CondLog} (e : Starts t resume (f i) log' y z)
    (h : Ready s n f log s.bkt late y) (hd : DistinctIds s) (hi : findInst n s = some i) (ho : OnlyWaits n s) :
    Taken s n (fun j => startedAs resume t (stopOf resume (f i)) (f j)) log' s.bkt z := by
  have insts : z.lst.insts = changedAt n (fun j => startedAs resume t (stopOf resume (f i)) (f j)) s := by
    rw [e.lst, modInst_lst_eq, findInst_id (h.found hi)]
    exact changedAt_comp h.ids h.insts
  exact ⟨insts, e.claims.trans h.claims, e.gst.trans h.gst, e.wsv.trans h.wsv, e.cnd, e.count.trans h.count,
    e.tx.trans h.tx, e.bkt.trans h.bkt, nobodyWaits_changedAt hd hi ho insts nofun nofun⟩

/-! ### One resume (R163) -/

theorem judgeResume_closed {e : Nat} (hi : findInst n y = some i) (hs : i.state = .interrupted) (hr : i.runEnd = some e)
    (he : e ≤ y.clk.count + 5) : judgeResume n y = terminate n .done .windowClosed none y := by
  unfold judgeResume
  rw [hi]
  dsimp only
  rw [if_pos hs, hr]
  exact if_pos he

theorem judgeResume_limit {e : Nat} (hi : findInst n y = some i) (hs : i.state = .interrupted) (hr : i.runEnd = some e)
    (he : y.clk.count + 5 < e) (hg : 4 ≤ i.segments.length) : judgeResume n y =
      submit (condFor (bankOf i) .hard .resumeLimit i) (terminate n .failed .resumeLimit none y) := by
  unfold judgeResume
  rw [hi]
  dsimp only
  rw [if_pos hs, hr]
  exact (if_neg (Nat.not_le.mpr he)).trans (if_pos hg)

theorem judgeResume_starts {e : Nat} {t : Tuner} (hi : findInst n y = some i) (hs : i.state = .interrupted)
    (hr : i.runEnd = some e) (he : y.clk.count + 5 < e) (hg : i.segments.length < 4) (hf : AllFree y)
    (ht : i.tuner = some t) : judgeResume n y = startOn t true false n y := by
  unfold judgeResume
  rw [hi]
  dsimp only
  rw [if_pos hs, hr]
  exact (if_neg (Nat.not_le.mpr he)).trans ((if_neg (Nat.not_le.mpr hg)).trans (startAttempt_resume hf hi ht))

/-! ### One held start (R163) -/

theorem takeHeld_starts {t : Tuner} (hi : findInst n y = some i) (hs : i.state = .planned ∧ i.startHeld = true)
    (hl : y.clk.count + 5 < heldLimit i) (hf : AllFree y) (ht : i.tuner = some t)
    (hr : ∀ j ∈ y.lst.insts, j.state ≠ .recording) : takeHeld n y = startOn t false true n y := by
  unfold takeHeld
  rw [hi]
  dsimp only
  rw [if_pos hs]
  exact (if_pos hl).trans (startAttempt_held hf hi ht hr)

theorem takeHeld_missed {t : Tuner} (hi : findInst n y = some i) (hs : i.state = .planned ∧ i.startHeld = true)
    (hl : heldLimit i ≤ y.clk.count + 5) (ht : i.tuner = some t) : takeHeld n y =
      submit (tunerCond t .hard .missed i) (terminate n .missed .heldTooLong none y) := by
  have missed : missInst .heldTooLong n y =
      submit (tunerCond t .hard .missed i) (terminate n .missed .heldTooLong none y) := by
    unfold missInst
    rw [hi]
    dsimp only
    rw [if_pos hs.1, bankOf, ht]
    rfl
  unfold takeHeld
  rw [hi]
  dsimp only
  rw [if_pos hs]
  exact (if_neg (Nat.not_lt.mpr hl)).trans missed

end Ways

end Sys2Proof.Machine

/-! PROOFS. HELLO with work to take up, from the message to the end of its event (R162, R163, R187, R188). -/

namespace Sys2Proof.Machine

-- one theorem after another: many at a time would want a thread each
set_option Elab.async false

open Sys2Proof

/-! ## The reply and the end of the event (R187, R189) -/

/-- The state in which a HELLO has been answered, before the end of its event. -/
def helloAnswered (tag : Byte) (s z : State) : State :=
  helloDone (answerOk 0x01 tag (.hello (helloView s.wsv.host z)) z)

/-- A HELLO of which the work has been taken up: no start that waits is left to retry. -/
theorem execHello_taken {s z : State} {tag : Byte} (hT : Takes [] s)
    (hw : helloWork s.wsv.host (runningCount s) (greeting tag s) = z) (hn : NobodyWaits z) :
    exec (.hello tag []) s = .next (settleOutputs s (helloAnswered tag s z)) := by
  have work : hello tag (withFrame 0x01 tag [] s) = helloAnswered tag s z := by
    have rests : retryStarts (withFrame 0x01 tag [] s) z = z := retryStarts_nobody hn _
    unfold hello
    dsimp only
    rw [show helloWork (withFrame 0x01 tag [] s).wsv.host (runningCount (withFrame 0x01 tag [] s))
      (helloAwake (withFrame 0x01 tag [] s)) = z from hw, rests]
    rfl
  have taken : onMessage 0x01 tag pNone [] (fun _ t => hello tag t) s = hello tag (withFrame 0x01 tag [] s) :=
    onMessage_ok 0x01 tag pNone [] (fun _ t => hello tag t) s () hT rfl
  refine congrArg Host.Outcome.next ?_
  rw [taken, work]

/-- What a HELLO that has taken up one piece of work leaves. -/
structure HelloDid (tag : Byte) (n : Nat) (i : Inst) (f : Inst → Inst) (log : CondLog) (s u : State) : Prop where
  run : exec (.hello tag []) s = .next u
  wsv : u.wsv = afterHello s.wsv
  claims : u.run.claims = []
  insts : u.lst.insts = changedAt n f s
  gst : u.gst = s.gst
  bkt : u.bkt = if (f i).state = .done then doneTable (f i) s else s.bkt
  reply : ∃ v, u.lnk.tx = s.lnk.tx ++ [okTo 0x01 tag (.hello v)] ∧ v.previous = s.wsv.host ∧
    v.running = runningCount u ∧ v.placeable = placeableCount u ∧ v.terminal = terminalCount u
  cnd : u.cnd = log

theorem Taken.did {s z : State} {tag : Byte} {n : Nat} {i : Inst} {f : Inst → Inst} {log : CondLog}
    {table : BookingTable} (h : Taken s n f log table z)
    (hb : table = if (f i).state = .done then doneTable (f i) s else s.bkt) (hT : Takes [] s)
    (hw : helloWork s.wsv.host (runningCount s) (greeting tag s) = z) :
    HelloDid tag n i f log s (settleOutputs s (helloAnswered tag s z)) := by
  have wsv : (helloAnswered tag s z).wsv = afterHello s.wsv := by
    rw [show (helloAnswered tag s z).wsv = { z.wsv with reason := .none, attempts := 0 } from rfl, h.wsv]
    rfl
  have count (p : InstState → Bool) :
      ((settleOutputs s (helloAnswered tag s z)).lst.insts.filter (fun i => p i.state)).length =
        (z.lst.insts.filter (fun i => p i.state)).length := by
    rw [settleOutputs_insts]
    rfl
  refine ⟨execHello_taken hT hw h.nobody, ?_, ?_, ?_, ?_, ?_, ⟨helloView s.wsv.host z, ?_, rfl, (count isRunning).symm,
    (count isPlaceable).symm, (count isTerminal).symm⟩, ?_⟩
  · rw [settleOutputs_wsv_unwanted s (by rw [wsv]; rfl), wsv]
  · rw [settleOutputs_run]
    exact h.claims
  · rw [settleOutputs_insts]
    exact h.insts
  · rw [settleOutputs_gst]
    exact h.gst
  · rw [settleOutputs_bkt, ← hb]
    exact h.bkt
  · rw [settleOutputs_tx]
    exact congrArg (· ++ [okTo 0x01 tag (.hello (helloView s.wsv.host z))]) h.tx
  · rw [settleOutputs_cnd]
    exact h.cnd

/-- A recording that has started at a HELLO is the only one on its tuner, and the host is told of it (R82, R138, R143). -/
theorem Starts.takenUp {s y z : State} {tag : Byte} {t : Tuner} {resume : Bool} {n : Nat} {i : Inst} {log : CondLog}
    (e : Starts t resume i log y z) (hi : findInst n y = some i) (hf : AllFree y) :
    TakenUp n t i.mux (stopOf resume i) (settleOutputs s (helloAnswered tag s z)) := by
  obtain rfl := findInst_id hi
  have other : DueKind.stopMoment i.id ≠ .wakeDue := nofun
  have run : tunerRun t (settleOutputs s (helloAnswered tag s z)) = tunerRun t z := by
    rw [tunerRun_of_run (settleOutputs_run ..)]
    cases t <;> rfl
  have found : findInst i.id z = some (startedAs resume t (stopOf resume i) i) := by
    rw [findInst_of_lst e.lst, findInst_modInst_same i.id (startedAs resume t (stopOf resume i)) (fun _ => rfl), hi]
    rfl
  refine ⟨?_, ?_, ?_, ?_, ?_⟩
  · rw [run, e.run, hf.idle]
    rfl
  · rw [run, e.run]
  · rw [settleOutputs_heldDelay]
    exact e.confirm
  · rw [settleOutputs_heldDue s _ other]
    exact e.stop
  · rw [settleOutputs_actionSet]
    exact mem_idsWhere.mpr ⟨_, mem_of_findInst (s := z) found, rfl, rfl⟩

theorem Starts.noLimit {s y z : State} {tag : Byte} {t : Tuner} {resume : Bool} {i : Inst} {log : CondLog}
    (e : Starts t resume i log y z) : heldDue (.heldLimit i.id) (settleOutputs s (helloAnswered tag s z)) = none := by
  have other : DueKind.heldLimit i.id ≠ .wakeDue := nofun
  rw [settleOutputs_heldDue s _ other]
  exact e.limit

/-! ## The records (R162, R163) -/

theorem helloWork_asleep {p : HostState} (h : p ≠ .awake) (k : Nat) (s : State) :
    helloWork p k s = takeUpWork (dropClaims s) := by
  cases p with
  | awake => exact absurd rfl h
  | _ => rfl

theorem helloWork_awake (k : Nat) (s : State) : helloWork .awake k s =
    takeUpWork (interruptHost (submit (restarted (if k = 0 then .soft else .deferred)) s)) := rfl

theorem runningCount_eq_zero {s : State} : runningCount s = 0 ↔ ∀ j ∈ s.lst.insts, isRunning j.state = false := by
  simp [runningCount, List.filter_eq_nil_iff]

theorem closeSegment_closed (t : Nat) (g : Segment) : closeSegment t (closeSegment t g) = closeSegment t g := by
  cases h : g.stop with
  | none => simp only [closeSegment, h]
  | some m => simp only [closeSegment, h]

theorem closeSegments_closed (t : Nat) (i : Inst) : closeSegments t (closeSegments t i) = closeSegments t i := by
  simp only [closeSegments, List.map_map]
  congr 1
  exact List.map_congr_left (fun g _ => closeSegment_closed t g)

/-- A recording that ends at once after a failure of the host, as if it had ended in its hands. -/
theorem finished_lostAt {fin : InstState} {c : Cause} {t : Nat} {i : Inst} (h : i.state = .starting ∨ i.state = .recording) :
    finished fin c none t (lostAt t i) = finished fin c none t { i with entries := i.entries + 1 } := by
  have segments : (lostAt t i).segments.map (closeSegment t) = i.segments.map (closeSegment t) := by
    rw [lostAt_running h]
    exact congrArg Inst.segments (closeSegments_closed t i)
  unfold finished closeSegments
  rw [segments, lostAt_running h]
  rfl

/-- A recording that resumes at once after a failure of the host. -/
theorem startedAs_lostAt {t : Nat} {x : Tuner} {m : Nat} {i : Inst} (h : i.state = .starting ∨ i.state = .recording)
    (ho : i.overrun = none) (hf : i.stopFixed = false) :
    startedAs true x m (lostAt t i) = started x m { closeSegments t i with entries := i.entries + 1 } := by
  rw [lostAt_running h]
  simp [startedAs, started, closeSegments, ho, hf]

/-! ## The resumes and the held starts, each as all the work (R163) -/

section Resume

variable {s l y : State} {n e : Nat} {i : Inst} {f : Inst → Inst} {late : Bool} {t : Tuner}

theorem Ready.resume_closed (h : Ready s n f l.cnd s.bkt late y) (hd : DistinctIds s) (hi : findInst n s = some i)
    (ho : OnlyWaits n s) (hs : (f i).state = .interrupted) (hr : (f i).runEnd = some e) (he : e ≤ s.clk.count + 5) :
    Taken s n (fun j => finished .done .windowClosed none s.clk.count (f j)) l.cnd
        (doneTable (finished .done .windowClosed none s.clk.count (f i)) s) (takeUpWork y) ∧
      (late = true → (takeUpWork y).pln = dirtied true s.pln) := by
  have judged := judgeResume_closed (h.found hi) hs hr (by rwa [h.count])
  obtain ⟨taken, dirty⟩ := h.ended (fin := .done) (c := .windowClosed) hd hi ho rfl
  rw [takeUpWork_resume (h.distinct hd) (h.found hi) hs (h.onlyWaits ho) (by rw [judged]; exact taken.nobody), judged]
  exact ⟨taken, fun late => dirty (.inl late)⟩

theorem Ready.resume_limit (h : Ready s n f l.cnd s.bkt late y) (hl : l.clk.count = s.clk.count) (hd : DistinctIds s)
    (hi : findInst n s = some i) (ho : OnlyWaits n s) (hs : (f i).state = .interrupted) (hr : (f i).runEnd = some e)
    (he : s.clk.count + 5 < e) (hg : 4 ≤ (f i).segments.length) (ht : (f i).tuner = some t)
    (hb : (f i).booking = i.booking) :
    Taken s n (fun j => finished .failed .resumeLimit none s.clk.count (f j))
        (submit (tunerCond t .hard .resumeLimit i) l).cnd s.bkt (takeUpWork y) ∧
      (takeUpWork y).pln = dirtied true s.pln := by
  have judged := judgeResume_limit (h.found hi) hs hr (by rwa [h.count]) hg
  have named : condFor (bankOf (f i)) .hard .resumeLimit (f i) = tunerCond t .hard .resumeLimit i := by
    rw [bankOf, ht, condFor, h.ids, hb]
    rfl
  rw [named] at judged
  obtain ⟨ended, dirty⟩ := h.ended (fin := .failed) (c := .resumeLimit) hd hi ho rfl
  have taken := ended.submit hl (tunerCond t .hard .resumeLimit i)
  rw [takeUpWork_resume (h.distinct hd) (h.found hi) hs (h.onlyWaits ho) (by rw [judged]; exact taken.nobody), judged]
  exact ⟨taken, (submit_pln ..).trans (dirty (.inr (.inl rfl)))⟩

theorem Ready.resume_starts (h : Ready s n f l.cnd s.bkt late y) (hd : DistinctIds s) (hi : findInst n s = some i)
    (ho : OnlyWaits n s) (hs : (f i).state = .interrupted) (hr : (f i).runEnd = some e) (he : s.clk.count + 5 < e)
    (hg : (f i).segments.length < 4) (ht : (f i).tuner = some t) :
    Taken s n (fun j => startedAs true t e (f j)) l.cnd s.bkt (takeUpWork y) ∧
      ∀ tag, TakenUp n t (f i).mux e (settleOutputs s (helloAnswered tag s (takeUpWork y))) := by
  have judged := judgeResume_starts (h.found hi) hs hr (by rwa [h.count]) hg h.free ht
  have stop : stopOf true (f i) = e := by
    rw [stopOf, if_pos rfl, hr]
    rfl
  have starts := startOn_starts (t := t) (resume := true) (late := false) (i := f i) (s := y)
    (by rw [findInst_id (h.found hi)]; exact h.found hi)
  rw [if_neg (fun late => Bool.false_ne_true late.1), findInst_id (h.found hi), h.cnd] at starts
  have taken := starts.taken h hd hi ho
  have takenUp (tag : Byte) := starts.takenUp (s := s) (tag := tag) (h.found hi) h.free
  rw [stop] at taken takenUp
  rw [takeUpWork_resume (h.distinct hd) (h.found hi) hs (h.onlyWaits ho) (by rw [judged]; exact taken.nobody), judged]
  exact ⟨taken, takenUp⟩

end Resume

section Held

variable {s l y : State} {n : Nat} {i : Inst} {late : Bool} {t : Tuner} {w : Window}

theorem heldLimit_eq (h : i.window = some w) : heldLimit i = min (w.we - 60) (i.start + i.dur) := by
  rw [heldLimit, h]
  rfl

theorem winEnd_eq (h : i.window = some w) : winEnd i = w.we := by
  rw [winEnd, h]
  rfl

theorem Ready.held_starts (h : Ready s n (fun j => j) l.cnd s.bkt late y) (hl : l.clk.count = s.clk.count)
    (hd : DistinctIds s) (hi : findInst n s = some i) (ho : OnlyWaits n s)
    (others : ∀ j ∈ s.lst.insts, j.id ≠ n → isRunning j.state = false) (hs : i.state = .planned ∧ i.startHeld = true)
    (ht : i.tuner = some t) (hw : i.window = some w) (he : s.clk.count + 5 < heldLimit i) :
    Taken s n (started t w.we) (if i.start < s.clk.count then submit (tunerCond t .deferred .startLate i) l else l).cnd
        s.bkt (takeUpWork y) ∧
      ∀ tag, TakenUp n t i.mux w.we (settleOutputs s (helloAnswered tag s (takeUpWork y))) ∧
        heldDue (.heldLimit n) (settleOutputs s (helloAnswered tag s (takeUpWork y))) = none := by
  have found : findInst n y = some i := h.found hi
  have noRecording : ∀ j ∈ y.lst.insts, j.state ≠ .recording := fun j hj hr => by
    by_cases same : j.id = n
    · rw [mem_eq_of_findInst (h.distinct hd) found hj same, hs.1] at hr
      cases hr
    · have running := others j (h.others hj same) same
      rw [hr] at running
      exact Bool.false_ne_true running.symm
  have taking := takeHeld_starts found hs (by rwa [h.count]) h.free ht noRecording
  have starts := startOn_starts (t := t) (resume := false) (late := true) (i := i) (s := y)
    (by rw [findInst_id found]; exact found)
  have log : (if true = true ∧ i.start < y.clk.count then (submit (tunerCond t .deferred .startLate i) y).cnd else y.cnd) =
      (if i.start < s.clk.count then submit (tunerCond t .deferred .startLate i) l else l).cnd := by
    rw [h.count]
    by_cases late : i.start < s.clk.count
    · rw [if_pos ⟨rfl, late⟩, if_pos late, submit_cnd_congr _ h.cnd (h.count.trans hl.symm)]
    · rw [if_neg (fun both => late both.2), if_neg late, h.cnd]
  rw [log] at starts
  have noLimit (tag : Byte) := starts.noLimit (s := s) (tag := tag)
  rw [findInst_id found] at starts noLimit
  have taken := starts.taken h hd hi ho
  have takenUp (tag : Byte) := starts.takenUp (s := s) (tag := tag) found h.free
  have stop : stopOf false i = w.we := winEnd_eq hw
  rw [stop] at taken takenUp
  rw [takeUpWork_held (h.distinct hd) found hs (h.onlyWaits ho), taking]
  exact ⟨taken, fun tag => ⟨takenUp tag, noLimit tag⟩⟩

theorem Ready.held_missed (h : Ready s n (fun j => j) l.cnd s.bkt late y) (hl : l.clk.count = s.clk.count)
    (hd : DistinctIds s) (hi : findInst n s = some i) (ho : OnlyWaits n s) (hs : i.state = .planned ∧ i.startHeld = true)
    (ht : i.tuner = some t) (he : heldLimit i ≤ s.clk.count + 5) :
    Taken s n (finished .missed .heldTooLong none s.clk.count) (submit (tunerCond t .hard .missed i) l).cnd s.bkt
        (takeUpWork y) ∧
      (takeUpWork y).pln = dirtied true s.pln := by
  have found : findInst n y = some i := h.found hi
  obtain ⟨ended, dirty⟩ := h.ended (fin := .missed) (c := .heldTooLong) hd hi ho rfl
  rw [takeUpWork_held (h.distinct hd) found hs (h.onlyWaits ho), takeHeld_missed found hs (by rwa [h.count]) ht]
  exact ⟨ended.submit hl _, (submit_pln ..).trans (dirty (.inr (.inr rfl)))⟩

end Held

/-! ## The obligation -/

theorem HelloDid.after {tag : Byte} {n : Nat} {i : Inst} {f : Inst → Inst} {log : CondLog} {s u : State}
    (h : HelloDid tag n i f log s u) : exec (.hello tag []) s = .next u ∧ u.wsv = afterHello s.wsv ∧ u.run.claims = [] ∧
      u.lst.insts = changedAt n f s ∧ u.gst = s.gst ∧
      u.bkt = (if (f i).state = .done then doneTable (f i) s else s.bkt) ∧
      ∃ v, u.lnk.tx = s.lnk.tx ++ [okTo 0x01 tag (.hello v)] ∧ v.previous = s.wsv.host ∧
        v.running = runningCount u ∧ v.placeable = placeableCount u ∧ v.terminal = terminalCount u :=
  ⟨h.run, h.wsv, h.claims, h.insts, h.gst, h.bkt, h.reply⟩

section Hello

variable {s y : State} {tag : Byte} {n : Nat} {i : Inst} {t : Tuner} {w : Window}

/-- The recordings but this one are at rest. -/
abbrev OthersRest (n : Nat) (s : State) : Prop :=
  ∀ j ∈ s.lst.insts, j.id ≠ n → isRunning j.state = false ∧ ¬ (j.state = .planned ∧ j.startHeld = true)

theorem OthersRest.onlyWaits (h : OthersRest n s) : OnlyWaits n s := fun j hj other => by
  obtain ⟨rests, unheld⟩ := h j hj other
  refine ⟨fun hs => ?_, unheld⟩
  rw [hs] at rests
  exact Bool.false_ne_true rests.symm

/-- With one recording in its hands, a restart of the host is DEFERRED (R187). -/
theorem restarted_deferred (hi : findInst n s = some i) (hr : isRunning i.state = true) :
    (if runningCount s = 0 then CondClass.soft else .deferred) = .deferred :=
  if_neg (fun none => by
    rw [runningCount_eq_zero.mp none i (mem_of_findInst hi)] at hr
    exact Bool.false_ne_true hr)

/-- The one tuner with work holds this recording alone. -/
theorem active_alone (here : (tunerRun t s).active = [n]) (there : (tunerRun (otherTuner t) s).active = [])
    (hw : WithHost i) (x : Tuner) : ∀ k ∈ (tunerRun x s).active, k = n ∧ WithHost i := by
  intro k hk
  obtain rfl | rfl : x = t ∨ x = otherTuner t := by cases x <;> cases t <;> simp [otherTuner]
  · rw [here] at hk
    exact ⟨List.mem_singleton.mp hk, hw⟩
  · rw [there] at hk
    cases hk

/-- The work of a restart that finds one recording in the hands of the host. -/
theorem helloWork_restarted (awake : s.wsv.host = .awake) (hi : findInst n s = some i) (hr : isRunning i.state = true) :
    helloWork s.wsv.host (runningCount s) (greeting tag s) =
      takeUpWork (interruptHost (submit (restarted .deferred) (greeting tag s))) := by
  rw [awake, helloWork_awake, restarted_deferred hi hr]

/-- A restart finds a recording that was STARTING or RECORDING interrupted, the Booking Table standing (R162). -/
theorem ready_interrupted (hd : DistinctIds s) (hg : ∀ t, (tunerRun t s).mon ≠ .gap) (hi : findInst n s = some i)
    (rest : OthersRest n s) (here : (tunerRun t s).active = [n]) (there : (tunerRun (otherTuner t) s).active = [])
    (h : i.state = .starting ∨ i.state = .recording) :
    Ready s n (lostAt s.clk.count) (submit (restarted .deferred) s).cnd s.bkt i.overrun.isSome
      (interruptHost (submit (restarted .deferred) (greeting tag s))) := by
  have hands : WithHost i := h.imp_right .inl
  have R := ready_restarted (tag := tag) (cls := .deferred) hd hg hi (fun j hj other => (rest j hj other).1)
    (active_alone here there hands)
  have unended : ¬ EndsDone i := by
    rintro ⟨hs, -⟩
    rw [hs] at h
    obtain h | h := h <;> cases h
  rwa [if_neg unended, decide_eq_true hands, Bool.true_and] at R

/-- A pass that the work has asked for is asked for by the HELLO (R94). -/
theorem helloAnswered_passAsked {z : State} (h : z.pln = dirtied true s.pln) :
    PassAsked s (settleOutputs s (helloAnswered tag s z)) := settleOutputs_asks h

/-- A recording interrupted by a restart, whose run end is at hand, has ended DONE (R162, R163). -/
theorem Ready.did_close {l : State} {late : Bool} {e : Nat}
    (R : Ready s n (lostAt s.clk.count) l.cnd s.bkt late y) (hT : Takes [] s) (hd : DistinctIds s)
    (hi : findInst n s = some i) (ho : OnlyWaits n s) (h : i.state = .starting ∨ i.state = .recording)
    (work : helloWork s.wsv.host (runningCount s) (greeting tag s) = takeUpWork y)
    (hr : (lostAt s.clk.count i).runEnd = some e) (he : e ≤ s.clk.count + 5) :
    HelloDid tag n i (fun j => finished .done .windowClosed none s.clk.count { j with entries := j.entries + 1 }) l.cnd s
        (settleOutputs s (helloAnswered tag s (takeUpWork y))) ∧
      (late = true → PassAsked s (settleOutputs s (helloAnswered tag s (takeUpWork y)))) := by
  have same := finished_lostAt (fin := .done) (c := .windowClosed) (t := s.clk.count) h
  obtain ⟨taken, dirty⟩ := R.resume_closed hd hi ho (by rw [lostAt_running h]) hr he
  rw [same] at taken
  exact ⟨(taken.congr hd hi same).did rfl hT work, fun hl => helloAnswered_passAsked (dirty hl)⟩

/-- A restart leaves no work where the recording was STOPPING: it has ended (R162). -/
theorem Ready.stopping_taken {log : CondLog} {table : BookingTable} {late : Bool}
    (R : Ready s n (lostAt s.clk.count) log table late y) (hd : DistinctIds s) (hi : findInst n s = some i)
    (ho : OnlyWaits n s) (hs : i.state = .stopping) : Taken s n (lostAt s.clk.count) log table (takeUpWork y) := by
  have ended : (lostAt s.clk.count i).state = .failed ∨ (lostAt s.clk.count i).state = .done := by
    rw [lostAt_stopping hs]
    split
    · exact .inl rfl
    · exact .inr rfl
  have nobody : NobodyWaits y := by
    refine nobodyWaits_changedAt hd hi ho R.insts ?_ ?_
    all_goals
      obtain h | h := ended
      all_goals
        rw [h]
        exact nofun
  rw [takeUpWork_nobody nobody]
  exact ⟨R.insts, R.claims, R.gst, R.wsv, R.cnd, R.count, R.tx, R.bkt, nobody⟩

/-- The state that finds a held start, whatever the host was: HOST_RESTARTED is SOFT when it was AWAKE (R187, R188). -/
theorem ready_held (hd : DistinctIds s) (hg : ∀ t, (tunerRun t s).mon ≠ .gap) (hi : findInst n s = some i)
    (rest : OthersRest n s) (hs : i.state = .planned) (idle : ∀ x, (tunerRun x s).active = []) :
    ∃ y late, Ready s n (fun j => j) (if s.wsv.host = .awake then submit (restarted .soft) s else s).cnd s.bkt late y ∧
      helloWork s.wsv.host (runningCount s) (greeting tag s) = takeUpWork y := by
  by_cases awake : s.wsv.host = .awake
  · have out : ¬ WithHost i := by
      rw [WithHost, hs]
      simp
    have unended : ¬ EndsDone i := fun ends => out (.inr (.inr ends.1))
    have R := ready_restarted (tag := tag) (cls := .soft) hd hg hi (fun j hj other => (rest j hj other).1)
      (fun x k hk => by
        rw [idle] at hk
        cases hk)
    rw [if_neg unended] at R
    have none : runningCount s = 0 := runningCount_eq_zero.mpr (fun j hj => by
      by_cases same : j.id = n
      · rw [mem_eq_of_findInst hd hi hj same, hs]
        rfl
      · exact (rest j hj same).1)
    rw [if_pos awake]
    refine ⟨_, _, R.congr hd hi (lostAt_other out) (fun _ => rfl), ?_⟩
    rw [awake, helloWork_awake, if_pos none]
  · rw [if_neg awake]
    exact ⟨_, _, ready_asleep hg idle, helloWork_asleep awake _ _⟩

end Hello

/-- Settles O39: the host's state and the one recording say which state finds the work, and its judgement what it makes of
it. -/
theorem helloTakesUpWork : Obligations.HelloTakesUpWork := by
  intro s tag n i t w hS hd hT hg hi ht hw rest
  have ho : OnlyWaits n s := OthersRest.onlyWaits rest
  have others : ∀ j ∈ s.lst.insts, j.id ≠ n → isRunning j.state = false := fun j hj other => (rest j hj other).1
  refine ⟨fun e asleep hs hr idle => ?_, fun awake here there => ⟨fun hs => ?_, fun hs late => ?_, fun hs late fixed => ?_⟩,
    fun hs hh idle => ?_⟩
  case refine_1 =>
    have R := ready_asleep (tag := tag) (n := n) hg idle
    have work := helloWork_asleep asleep (runningCount s) (greeting tag s)
    refine ⟨fun he => ?_, fun he four => ?_, fun he four => ?_⟩
    · obtain ⟨taken, -⟩ := R.resume_closed (l := s) hd hi ho hs hr he
      have did := taken.did (i := i) rfl hT work
      exact ⟨_, did.after, did.cnd⟩
    · obtain ⟨taken, dirty⟩ := R.resume_limit (l := s) rfl hd hi ho hs hr he four ht rfl
      have did := taken.did (i := i) rfl hT work
      exact ⟨_, did.after, helloAnswered_passAsked dirty, did.cnd⟩
    · obtain ⟨taken, takenUp⟩ := R.resume_starts (l := s) hd hi ho hs hr he four ht
      have did := taken.did (i := i) rfl hT work
      exact ⟨_, did.after, takenUp tag, did.cnd⟩
  case refine_2 =>
    have hands : WithHost i := .inr (.inr hs)
    have R := ready_restarted (tag := tag) (cls := .deferred) hd hg hi others (active_alone here there hands)
    have work := helloWork_restarted (tag := tag) awake hi (isRunning_of_withHost hands)
    have lost : lostAt s.clk.count i = (if i.stopReason = some .abandoned then
        finished .failed .abandoned none s.clk.count else finished .done .hostLost none s.clk.count) i := by
      rw [lostAt_stopping hs]
      split <;> rfl
    have taken := (R.stopping_taken hd hi ho hs).congr hd hi lost
    have did := taken.did (i := i) (by
      rw [← lost]
      simp only [lostAt_done_iff hands]) hT work
    exact ⟨_, did.after, did.cnd⟩
  case refine_3 =>
    have R := ready_interrupted (tag := tag) hd hg hi rest here there (.inr hs)
    have overruns : i.overrun.isSome = true := Option.isSome_iff_ne_none.mpr late
    have ends : (lostAt s.clk.count i).runEnd = some s.clk.count := by
      rw [lostAt_running (.inr hs), runEndOf, if_pos overruns]
    obtain ⟨did, asks⟩ := R.did_close (l := submit (restarted .deferred) s) hT hd hi ho (.inr hs)
      (helloWork_restarted awake hi (by rw [hs]; rfl)) ends (Nat.le_add_right _ 5)
    exact ⟨_, did.after, asks overruns, did.cnd⟩
  case refine_4 =>
    have R := ready_interrupted (tag := tag) hd hg hi rest here there hs
    have lost := lostAt_running (t := s.clk.count) hs
    have work := helloWork_restarted (tag := tag) awake hi (by obtain h | h := hs <;> rw [h] <;> rfl)
    have ends : (lostAt s.clk.count i).runEnd = some w.we := by
      rw [lost, runEndOf, late, fixed, winEnd_eq hw]
      rfl
    have interrupted : (lostAt s.clk.count i).state = .interrupted := by rw [lost]
    have tuner : (lostAt s.clk.count i).tuner = some t := by
      rw [lost]
      exact ht
    have booking : (lostAt s.clk.count i).booking = i.booking := by
      rw [lost]
      rfl
    have mux : (lostAt s.clk.count i).mux = i.mux := by
      rw [lost]
      rfl
    have segments : (lostAt s.clk.count i).segments.length = i.segments.length := by
      rw [lost]
      exact List.length_map _
    refine ⟨fun he => ?_, fun he four => ?_, fun he four => ?_⟩
    · obtain ⟨did, -⟩ := R.did_close (l := submit (restarted .deferred) s) hT hd hi ho hs work ends he
      exact ⟨_, did.after, did.cnd⟩
    · obtain ⟨taken, dirty⟩ := R.resume_limit (l := submit (restarted .deferred) s)
        (congrArg (fun c => c.count) (submit_clk ..)) hd hi ho interrupted ends he (by rwa [segments]) tuner booking
      have ended := taken.congr (g := fun j => finished .failed .resumeLimit none s.clk.count
        { j with entries := j.entries + 1 }) hd hi (finished_lostAt hs)
      have did := ended.did (i := i) rfl hT work
      exact ⟨_, did.after, helloAnswered_passAsked dirty, did.cnd⟩
    · obtain ⟨taken, takenUp⟩ := R.resume_starts (l := submit (restarted .deferred) s) hd hi ho interrupted ends he
        (by rwa [segments]) tuner
      have resumed := taken.congr (g := fun j => started t w.we
        { closeSegments s.clk.count j with entries := j.entries + 1 }) hd hi (startedAs_lostAt hs late fixed)
      have did := resumed.did (i := i) rfl hT work
      rw [mux] at takenUp
      exact ⟨_, did.after, takenUp tag, did.cnd⟩
  case refine_5 =>
    obtain ⟨y, late, R, work⟩ := ready_held (tag := tag) hd hg hi rest hs idle
    have count : (if s.wsv.host = .awake then submit (restarted .soft) s else s).clk.count = s.clk.count := by
      split
      · exact congrArg (fun c => c.count) (submit_clk ..)
      · rfl
    refine ⟨fun he => ?_, fun he => ?_⟩
    · obtain ⟨taken, started⟩ := R.held_starts count hd hi ho others ⟨hs, hh⟩ ht hw (by rwa [heldLimit_eq hw])
      obtain ⟨takenUp, noLimit⟩ := started tag
      have did := taken.did (i := i) rfl hT work
      exact ⟨_, did.after, takenUp, noLimit, did.cnd⟩
    · obtain ⟨taken, dirty⟩ := R.held_missed count hd hi ho ⟨hs, hh⟩ ht (by rwa [heldLimit_eq hw])
      have did := taken.did (i := i) rfl hT work
      exact ⟨_, did.after, helloAnswered_passAsked dirty, did.cnd⟩

end Sys2Proof.Machine

/-! PROOFS. What an install does with two recordings of one id: the counterexample to O22. -/

namespace Sys2Proof.Machine

set_option Elab.async false

open Sys2Proof

/-- A recording of booking 1 under id 5, with a window on tuner A. -/
def sharedIdInst (st : InstState) (cut : Option Nat) : Inst :=
  { id := 5, booking := 1, origin := .event { service := 10, event := 1 }, episode := none, service := 10, mux := 20
    start := 100100, dur := 1800, prePad := 100, postPad := 300, window := some { ws := 100000, we := 102200 }
    tuner := some .a, verdict := some .whole, planPriority := some 4, state := st, alts := [], segments := []
    gapTenths := 0, stopReason := none, overrun := none, cutBy := cut, startHeld := false, runEnd := none
    outcome := none, stopAt := none, stopFixed := false, raiseDue := false, entries := 0 }

/-- A snapshot that holds no booking, no guide event and no recording. -/
def emptySnapshot : Snapshot :=
  { bookings := [], guide := [], history := [], insts := [], claims := [], tunerA := idleTuner, tunerB := idleTuner
    now := 100000, offset := 0, change := none }

/-- A pass over the empty snapshot while a PLANNED recording whose window starts now and a DONE one that still carries a
cut mark share the id 5, which `InstallWritesThePlan` does not exclude in its second part. -/
def sharedIdPass : State :=
  { State.reset with
    clk := { powerOnClock with count := 100000, cstate := .running, delays := [] }
    lst := { freshList with insts := [sharedIdInst .planned none, sharedIdInst .done (some 9)] }
    pln := { freshPlanner with passState := .pass, snapshot := some emptySnapshot }
    wsv := { powerOnWake with host := .awake, wakeOut := false } }

/-- The marks are written while the second recording is terminal, so it keeps its own; the hand-off then starts id 5, and
both recordings of that id enter STARTING. -/
theorem sharedIdPass_install : ∃ t, exec .install sharedIdPass = .next t ∧
    t.lst.insts.map (fun i => (i.id, i.state, i.cutBy)) = [(5, .starting, none), (5, .starting, some 9)] :=
  ⟨_, rfl, by decide +kernel⟩

/-- Refutes O22: with no hypothesis that the ids are distinct, a recording that was terminal when the marks were written can
be live after the install, with a cut mark that names no overrun of the snapshot. -/
theorem not_installWritesThePlan : ¬ Obligations.InstallWritesThePlan := by
  rintro ⟨-, marks, -⟩
  obtain ⟨t, installed, after⟩ := sharedIdPass_install
  obtain ⟨-, cut⟩ := marks sharedIdPass t emptySnapshot rfl rfl installed
  have shown : (5, InstState.starting, some 9) ∈ t.lst.insts.map (fun i => (i.id, i.state, i.cutBy)) := by
    simp [after]
  obtain ⟨i, hi, e⟩ := List.mem_map.mp shown
  obtain ⟨-, state, mark⟩ : i.id = 5 ∧ i.state = .starting ∧ i.cutBy = some 9 := by simpa using e
  obtain ⟨j, hj, -⟩ := cut i hi (by rw [state]; rfl) (.inr (fun b hb => absurd hb List.not_mem_nil)) (by simp [mark])
  exact absurd hj List.not_mem_nil

end Sys2Proof.Machine

/-! PROOFS. What the expansion of a booking asks for (R61 to R72): creations of that booking, twelve recordings at most
(R70), and four alternates at most on each (R61). -/

namespace Sys2Proof.Machine

set_option Elab.async false

open Sys2Proof

/-! ## Creations (R61 to R72) -/

/-- A creation for a booking, with four alternates at most (R61). -/
abbrev CreatesFor (b : Booking) (c : Creation) : Prop := c.booking = b.id ∧ c.alts.length ≤ 4

theorem firstFour_length (rs : List GuideRec) : (firstFour rs).length ≤ 4 := by
  simp [firstFour]

theorem eventAlts_length (p : Snapshot) (b : Booking) (self : Option Nat) (o : Origin) (e : Option Ref) :
    (eventAlts p b self o e).length ≤ 4 := by
  cases e with
  | none => simp [eventAlts]
  | some ep => exact firstFour_length _

theorem createFirst_for (b : Booking) (rs : List GuideRec) : ∀ c ∈ createFirst b rs, CreatesFor b c := by
  cases rs with
  | nil => simp [createFirst]
  | cons r rest =>
    intro c hc
    obtain rfl := List.mem_singleton.mp hc
    exact ⟨rfl, firstFour_length rest⟩

theorem firstEvent_for (p : Snapshot) (b : Booking) (k : EventKey) (l : LastKnown) :
    ∀ c ∈ firstEvent p b k l, CreatesFor b c := by
  unfold firstEvent
  dsimp only
  split
  · intro c hc
    obtain rfl := List.mem_singleton.mp hc
    exact ⟨rfl, eventAlts_length ..⟩
  · split
    · simp
    · exact createFirst_for b _

theorem retryEvent_for (p : Snapshot) (b : Booking) (l : LastKnown) : ∀ c ∈ retryEvent p b l, CreatesFor b c := by
  unfold retryEvent
  split
  · simp
  · exact createFirst_for b _

theorem expandEvent_for (p : Snapshot) (b : Booking) (k : EventKey) (l : LastKnown) :
    ∀ c ∈ (expandEvent p b k l).creations, CreatesFor b c := by
  unfold expandEvent
  dsimp only
  split
  · simp
  · split
    · exact firstEvent_for p b k l
    · exact retryEvent_for p b l

theorem seriesRequests_for (p : Snapshot) (b : Booking) (r : Ref) (newOnly : Bool) (ms : List GuideRec) :
    ∀ c ∈ seriesRequests p b r newOnly ms, CreatesFor b c := by
  intro c hc
  obtain ⟨x, hx, rfl⟩ := List.mem_map.mp hc
  obtain ⟨g, -, hg⟩ := List.mem_filterMap.mp ((mem_sortBy ..).mp hx)
  split at hg
  · cases hg
  · cases hg
    exact ⟨rfl, firstFour_length _⟩

theorem expandManual_for (p : Snapshot) (b : Booking) (m : ManualPart) :
    ∀ c ∈ (expandManual p b m).creations, CreatesFor b c := by
  intro c hc
  obtain ⟨x, -, rfl⟩ := List.mem_map.mp hc
  exact ⟨rfl, Nat.zero_le _⟩

theorem expandBooking_for {p : Snapshot} {b : Booking} {r : BookingResult} (h : expandBooking p b = some r) :
    ∀ c ∈ r.creations, CreatesFor b c := by
  unfold expandBooking at h
  split at h
  · cases h
  · cases h
    exact fun c hc => absurd hc List.not_mem_nil
  · cases h
    intro c hc
    have asked := List.mem_of_mem_take hc
    split at asked
    · exact expandEvent_for p b _ _ c asked
    · exact seriesRequests_for p b _ _ _ c asked
    · exact expandManual_for p b _ c asked

/-! ## The bound of twelve (R70) -/

theorem limitBooking_bound (p : Snapshot) (b : Booking) (r : BookingResult) :
    let kept := ((liveOf p b).filter (fun i => !(limitBooking p b r).removals.contains i.id)).length
    kept + (limitBooking p b r).creations.length ≤ max 12 kept := by
  simp only [limitBooking, List.length_take, Config.perBooking]
  omega

/-- Settles O57: a SUSPENDED booking asks for nothing, and an ACTIVE one for what its room leaves. -/
theorem expansionKeepsTheBoundOfTwelve : Obligations.ExpansionKeepsTheBoundOfTwelve := by
  intro p b r h
  refine ⟨?_, fun c hc => (expandBooking_for h c hc).1⟩
  unfold expandBooking at h
  split at h
  · cases h
  · cases h
    exact le_max_right _ _
  · cases h
    exact limitBooking_bound p b _

end Sys2Proof.Machine

/-! PROOFS. The invariant of the Instance List as one of the list alone (R70, R78, R79), and the ways in which a list that
keeps it may change: recordings rewritten in place, taken out, or put in. -/

namespace Sys2Proof.Machine

set_option Elab.async false

open Sys2Proof

/-! ## One recording -/

/-- Four alternates and four segments at most; none before the start, and room for one more in STARTING (R61, R146). -/
structure InstKept (i : Inst) : Prop where
  alts : i.alts.length ≤ 4
  segments : i.segments.length ≤ Config.segCap
  unstarted : isPlaceable i.state = true → i.segments = []
  room : i.state = .starting → i.segments.length < Config.segCap

/-- A recording may stand as `j` where `i` stood: its place and its booking stay, an ended one stays ended, and it keeps
its bounds. -/
structure Rewrites (i j : Inst) : Prop where
  id : j.id = i.id
  booking : j.booking = i.booking
  start : j.start = i.start
  ended : isTerminal i.state = true → isTerminal j.state = true
  kept : InstKept i → InstKept j

theorem Rewrites.refl (i : Inst) : Rewrites i i := ⟨rfl, rfl, rfl, fun h => h, fun h => h⟩

theorem Rewrites.ite {p : Prop} [Decidable p] {i j k : Inst} (hj : Rewrites i j) (hk : Rewrites i k) :
    Rewrites i (if p then j else k) := by
  split
  · exact hj
  · exact hk

/-- What no bound speaks of has changed. -/
theorem Rewrites.same {i j : Inst} (id : j.id = i.id := by rfl) (booking : j.booking = i.booking := by rfl)
    (start : j.start = i.start := by rfl) (state : j.state = i.state := by rfl) (alts : j.alts = i.alts := by rfl)
    (segments : j.segments = i.segments := by rfl) : Rewrites i j where
  id := id
  booking := booking
  start := start
  ended := fun h => state ▸ h
  kept := fun ⟨ha, hs, hp, hr⟩ =>
    ⟨alts ▸ ha, segments ▸ hs, fun h => segments ▸ hp (state ▸ h), fun h => segments ▸ hr (state ▸ h)⟩

/-- A recording goes over into a state that is neither placeable nor STARTING. -/
theorem Rewrites.moves {i j : Inst} (running : isPlaceable j.state = false) (started : j.state ≠ .starting)
    (ended : isTerminal i.state = true → isTerminal j.state = true) (id : j.id = i.id := by rfl)
    (booking : j.booking = i.booking := by rfl) (start : j.start = i.start := by rfl) (alts : j.alts = i.alts := by rfl)
    (segments : j.segments.length = i.segments.length := by rfl) : Rewrites i j where
  id := id
  booking := booking
  start := start
  ended := ended
  kept := fun ⟨ha, hs, _, _⟩ =>
    ⟨alts ▸ ha, segments ▸ hs, fun h => absurd h (by simp [running]), fun h => absurd h started⟩

theorem isTerminal_of_placeable {st : InstState} (h : isPlaceable st = true) : isTerminal st = false := by
  cases st <;> first | rfl | cases h

/-- A placeable recording stays placeable, with alternates within their bound (R75, R99, R107). -/
theorem Rewrites.replans {i j : Inst} (was : isPlaceable i.state = true) (is : isPlaceable j.state = true)
    (alts : j.alts.length ≤ i.alts.length) (id : j.id = i.id := by rfl)
    (booking : j.booking = i.booking := by rfl) (start : j.start = i.start := by rfl)
    (segments : j.segments = i.segments := by rfl) : Rewrites i j where
  id := id
  booking := booking
  start := start
  ended := fun h => absurd h (by simp [isTerminal_of_placeable was])
  kept := fun ⟨ha, hs, hp, _⟩ =>
    ⟨alts.trans ha, segments ▸ hs, fun _ => segments ▸ hp was, fun h => by simp [h, isPlaceable] at is⟩

/-- A recording that has not ended and has room for a segment starts, or resumes (R143, R163). -/
theorem Rewrites.starts {i j : Inst} (live : isTerminal i.state = false) (room : i.segments.length < Config.segCap)
    (state : j.state = .starting) (id : j.id = i.id := by rfl) (booking : j.booking = i.booking := by rfl)
    (start : j.start = i.start := by rfl) (alts : j.alts = i.alts := by rfl)
    (segments : j.segments = i.segments := by rfl) : Rewrites i j where
  id := id
  booking := booking
  start := start
  ended := fun h => absurd h (by simp [live])
  kept := fun ⟨ha, hs, _, _⟩ =>
    ⟨alts ▸ ha, segments ▸ hs, fun h => by simp [state, isPlaceable] at h, fun _ => segments ▸ room⟩

/-! ## The list (R70, R78, R79) -/

/-- The recordings of a booking that are not terminal (R70). -/
def liveIn (bid : Nat) (xs : List Inst) : Nat :=
  (xs.filter (fun j => j.booking == bid && !isTerminal j.state)).length

theorem liveCount_eq (bid : Nat) (s : State) : liveCount bid s = liveIn bid s.lst.insts := rfl

/-- The invariant of the recordings, of the list alone. -/
structure InstsKept (xs : List Inst) : Prop where
  room : xs.length ≤ Config.instCap
  ids : (xs.map (fun i => i.id)).Nodup
  order : xs.Pairwise (fun a b => instLt a b = true)
  few : ∀ bid, liveIn bid xs ≤ 12
  each : ∀ i ∈ xs, InstKept i

theorem instsKept_nil : InstsKept [] := ⟨by simp, by simp, .nil, by simp [liveIn], by simp⟩

/-- Recordings that leave disturb nothing. -/
theorem InstsKept.sublist {xs ys : List Inst} (h : InstsKept xs) (hs : ys.Sublist xs) : InstsKept ys where
  room := hs.length_le.trans h.room
  ids := h.ids.sublist (hs.map _)
  order := h.order.sublist hs
  few := fun bid => (hs.filter _).length_le.trans (h.few bid)
  each := fun i hi => h.each i (hs.mem hi)

/-- Recordings rewritten in place. -/
theorem InstsKept.map {xs : List Inst} (h : InstsKept xs) {f : Inst → Inst} (hf : ∀ i ∈ xs, Rewrites i (f i)) :
    InstsKept (xs.map f) where
  room := by simpa using h.room
  ids := by
    have same : xs.map ((fun i => i.id) ∘ f) = xs.map (fun i => i.id) := List.map_congr_left (fun i hi => (hf i hi).id)
    rw [List.map_map, same]
    exact h.ids
  order := by
    refine List.pairwise_map.mpr (h.order.imp_of_mem (fun {a b} ha hb hab => ?_))
    simpa [instLt, (hf a ha).id, (hf a ha).start, (hf b hb).id, (hf b hb).start] using hab
  few := fun bid => by
    refine le_trans ?_ (h.few bid)
    simp only [liveIn, ← List.countP_eq_length_filter, List.countP_map]
    refine List.countP_mono_left (fun i hi live => ?_)
    obtain ⟨mine, running⟩ : (f i).booking = bid ∧ isTerminal (f i).state = false := by simpa using live
    have lives : isTerminal i.state = false := by
      by_contra ended
      simp [(hf i hi).ended (by simpa using ended)] at running
    simp [← mine, (hf i hi).booking, lives]
  each := by
    intro j hj
    obtain ⟨i, hi, rfl⟩ := List.mem_map.mp hj
    exact (hf i hi).kept (h.each i hi)

theorem instLt_iff (a b : Inst) : instLt a b = true ↔ a.start < b.start ∨ (a.start = b.start ∧ a.id < b.id) := by
  simp [instLt]

theorem instLt_trans (a b c : Inst) (h : instLt a b = true) (k : instLt b c = true) : instLt a c = true := by
  rw [instLt_iff] at *
  omega

theorem instLt_total {a b : Inst} (h : a.id ≠ b.id) : instLt a b = true ∨ instLt b a = true := by
  rw [instLt_iff, instLt_iff]
  omega

theorem liveIn_insertBy (bid : Nat) (x : Inst) (xs : List Inst) : liveIn bid (insertBy instLt x xs) = liveIn bid (x :: xs) :=
  ((insertBy_perm instLt x xs).filter _).length_eq

theorem liveIn_cons_le (bid : Nat) (x : Inst) (xs : List Inst) : liveIn bid (x :: xs) ≤ liveIn bid xs + 1 := by
  unfold liveIn
  rw [List.filter_cons]
  split
  · simp
  · omega

theorem liveIn_cons_other {bid : Nat} {x : Inst} (h : ¬ (x.booking = bid ∧ isTerminal x.state = false)) (xs : List Inst) :
    liveIn bid (x :: xs) = liveIn bid xs := by
  unfold liveIn
  rw [List.filter_cons_of_neg (by simpa using h)]

/-- A recording of an id that none holds, put at its place (R78, R79). -/
theorem InstsKept.insert {xs : List Inst} (h : InstsKept xs) {x : Inst} (hx : InstKept x) (room : xs.length < Config.instCap)
    (fresh : ∀ i ∈ xs, i.id ≠ x.id) (few : isTerminal x.state = false → liveIn x.booking xs < 12) :
    InstsKept (insertBy instLt x xs) where
  room := by
    rw [length_insertBy]
    omega
  ids := by
    rw [((insertBy_perm instLt x xs).map (fun i => i.id)).nodup_iff, List.map_cons, List.nodup_cons]
    refine ⟨fun hm => ?_, h.ids⟩
    obtain ⟨i, hi, e⟩ := List.mem_map.mp hm
    exact fresh i hi e
  order := insertBy_pairwise instLt x xs instLt_trans (fun y hy => instLt_total (fresh y hy).symm) h.order
  few := fun bid => by
    rw [liveIn_insertBy]
    by_cases mine : x.booking = bid ∧ isTerminal x.state = false
    · obtain ⟨rfl, live⟩ := mine
      exact (liveIn_cons_le _ x xs).trans (few live)
    · rw [liveIn_cons_other mine]
      exact h.few bid
  each := by
    intro i hi
    obtain rfl | hi := (mem_insertBy instLt x i xs).mp hi
    · exact hx
    · exact h.each i hi

/-- A recording rewritten and put at the place its core start gives it (R78, R81). -/
theorem InstsKept.reinsert {xs : List Inst} (h : InstsKept xs) {i j : Inst} (hi : i ∈ xs) (hj : InstKept j)
    (id : j.id = i.id) (booking : j.booking = i.booking) (live : isTerminal i.state = false) :
    InstsKept (insertBy instLt j (xs.filter (fun k => k.id != i.id))) := by
  have others : (xs.filter (fun k => k.id != i.id)).Sublist (xs.erase i) := by
    have nodup : xs.Nodup := .of_map _ h.ids
    rw [nodup.erase_eq_filter]
    refine List.monotone_filter_right xs (fun k hk => ?_)
    have other : k.id ≠ i.id := by simpa using hk
    simpa using fun e : k = i => other (e ▸ rfl)
  have kept := h.sublist List.filter_sublist (ys := xs.filter (fun k => k.id != i.id))
  refine kept.insert hj ?_ (fun k hk => ?_) (fun _ => ?_)
  · have := others.length_le
    rw [List.length_erase_of_mem hi] at this
    have := List.length_pos_of_mem hi
    have := h.room
    omega
  · rw [id]
    simpa using (List.mem_filter.mp hk).2
  · have few := h.few i.booking
    have split : liveIn i.booking xs = liveIn i.booking (i :: xs.erase i) :=
      ((List.perm_cons_erase hi).filter _).length_eq
    have counted : liveIn i.booking (i :: xs.erase i) = liveIn i.booking (xs.erase i) + 1 := by
      simp [liveIn, live]
    have fewer : liveIn i.booking (xs.filter (fun k => k.id != i.id)) ≤ liveIn i.booking (xs.erase i) :=
      (others.filter _).length_le
    rw [booking]
    omega

/-! ## The state -/

/-- The alternates of a snapshot's recordings within their bound. -/
abbrev SnapshotKept (o : Option Snapshot) : Prop := ∀ sn ∈ o, ∀ i ∈ sn.insts, i.alts.length ≤ 4

/-- The invariant of the Instance List, of the list, its next id and the snapshot of a pass. -/
theorem listKept_iff (s : State) : ListKept s ↔
    InstsKept s.lst.insts ∧ (1 ≤ s.lst.nextId ∧ s.lst.nextId ≤ 65535) ∧ SnapshotKept s.pln.snapshot := by
  constructor
  · rintro ⟨⟨room, ids, lo, hi⟩, order, few, each, snap⟩
    refine ⟨⟨room, ids, order, fun bid => ?_, fun i hi => ?_⟩, ⟨lo, hi⟩, snap⟩
    · by_contra many
      obtain ⟨i, hi⟩ := List.exists_mem_of_length_pos (l := s.lst.insts.filter
        (fun j => j.booking == bid && !isTerminal j.state)) (by unfold liveIn at many; omega)
      obtain ⟨held, mine⟩ := List.mem_filter.mp hi
      obtain ⟨rfl, -⟩ : i.booking = bid ∧ isTerminal i.state = false := by simpa using mine
      exact many (few i held)
    · obtain ⟨alts, segments, unstarted, room⟩ := each i hi
      exact ⟨alts, segments, unstarted, room⟩
  · rintro ⟨h, ⟨lo, hi⟩, snap⟩
    refine ⟨⟨h.room, h.ids, lo, hi⟩, h.order, fun i _ => h.few i.booking, fun i hi => ?_, snap⟩
    obtain ⟨alts, segments, unstarted, room⟩ := h.each i hi
    exact ⟨alts, segments, unstarted, room⟩

/-- The recordings of another state keep the invariant, and its next id and snapshot are the same. -/
theorem listKept_of_insts {s t : State} (h : ListKept s) (hi : InstsKept s.lst.insts → InstsKept t.lst.insts)
    (hn : t.lst.nextId = s.lst.nextId) (hp : t.pln.snapshot = s.pln.snapshot) : ListKept t := by
  obtain ⟨insts, next, snap⟩ := (listKept_iff s).mp h
  exact (listKept_iff t).mpr ⟨hi insts, hn ▸ next, hp ▸ snap⟩

theorem listKept_insts {s : State} (h : ListKept s) : InstsKept s.lst.insts := ((listKept_iff s).mp h).1

theorem listKept_distinct {s : State} (h : ListKept s) : DistinctIds s := (listKept_insts h).ids

theorem listKept_snapshot {s : State} (h : ListKept s) : SnapshotKept s.pln.snapshot := ((listKept_iff s).mp h).2.2

end Sys2Proof.Machine

/-! PROOFS. The operations the commands share keep the Instance List: most leave it alone but for gap tenths, the others
rewrite one recording as its rule allows (R70, R78, R79). -/

namespace Sys2Proof.Machine

set_option Elab.async false

open Sys2Proof

/-! ## From one state to another -/

/-- What holds of `s` holds of `t`. -/
def Keeps (P : State → Prop) (s t : State) : Prop := P s → P t

section Combinators

variable {P : State → Prop} {s t u : State}

theorem Keeps.refl (s : State) : Keeps P s s := id

theorem Keeps.trans (h : Keeps P s t) (k : Keeps P t u) : Keeps P s u := fun hs => k (h hs)

theorem Keeps.ite {p : Prop} [Decidable p] (ht : Keeps P s t) (hu : Keeps P s u) : Keeps P s (if p then t else u) := by
  split
  · exact ht
  · exact hu

/-- A fold over anything that carries a state keeps what each of its steps keeps. -/
theorem Keeps.foldl_of {α β : Type} (p : β → State) {f : β → α → β} {xs : List α}
    (h : ∀ b, ∀ x ∈ xs, Keeps P (p b) (p (f b x))) (b : β) : Keeps P (p b) (p (xs.foldl f b)) := by
  induction xs generalizing b with
  | nil => exact .refl (p b)
  | cons x xs ih =>
    exact (h b x List.mem_cons_self).trans (ih (fun b y hy => h b y (List.mem_cons_of_mem x hy)) (f b x))

theorem Keeps.foldl {α : Type} {f : State → α → State} (h : ∀ u x, Keeps P u (f u x)) (xs : List α) (s : State) :
    Keeps P s (xs.foldl f s) := .foldl_of id (fun u x _ => h u x) s

end Combinators

/-- From `s` to `t` the recordings have changed in their gap tenths alone (R159); the next id and the snapshot stand. -/
structure SameList (s t : State) : Prop where
  insts : ∃ f : Inst → Inst, (∀ i, { f i with gapTenths := i.gapTenths } = i) ∧ t.lst.insts = s.lst.insts.map f
  nextId : t.lst.nextId = s.lst.nextId
  snapshot : t.pln.snapshot = s.pln.snapshot

section SameList

variable {s t u : State}

/-- An operation that leaves the recordings alone altogether. -/
theorem SameList.same (hi : t.lst.insts = s.lst.insts := by simp) (hn : t.lst.nextId = s.lst.nextId := by simp)
    (hp : t.pln.snapshot = s.pln.snapshot := by simp) : SameList s t := ⟨⟨id, fun _ => rfl, by simpa using hi⟩, hn, hp⟩

theorem SameList.refl (s : State) : SameList s s := .same rfl rfl rfl

theorem SameList.trans (h : SameList s t) (k : SameList t u) : SameList s u := by
  obtain ⟨f, hf, ht⟩ := h.insts
  obtain ⟨g, hg, hu⟩ := k.insts
  refine ⟨⟨g ∘ f, fun i => ?_, by rw [hu, ht, List.map_map]⟩, k.nextId.trans h.nextId, k.snapshot.trans h.snapshot⟩
  calc { (g (f i)) with gapTenths := i.gapTenths }
      = { ({ (g (f i)) with gapTenths := (f i).gapTenths } : Inst) with gapTenths := i.gapTenths } := rfl
    _ = { (f i) with gapTenths := i.gapTenths } := by rw [hg]
    _ = i := hf i

theorem SameList.ite {p : Prop} [Decidable p] (ht : SameList s t) (hu : SameList s u) :
    SameList s (if p then t else u) := by
  split
  · exact ht
  · exact hu

theorem SameList.foldl {α : Type} {f : State → α → State} (h : ∀ u x, SameList u (f u x)) (xs : List α) (s : State) :
    SameList s (xs.foldl f s) := by
  induction xs generalizing s with
  | nil => exact .refl s
  | cons x xs ih => exact (h s x).trans (ih (f s x))

/-- A recording that differs in its gap tenths alone has the same other fields. -/
theorem fields_of_gapTenths {i j : Inst} (h : { j with gapTenths := i.gapTenths } = i) :
    j.id = i.id ∧ j.booking = i.booking ∧ j.start = i.start ∧ j.state = i.state ∧ j.alts = i.alts ∧
      j.segments = i.segments := by
  rw [← h]
  exact ⟨rfl, rfl, rfl, rfl, rfl, rfl⟩

theorem SameList.list (h : SameList s t) : Keeps ListKept s t := by
  intro hs
  obtain ⟨f, hf, e⟩ := h.insts
  refine listKept_of_insts hs (fun kept => ?_) h.nextId h.snapshot
  rw [e]
  refine kept.map (fun i _ => ?_)
  obtain ⟨id, booking, start, state, alts, segments⟩ := fields_of_gapTenths (hf i)
  exact .same id booking start state alts segments

end SameList

/-- An operation that leaves recordings, next id and snapshot alone keeps the list. -/
theorem Keeps.same {s t : State} (hi : t.lst.insts = s.lst.insts := by simp)
    (hn : t.lst.nextId = s.lst.nextId := by simp) (hp : t.pln.snapshot = s.pln.snapshot := by simp) :
    Keeps ListKept s t := (SameList.same hi hn hp).list

/-! ## The recording of an id -/

/-- The state and the segments of the recordings of an id. -/
abbrev AtId (iid : Nat) (q : InstState → List Segment → Prop) (s : State) : Prop :=
  ∀ i ∈ s.lst.insts, i.id = iid → q i.state i.segments

/-- The recording of an id has not ended. -/
abbrev LiveAt (iid : Nat) : State → Prop := AtId iid (fun st _ => isTerminal st = false)

/-- The recording of an id may start: it has not ended, and it has room for a segment (R143, R163). -/
abbrev StartableAt (iid : Nat) : State → Prop :=
  AtId iid (fun st gs => isTerminal st = false ∧ gs.length < Config.segCap)

theorem SameList.atId {s t : State} (h : SameList s t) (iid : Nat) (q : InstState → List Segment → Prop) :
    Keeps (AtId iid q) s t := by
  intro hs j hj hid
  obtain ⟨f, hf, e⟩ := h.insts
  rw [e] at hj
  obtain ⟨i, hi, rfl⟩ := List.mem_map.mp hj
  obtain ⟨id, -, -, state, -, segments⟩ := fields_of_gapTenths (hf i)
  rw [state, segments]
  exact hs i hi (id.symm.trans hid)

/-- What holds of the recording found holds of every one of its id, where the ids are distinct. -/
theorem atId_of_find {iid : Nat} {q : InstState → List Segment → Prop} {s : State} {i : Inst} (hs : ListKept s)
    (hi : findInst iid s = some i) (hq : q i.state i.segments) : AtId iid q s := by
  intro j hj hid
  rw [mem_eq_of_findInst (listKept_distinct hs) hi hj hid]
  exact hq

/-- One recording rewritten in place. -/
theorem modInst_listKept {iid : Nat} {f : Inst → Inst} {s : State} (hs : ListKept s)
    (hf : ∀ i ∈ s.lst.insts, i.id = iid → Rewrites i (f i)) : ListKept (modInst iid f s) := by
  refine listKept_of_insts hs (fun kept => ?_) rfl rfl
  rw [modInst_insts]
  refine kept.map (fun i hi => ?_)
  split
  · exact hf i hi (by simpa using ‹(i.id == iid) = true›)
  · exact .refl i

theorem modInst_list {iid : Nat} {f : Inst → Inst} (hf : ∀ i, Rewrites i (f i)) (s : State) :
    Keeps ListKept s (modInst iid f s) := fun hs => modInst_listKept hs (fun i _ _ => hf i)

/-- The recording found, rewritten in place. -/
theorem modInst_found {iid : Nat} {f : Inst → Inst} {s : State} {i : Inst} (hi : findInst iid s = some i)
    (hf : Rewrites i (f i)) : Keeps ListKept s (modInst iid f s) := by
  intro hs
  refine modInst_listKept hs (fun j hj hid => ?_)
  rw [mem_eq_of_findInst (listKept_distinct hs) hi hj hid]
  exact hf

/-- A recording rewritten in place, of this or another id. -/
theorem modInst_atId {iid k : Nat} {q : InstState → List Segment → Prop} {f : Inst → Inst}
    (hid : ∀ i, (f i).id = i.id) (hf : ∀ i, q i.state i.segments → q (f i).state (f i).segments) (s : State) :
    Keeps (AtId iid q) s (modInst k f s) := by
  intro hs j hj hj'
  rw [modInst_insts] at hj
  obtain ⟨i, hi, rfl⟩ := List.mem_map.mp hj
  split at hj' <;> rename_i hk
  · rw [if_pos hk]
    exact hf i (hs i hi ((hid i).symm.trans hj'))
  · rw [if_neg hk]
    exact hs i hi hj'

/-! ## The Planner's flags leave the snapshot (R93, R96) -/

@[simp] theorem setDirty_snapshot (s : State) : (setDirty s).pln.snapshot = s.pln.snapshot := by
  simp only [setDirty, modPln_pln]
  split <;> rfl

@[simp] theorem setDirtyIf_snapshot (b : Bool) (s : State) : (setDirtyIf b s).pln.snapshot = s.pln.snapshot := by
  cases b
  · rfl
  · exact setDirty_snapshot s

@[simp] theorem insertHistory_snapshot (e : HistEntry) (s : State) :
    (insertHistory e s).1.pln.snapshot = s.pln.snapshot := by
  unfold insertHistory
  repeat' split
  · rfl
  all_goals simp

@[simp] theorem makeSpent_snapshot (bid : Nat) (s : State) : (makeSpent bid s).pln.snapshot = s.pln.snapshot := rfl

@[simp] theorem handDone_snapshot (i : Inst) (n : Nat) (s : State) :
    (handDone i n s).pln.snapshot = s.pln.snapshot := by
  have stored (e : HistEntry) : (if Config.historyFraction ≤ n then (insertHistory e s).1 else s).pln.snapshot =
      s.pln.snapshot := by
    split
    · exact insertHistory_snapshot e s
    · rfl
  unfold handDone
  repeat' split
  all_goals simp

@[simp] theorem removeClaim_snapshot (cid : Nat) (s : State) : (removeClaim cid s).pln.snapshot = s.pln.snapshot := by
  simp [removeClaim]

@[simp] theorem revokeClaim_snapshot (cid iid : Nat) (s : State) :
    (revokeClaim cid iid s).pln.snapshot = s.pln.snapshot := by simp [revokeClaim]

@[simp] theorem dropClaims_snapshot (s : State) : (dropClaims s).pln.snapshot = s.pln.snapshot := by
  unfold dropClaims
  split
  · rfl
  · simp

/-! ## Operations that leave the recordings alone -/

theorem submit_same (c : Condition) (s : State) : SameList s (submit c s) := .same

theorem setDirty_same (s : State) : SameList s (setDirty s) := .same

theorem setDirtyIf_same (b : Bool) (s : State) : SameList s (setDirtyIf b s) := .same

theorem leaveActive_same (iid : Nat) (s : State) : SameList s (leaveActive iid s) := .same

theorem startDelay_same (k : DelayKind) (n : Nat) (s : State) : SameList s (startDelay k n s) := .same

theorem ensureDue_same (k : DueKind) (t : Nat) (s : State) : SameList s (ensureDue k t s) := .same

theorem requestDue_same (k : DueKind) (t : Nat) (s : State) : SameList s (requestDue k t s) := .same

theorem withdrawDue_same (k : DueKind) (s : State) : SameList s (withdrawDue k s) := .same

theorem postNotice_same (b : NoticeBody) (s : State) : SameList s (postNotice b s) := .same

theorem bumpFree_same (s : State) : SameList s (bumpFree s) := .same

theorem modTuner_same (t : Tuner) (f : TunerRun → TunerRun) (s : State) : SameList s (modTuner t f s) := .same

theorem advanceGap_same (t : Tuner) (s : State) : SameList s (advanceGap t s) := .same

theorem handDone_same (i : Inst) (n : Nat) (s : State) : SameList s (handDone i n s) := .same

theorem revokeClaim_same (cid iid : Nat) (s : State) : SameList s (revokeClaim cid iid s) := .same

/-! ## The lock monitors (R157 to R161) -/

theorem chargeGap_same (t : Tuner) (upTo iid : Nat) (s : State) : SameList s (chargeGap t upTo iid s) := by
  unfold chargeGap
  split
  · split
    · exact .refl s
    · dsimp only
      refine .ite (.refl s) ?_
      refine ⟨⟨_, fun i => ?_, (congrArg (fun l => l.insts) (modTuner_lst t _ _)).trans (modInst_insts iid _ s)⟩,
        by simp, by simp⟩
      split <;> rfl
  · exact .refl s

theorem closeGap_same (t : Tuner) (s : State) : SameList s (closeGap t s) :=
  have charged := SameList.foldl (fun u (i : Inst) => chargeGap_same t (monTime s) i.id u) (recordingOn t s) s
  have dropped := (charged.trans (bumpFree_same _)).trans ((modTuner_same t _ _).trans (withdrawDue_same _ _))
  dropped.trans ((advanceGap_same t _).trans (submit_same _ _))

theorem monitorOff_same (t : Tuner) (s : State) : SameList s (monitorOff t s) := by
  have closed : SameList s (if (tunerRun t s).mon = .gap then closeGap t s else s) := .ite (closeGap_same t s) (.refl s)
  unfold monitorOff
  exact closed.trans .same

theorem monitorCheckOf_same (i : Inst) (s : State) : SameList s (monitorCheckOf i s) := by
  unfold monitorCheckOf
  split
  · exact .ite (.refl s) (.ite (.refl s) (monitorOff_same _ s))
  · exact .refl s

theorem chargeLeaving_same (iid : Nat) (s : State) : SameList s (chargeLeaving iid s) := by
  unfold chargeLeaving
  repeat' split
  · exact .refl s
  · exact chargeGap_same _ _ iid s
  all_goals exact .refl s

/-! ## The ends of a recording (R83, R141, R148, R149) -/

theorem closeSegments_length (t : Nat) (i : Inst) : (closeSegments t i).segments.length = i.segments.length := by
  simp [closeSegments]

theorem finished_rewrites {fin : InstState} (hf : isTerminal fin = true) (c : Cause) (r : Option Nat) (t : Nat)
    (i : Inst) : Rewrites i (finished fin c r t i) := by
  have live : isPlaceable fin = false := by cases fin <;> first | rfl | cases hf
  have started : fin ≠ .starting := by rintro rfl; cases hf
  exact .moves live started (fun _ => hf) (segments := closeSegments_length t i)

theorem terminate_list (iid : Nat) {fin : InstState} (hf : isTerminal fin = true) (c : Cause) (r : Option Nat) (s : State) :
    Keeps ListKept s (terminate iid fin c r s) := by
  unfold terminate
  split
  · exact .refl s
  · rename_i i _
    have withdrawn : SameList s (withdrawInst iid (chargeLeaving iid s)) := (chargeLeaving_same iid s).trans .same
    have ended : Keeps ListKept s (monitorCheckOf i (leaveActive iid (modInst iid (finished fin c r (now s))
        (withdrawInst iid (chargeLeaving iid s))))) :=
      (withdrawn.list.trans (modInst_list (finished_rewrites hf c r (now s)) _)).trans
        ((leaveActive_same iid _).trans (monitorCheckOf_same i _)).list
    have posted := Keeps.ite (p := fin = .cancelled) ended (ended.trans (postNotice_same (.outcomeReady fin iid i.booking) _).list)
    refine Keeps.trans ?_ (setDirtyIf_same _ _).list
    split
    · exact posted.trans (handDone_same _ _ _).list
    · exact posted

theorem missInst_list (c : Cause) (iid : Nat) (s : State) : Keeps ListKept s (missInst c iid s) := by
  unfold missInst
  split
  · exact .refl s
  · exact (terminate_list iid (fin := .missed) rfl _ _ s).trans (submit_same _ _).list

theorem endStopping_list (c : Cause) (i : Inst) (s : State) : Keeps ListKept s (endStopping c i s) :=
  .ite (terminate_list _ rfl _ _ s) (terminate_list _ rfl _ _ s)

/-- The record of a recording that enters STOPPING (R148). -/
def stoppingAs (reason : StopReason) (t : Nat) (j : Inst) : Inst :=
  { j with
    state := .stopping, stopReason := some reason, overrun := none, stopAt := none, stopFixed := false
    entries := j.entries + 1
    window := j.window.map (fun w => if w.ws < t ∧ t < w.we then { w with we := t } else w) }

/-- What entering STOPPING can do to the recordings: nothing, or the one found in RECORDING goes over (R148). -/
theorem enterStopping_ways (reason : StopReason) (iid : Nat) (s : State) : enterStopping reason iid s = s ∨
    ∃ i u, findInst iid s = some i ∧ i.state = .recording ∧ SameList s u ∧
      SameList (modInst iid (stoppingAs reason (now s)) u) (enterStopping reason iid s) := by
  unfold enterStopping
  split
  · exact .inl rfl
  · rename_i i hi
    split
    · rename_i hr
      exact .inr ⟨i, withdrawDues [.stopMoment iid, .overrunCap iid, .coreEnd iid] (chargeLeaving iid s), hi, hr,
        (chargeLeaving_same iid s).trans .same,
        ((startDelay_same _ _ _).trans (monitorCheckOf_same i _)).trans (setDirtyIf_same _ _)⟩
    · exact .inl rfl

theorem stoppingAs_rewrites (reason : StopReason) (t : Nat) {i : Inst} (live : isTerminal i.state = false) :
    Rewrites i (stoppingAs reason t i) :=
  .moves (by rfl) (by simp [stoppingAs]) (fun h => by simp [live] at h)

theorem enterStopping_list (reason : StopReason) (iid : Nat) (s : State) :
    Keeps ListKept s (enterStopping reason iid s) := by
  intro hs
  obtain e | ⟨i, u, hi, hr, charged, left⟩ := enterStopping_ways reason iid s
  · rw [e]
    exact hs
  · have live : LiveAt iid u := charged.atId iid _ (atId_of_find hs hi (by simp [hr, isTerminal]))
    exact left.list (modInst_listKept (charged.list hs) (fun j hj hid => stoppingAs_rewrites reason _ (live j hj hid)))

/-- A recording that may start may still start when another has been stopped. -/
theorem enterStopping_startable (reason : StopReason) (k iid : Nat) (s : State) :
    Keeps (StartableAt iid) s (enterStopping reason k s) := by
  intro hs
  obtain e | ⟨i, u, -, -, charged, left⟩ := enterStopping_ways reason k s
  · rw [e]
    exact hs
  · exact left.atId iid _ (modInst_atId (f := stoppingAs reason (now s)) (fun _ => rfl) (fun _ h => ⟨rfl, h.2⟩) u (charged.atId iid _ hs))

/-! ## Starting (R142 to R144, R163) -/

/-- The list is kept, and the recording of an id may start. -/
abbrev AttemptsAt (iid : Nat) (s : State) : Prop := ListKept s ∧ StartableAt iid s

theorem SameList.attempts {s t : State} (h : SameList s t) (iid : Nat) : Keeps (AttemptsAt iid) s t :=
  fun ⟨hl, hs⟩ => ⟨h.list hl, h.atId iid _ hs⟩

theorem cutOverrun_attempts (t : Tuner) (j : Inst) (iid : Nat) (s : State) :
    Keeps (AttemptsAt iid) s (cutOverrun t j s) := fun ⟨hl, hs⟩ =>
  (submit_same _ (enterStopping .overrunCut j.id s)).attempts iid
    ⟨enterStopping_list _ _ s hl, enterStopping_startable _ _ iid s hs⟩

theorem revokeClaim_attempts (cid n iid : Nat) (s : State) : Keeps (AttemptsAt iid) s (revokeClaim cid n s) :=
  (revokeClaim_same cid n s).attempts iid

theorem startOn_list (t : Tuner) (resume late : Bool) {iid : Nat} {s : State} (h : AttemptsAt iid s) :
    ListKept (startOn t resume late iid s) := by
  obtain ⟨hl, hs⟩ := h
  cases hi : findInst iid s with
  | none => simpa [startOn, hi] using hl
  | some i =>
    obtain rfl := findInst_id hi
    have starts := modInst_listKept (f := startedAs resume t (stopOf resume i)) hl
      (fun j hj hid => .starts (hs j hj hid).1 (hs j hj hid).2 rfl)
    have e := (startOn_starts (t := t) (resume := resume) (late := late) hi).lst
    exact Keeps.same (congrArg (fun l => l.insts) e) (congrArg (fun l => l.nextId) e) (by simp) starts

theorem handovers_attempts (t : Tuner) (n iid : Nat) (s : State) : Keeps (AttemptsAt iid) s (handovers t n s) :=
  (Keeps.foldl (fun u j => cutOverrun_attempts t j iid u) _ s).trans
    (.foldl (fun u (c : Claim) => revokeClaim_attempts c.id n iid u) _ _)

theorem waitForTuner_list (resume : Bool) (iid : Nat) (s : State) : Keeps ListKept s (waitForTuner resume iid s) := by
  unfold waitForTuner
  split
  · exact .refl s
  · exact .ite .same ((modInst_list (fun _ => .same) s).trans (ensureDue_same _ _ _).list)

theorem blockedStart_list (t : Tuner) (resume late : Bool) {i : Inst} {s : State} (h : AttemptsAt i.id s) :
    ListKept (blockedStart t resume late i s) := by
  have waits (u : State) (hu : AttemptsAt i.id u) : ListKept (waitForTuner resume i.id u) := waitForTuner_list _ _ u hu.1
  unfold blockedStart
  dsimp only
  repeat' split
  · exact waits s h
  · exact Keeps.same (s := startOn (otherTuner t) resume late i.id s) (by simp) (by simp) (by simp) (startOn_list _ _ _ h)
  all_goals
    have cleared : AttemptsAt i.id ((obstacleClaims t i s).foldl (fun acc c => revokeClaim c.id i.id acc)
        ((obstacleInsts t i s).foldl (fun acc j => cutOverrun t j acc) s)) :=
      (Keeps.foldl (fun u j => cutOverrun_attempts t j i.id u) _ s).trans
        (.foldl (fun u (c : Claim) => revokeClaim_attempts c.id i.id i.id u) _ _) h
  · exact startOn_list _ _ _ cleared
  · exact waits _ cleared
  · exact waits s h

theorem startAttempt_list (resume late : Bool) {iid : Nat} {s : State} (h : AttemptsAt iid s) :
    ListKept (startAttempt resume late iid s) := by
  unfold startAttempt
  split
  · exact h.1
  · rename_i i hi
    obtain rfl := findInst_id hi
    split
    · exact h.1
    · rename_i t _
      have handed : AttemptsAt i.id (if resume = true then s else handovers t i.id s) :=
        Keeps.ite (.refl s) (handovers_attempts t i.id i.id s) h
      dsimp only
      generalize (if resume = true then s else handovers t i.id s) = u at handed ⊢
      split
      · exact startOn_list _ _ _ handed
      · exact blockedStart_list _ _ _ handed

/-- A recording found PLANNED may start: it holds no segment (R142). -/
theorem attempts_of_planned {iid : Nat} {s : State} {i : Inst} (hs : ListKept s) (hi : findInst iid s = some i)
    (hp : i.state = .planned) : AttemptsAt iid s := by
  have none := ((listKept_insts hs).each i (mem_of_findInst hi)).unstarted (by simp [hp, isPlaceable])
  exact ⟨hs, atId_of_find hs hi ⟨by simp [hp, isTerminal], by simp [none, Config.segCap]⟩⟩

/-! ## Interruption, resume and the waiting starts (R144, R162, R163) -/

theorem interruptInst_list (iid : Nat) (s : State) : Keeps ListKept s (interruptInst iid s) := by
  unfold interruptInst
  split
  · exact .refl s
  · rename_i i hi
    have interrupts (live : isTerminal i.state = false) : Keeps ListKept s (setDirtyIf i.overrun.isSome (monitorCheckOf i
        (leaveActive iid (modInst iid (fun j => { closeSegments (now s) j with
          state := .interrupted, overrun := none, stopAt := none, entries := j.entries + 1
          runEnd := some (runEndOf (now s) i), stopFixed := i.stopFixed || i.overrun.isSome })
          (withdrawInst iid (chargeLeaving iid s)))))) := by
      intro hs
      have withdrawn : SameList s (withdrawInst iid (chargeLeaving iid s)) := (chargeLeaving_same iid s).trans .same
      have lives : LiveAt iid _ := withdrawn.atId iid _ (atId_of_find hs hi live)
      refine (((leaveActive_same iid _).trans (monitorCheckOf_same i _)).trans (setDirtyIf_same _ _)).list
        (modInst_listKept (withdrawn.list hs) (fun j hj hid => ?_))
      exact .moves (by rfl) (by simp) (fun h => by simp [lives j hj hid] at h) (segments := closeSegments_length _ j)
    split
    · exact interrupts (by simp [*, isTerminal])
    · exact interrupts (by simp [*, isTerminal])
    · exact endStopping_list _ i s
    · exact .refl s

theorem interruptHost_list (s : State) : Keeps ListKept s (interruptHost s) :=
  (Keeps.trans (t := dropClaims s) .same (.foldl (fun u iid => interruptInst_list iid u) _ _)).trans
    ((monitorOff_same .a _).trans (monitorOff_same .b _)).list

theorem judgeResume_list (iid : Nat) (s : State) : Keeps ListKept s (judgeResume iid s) := by
  intro hs
  unfold judgeResume
  split
  · exact hs
  · rename_i i hi
    split
    · rename_i interrupted
      split
      · exact terminate_list _ rfl _ _ s hs
      · split
        · exact (terminate_list iid (fin := .failed) rfl _ _ s).trans (submit_same _ _).list hs
        · rename_i room
          exact startAttempt_list _ _ ⟨hs, atId_of_find hs hi ⟨by simp [interrupted, isTerminal], by omega⟩⟩
    · exact hs

theorem retryHeld_list (iid : Nat) (s : State) : Keeps ListKept s (retryHeld iid s) := by
  intro hs
  unfold retryHeld
  split
  · exact hs
  · rename_i i hi
    split
    · exact startAttempt_list _ _ (attempts_of_planned hs hi ‹_ ∧ _›.1)
    · exact hs

theorem takeHeld_list (iid : Nat) (s : State) : Keeps ListKept s (takeHeld iid s) := by
  intro hs
  unfold takeHeld
  split
  · exact hs
  · rename_i i hi
    split
    · rename_i waits
      split
      · exact startAttempt_list _ _ (attempts_of_planned hs hi waits.1)
      · exact missInst_list _ _ s hs
    · exact hs

theorem takeUpWork_list (s : State) : Keeps ListKept s (takeUpWork s) :=
  (Keeps.foldl (fun u iid => judgeResume_list iid u) _ s).trans (.foldl (fun u iid => takeHeld_list iid u) _ _)

theorem retryWaiting_list (s : State) : Keeps ListKept s (retryWaiting s) :=
  (Keeps.foldl (fun u iid => judgeResume_list iid u) _ s).trans (.foldl (fun u iid => retryHeld_list iid u) _ _)

theorem retryRounds_list (fuel : Nat) (before s : State) : Keeps ListKept s (retryRounds fuel before s) := by
  induction fuel generalizing before s with
  | zero => exact .refl s
  | succ fuel ih => exact .ite ((retryWaiting_list s).trans (ih s _)) (.refl s)

theorem retryStarts_list (before s : State) : Keeps ListKept s (retryStarts before s) := retryRounds_list _ before s

/-! ## The end of an event (R82 to R84, R94, R96) -/

/-- The snapshot a pass takes holds the recordings of the list (R96). -/
theorem snapshotOf_kept {s : State} (hs : ListKept s) : SnapshotKept (some (snapshotOf s)) := by
  rintro sn ⟨⟩ i hi
  exact ((listKept_insts hs).each i hi).alts

/-- The Planner with another snapshot, whose recordings keep their bound. -/
theorem modPln_list {f : Planner → Planner} {s : State} (hs : ListKept s) (hp : SnapshotKept (f s.pln).snapshot) :
    ListKept (modPln f s) := by
  obtain ⟨insts, next, -⟩ := (listKept_iff s).mp hs
  exact (listKept_iff _).mpr ⟨insts, next, hp⟩

theorem beginPass_list (s : State) : Keeps ListKept s (beginPass s) :=
  .ite (fun hs => modPln_list hs (snapshotOf_kept hs)) (.refl s)

theorem settleOutputs_list (before s : State) : Keeps ListKept s (settleOutputs before s) := by
  have summaries : Keeps ListKept s (handSummaries (placeTerminals s)) := .same rfl rfl (by simp)
  exact (summaries.trans .same).trans (beginPass_list _)

theorem settle_list (before s : State) : Keeps ListKept s (settle before s) :=
  (retryStarts_list before s).trans (settleOutputs_list before _)

/-! ## Frames and events -/

theorem onFrame_list {act : State → State} (h : ∀ u, Keeps ListKept u (act u)) (kind tag : Byte) (p : List Byte)
    (s : State) : Keeps ListKept s (onFrame kind tag p act s) :=
  .ite (.refl s) (.ite .same (.trans .same (h _)))

theorem onMessage_list {α : Type} {act : α → State → State} (h : ∀ m u, Keeps ListKept u (act m u)) (pr : Parser α)
    (kind tag : Byte) (p : List Byte) (s : State) : Keeps ListKept s (onMessage kind tag pr p act s) := by
  refine onFrame_list (fun u => ?_) kind tag p s
  split
  · exact h _ u
  · exact .same

theorem onDue_list {act : State → State} (h : ∀ u, Keeps ListKept u (act u)) (k : DueKind) (s : State) :
    Keeps ListKept s (onDue k act s) := by
  unfold onDue
  obtain ⟨-, e⟩ | ⟨-, e⟩ := takeDue_cases k s
  · rw [e]
    exact .trans .same ((h _).trans (settle_list s _))
  · rw [e]
    exact .refl s

/-- The end of a delay leaves the recordings and the Planner alone (R4). -/
theorem takeDelay_list {k : DelayKind} {s t : State} (h : takeDelay k s = some t) : Keeps ListKept s t := by
  rw [(takeDelay_keeps h).1]
  exact .same rfl rfl rfl

theorem onDelay_list {act : State → State} (h : ∀ u, Keeps ListKept u (act u)) (k : DelayKind) (s : State) :
    Keeps ListKept s (onDelay k act s) := by
  unfold onDelay
  split
  · exact .refl s
  · exact (takeDelay_list ‹_›).trans ((h _).trans (settle_list s _))

end Sys2Proof.Machine

/-! PROOFS. The messages and the events of the part keep the Instance List: those that reach a recording by the operations
of Run Control, all others because they leave the list alone (R70, R78, R79). -/

namespace Sys2Proof.Machine

set_option Elab.async false

open Sys2Proof

/-! ## The Booking Table (chapter 3) -/

theorem answerOk_same (kind tag : Byte) (b : ReplyBody) (s : State) : SameList s (answerOk kind tag b s) := .same

theorem addBooking_list (kind tag : Byte) (dup : Option Booking) (part : BookingPart) (c : CommonMsg) (s : State) :
    Keeps ListKept s (addBooking kind tag dup part c s) := by
  unfold addBooking
  repeat' split
  all_goals exact .same

theorem bookEvent_list (tag : Byte) (m : EventKey × CommonMsg) (s : State) : Keeps ListKept s (bookEvent tag m s) := by
  unfold bookEvent
  refine .ite .same ?_
  split
  · exact .same
  · exact addBooking_list _ _ _ _ _ s

theorem bookSeries_list (tag : Byte) (m : BookSeriesMsg) (s : State) : Keeps ListKept s (bookSeries tag m s) :=
  .ite .same (addBooking_list _ _ _ _ _ s)

theorem bookManual_list (tag : Byte) (m : ManualPart × CommonMsg) (s : State) : Keeps ListKept s (bookManual tag m s) :=
  .ite .same (addBooking_list _ _ _ _ _ s)

theorem bookChange_list (tag : Byte) (m : Nat × List ChangeField) (s : State) : Keeps ListKept s (bookChange tag m s) := by
  unfold bookChange
  repeat' split
  all_goals exact .same

theorem moveBooking_list (kind tag : Byte) (st : BookingState) (bid : Nat) (s : State) :
    Keeps ListKept s (moveBooking kind tag st bid s) := by
  unfold moveBooking setBookingState
  repeat' split
  all_goals exact .same

theorem deleteInst_list (iid : Nat) (s : State) : Keeps ListKept s (deleteInst iid s) := by
  unfold deleteInst
  split
  · exact .refl s
  · split
    case h_5 => exact enterStopping_list _ _ s
    case h_6 => exact terminate_list _ rfl _ _ s
    case h_1 | h_2 | h_3 | h_4 => exact terminate_list _ rfl _ _ s
    all_goals exact .refl s

theorem bookDelete_list (tag : Byte) (bid : Nat) (s : State) : Keeps ListKept s (bookDelete tag bid s) := by
  have dropped : Keeps ListKept s (setDirty (dropBooking bid s)) := .trans (t := dropBooking bid s) (.same rfl rfl rfl) .same
  have deleted := dropped.trans (.foldl (fun u iid => deleteInst_list iid u) (idsOfBooking bid (fun _ => true) s) _)
  exact .ite (deleted.trans (answerOk_same _ _ _ _).list) .same

theorem bookGet_list (tag : Byte) (bid : Nat) (s : State) : Keeps ListKept s (bookGet tag bid s) := by
  unfold bookGet
  split
  all_goals exact .same

theorem bookList_list (tag : Byte) (n : Nat) (s : State) : Keeps ListKept s (bookList tag n s) := .ite .same .same

theorem historyAdd_list (tag : Byte) (e : HistEntry) (s : State) : Keeps ListKept s (historyAdd tag e s) :=
  .ite .same .same

theorem dropEntries_list (tag : Byte) (p : HistEntry → Bool) (s : State) : Keeps ListKept s (dropEntries tag p s) :=
  .same (by simp [dropEntries]) (by simp [dropEntries]) (by simp [dropEntries])

theorem historyDrop_list (tag : Byte) (m : HistDropMsg) (s : State) : Keeps ListKept s (historyDrop tag m s) := by
  cases m with
  | pair e => exact .ite .same (dropEntries_list _ _ s)
  | series r => exact .ite .same (dropEntries_list _ _ s)

theorem historyGet_list (tag : Byte) (m : Nat × Option Ref) (s : State) : Keeps ListKept s (historyGet tag m s) :=
  .ite .same .same

/-! ## The Clock Unit and the Guide Store (chapters 1 and 2) -/

theorem timeGet_list (tag : Byte) (s : State) : Keeps ListKept s (timeGet tag s) := (answerOk_same _ _ _ s).list

theorem timeSetWork_snapshot (m : TimeSetMsg) (s : State) : (timeSetWork m s).pln.snapshot = s.pln.snapshot := by
  simp [timeSetWork]

theorem timeSet_list (tag : Byte) (m : TimeSetMsg) (s : State) : Keeps ListKept s (timeSet tag m s) := by
  have taken : Keeps ListKept s (takeTimeSet tag m s) := by
    rw [takeTimeSet_eq]
    exact .same (congrArg (fun l => l.insts) (timeSetWork_lst m s)) (congrArg (fun l => l.nextId) (timeSetWork_lst m s))
      (timeSetWork_snapshot m s)
  unfold timeSet
  repeat' split
  · exact .same
  · exact taken
  · exact taken

/-- The status of an origin ends an overrun: the stop moment becomes fixed, or the recording stops (R153). -/
theorem fixOverrun_list (iid : Nat) (s : State) : Keeps ListKept s (fixOverrun iid s) := by
  unfold fixOverrun
  split
  · exact .refl s
  · split
    · exact .refl s
    · have fixed (stop : Nat) : Keeps ListKept s (withdrawDue (.overrunCap iid) (modInst iid (fun j => { j with
          overrun := none, stopAt := some (.at stop), stopFixed := true }) s)) :=
        (modInst_list (fun _ => .same) s).trans (withdrawDue_same _ _).list
      exact .ite ((fixed _).trans ((enterStopping_list _ _ _).trans (setDirty_same _).list))
        ((fixed _).trans ((requestDue_same _ _ _).trans (setDirty_same _)).list)

theorem handStatus_list (k : EventKey) (st : Option RunStatus) (s : State) : Keeps ListKept s (handStatus k st s) :=
  .ite (.refl s) (.foldl (fun u iid => fixOverrun_list iid u) _ s)

theorem takeRec_same (k : EventKey) (s : State) : SameList s (takeRec k s) := .same rfl rfl rfl

theorem placeRec_same (r : GuideRec) (s : State) : SameList s (placeRec r s) := .same rfl rfl rfl

theorem removeRec_list (r : GuideRec) (s : State) : Keeps ListKept s (removeRec r s) :=
  ((takeRec_same r.key s).trans (setDirtyIf_same _ _)).list.trans (handStatus_list _ _ _)

theorem replaceEntry_list (e : GuideEntry) (old : GuideRec) (s : State) : Keeps ListKept s (replaceEntry e old s) := by
  have placed (r : GuideRec) (b : Bool) : Keeps ListKept s (setDirtyIf b (placeRec r (takeRec e.key s))) :=
    (((takeRec_same _ s).trans (placeRec_same r _)).trans (setDirtyIf_same b _)).list
  exact .ite (placed _ _) ((placed _ _).trans (handStatus_list _ _ _))

theorem insertEntry_list (e : GuideEntry) (s : State) : Keeps ListKept s (insertEntry e s) :=
  ((placeRec_same _ s).trans (setDirtyIf_same _ _)).list

theorem putEntry_list (t : Nat) (sc : State × PutCounts) (e : GuideEntry) :
    Keeps ListKept sc.1 (putEntry t sc e).1 := by
  unfold putEntry
  dsimp only
  repeat' split
  · exact .refl _
  · exact replaceEntry_list _ _ _
  · exact insertEntry_list _ _
  · exact .refl _
  · exact ((takeRec_same _ _).trans (setDirtyIf_same _ _)).list.trans (insertEntry_list _ _)
  · exact .refl _

theorem guidePut_list (tag : Byte) (es : List GuideEntry) (s : State) : Keeps ListKept s (guidePut tag es s) :=
  (Keeps.foldl_of Prod.fst (fun sc e _ => putEntry_list (now s) sc e) (s, ⟨0, 0, 0, 0⟩)).trans (answerOk_same _ _ _ _).list

theorem dropKey_list (sc : State × Nat × Nat) (k : EventKey) : Keeps ListKept sc.1 (dropKey sc k).1 := by
  unfold dropKey
  split
  · exact removeRec_list _ _
  · exact .refl _

theorem removeRecs_list (xs : List GuideRec) (s : State) : Keeps ListKept s (xs.foldl (fun u r => removeRec r u) s) :=
  .foldl (fun u r => removeRec_list r u) xs s

theorem guideDrop_list (tag : Byte) (m : GuideDropMsg) (s : State) : Keeps ListKept s (guideDrop tag m s) := by
  cases m with
  | keys ks =>
    exact (Keeps.foldl_of Prod.fst (fun sc k _ => dropKey_list sc k) (s, 0, 0)).trans (answerOk_same _ _ _ _).list
  | service n => exact .ite .same ((removeRecs_list _ s).trans (answerOk_same _ _ _ _).list)

theorem eventStatus_list (tag : Byte) (m : EventKey × Nat) (s : State) : Keeps ListKept s (eventStatus tag m s) := by
  unfold eventStatus
  split
  · exact .same
  · split
    · exact .same
    · have written (recs : List GuideRec) : Keeps ListKept s (setRecs recs s) := .same rfl rfl rfl
      exact Keeps.trans (.ite (written _) ((written _).trans (handStatus_list _ _ _))) (answerOk_same _ _ _ _).list

theorem guideGet_list (tag : Byte) (p : List Byte) (s : State) : Keeps ListKept s (guideGet tag p s) := by
  unfold guideGet guideSummary guideGetKey
  repeat' split
  all_goals exact .same

theorem handRollover_list (s : State) : Keeps ListKept s (handRollover s) :=
  have bumped := (bumpFree_same s).trans (setDirty_same _)
  .ite (.same (by simp) (by simp) (by simp)) (.ite
    (((bumpFree_same s).list.trans (removeRecs_list _ _)).trans (setDirty_same _).list)
    ((bumped.list.trans (beginPass_list _)).trans (removeRecs_list _ _)))

/-! ## Reading and taking (chapters 5 to 7) -/

theorem instanceGet_list (tag : Byte) (iid : Nat) (s : State) : Keeps ListKept s (instanceGet tag iid s) := by
  unfold instanceGet
  split
  all_goals exact .same

theorem answerPlanGet_list (tag : Byte) (a b k : Nat) (s : State) : Keeps ListKept s (answerPlanGet tag a b k s) :=
  .ite .same .same

theorem answerClashGet_list (tag : Byte) (k : Nat) (s : State) : Keeps ListKept s (answerClashGet tag k s) :=
  .ite .same .same

theorem holdOr_list {ans : State → State} (h : ∀ u, Keeps ListKept u (ans u)) (kind tag : Byte) (q : Query) (s : State) :
    Keeps ListKept s (holdOr kind tag q ans s) := by
  unfold holdOr
  split
  · exact h s
  · exact .ite .same .same

theorem planGet_list (tag : Byte) (m : Nat × Nat × Nat) (s : State) : Keeps ListKept s (planGet tag m s) :=
  .ite .same (.ite .same (holdOr_list (answerPlanGet_list tag _ _ _) _ _ _ s))

theorem clashGet_list (tag : Byte) (k : Nat) (s : State) : Keeps ListKept s (clashGet tag k s) :=
  .ite .same (.ite .same (holdOr_list (answerClashGet_list tag _) _ _ _ s))

theorem removeSpent_same (bid : Nat) (s : State) : SameList s (removeSpent bid s) := .same

/-- A recording leaves the list (R86 to R88). -/
theorem leaveList_list (i : Inst) (s : State) : Keeps ListKept s (leaveList i s) := fun hs =>
  (removeSpent_same i.booking _).list (listKept_of_insts hs (fun kept => kept.sublist List.filter_sublist) rfl rfl)

theorem outcomeTake_list (tag : Byte) (iid : Nat) (s : State) : Keeps ListKept s (outcomeTake tag iid s) := by
  unfold outcomeTake
  split
  · exact .same
  · exact .ite ((leaveList_list _ s).trans (answerOk_same _ _ _ _).list) .same

/-! ## Run Control (chapter 8) -/

theorem takeWindowStart_list (iid : Nat) (s : State) : Keeps ListKept s (takeWindowStart iid s) := by
  intro hs
  unfold takeWindowStart
  split
  · exact hs
  · rename_i i hi
    split
    · rename_i planned
      split
      · exact missInst_list _ _ s hs
      · split
        · exact startAttempt_list _ _ (attempts_of_planned hs hi planned)
        · exact (modInst_list (fun _ => .same) s).trans (requestDue_same _ _ _).list hs
    · exact hs

theorem takeCoreEnd_list (iid : Nat) (s : State) : Keeps ListKept s (takeCoreEnd iid s) := by
  unfold takeCoreEnd
  split
  · exact .refl s
  · have overruns (i : Inst) : Keeps ListKept s (enterOverrun i s) :=
      (modInst_list (fun _ => .same) s).trans
        (((withdrawDue_same _ _).trans (requestDue_same _ _ _)).trans (setDirty_same _)).list
    split
    · exact missInst_list _ _ s
    · exact missInst_list _ _ s
    · exact .ite (.refl s) (missInst_list _ _ s)
    · exact .ite (overruns _) (.refl s)
    · exact .ite (overruns _) (.refl s)
    all_goals exact .refl s

theorem takeHeldLimit_list (iid : Nat) (s : State) : Keeps ListKept s (takeHeldLimit iid s) := by
  unfold takeHeldLimit
  split
  · exact .refl s
  · exact .ite (missInst_list _ _ s) (.refl s)

theorem takeOverrunCap_list (iid : Nat) (s : State) : Keeps ListKept s (takeOverrunCap iid s) := by
  unfold takeOverrunCap
  split
  · exact .refl s
  · split
    · exact (modInst_list (fun _ => .same) s).trans (setDirty_same _).list
    · exact enterStopping_list _ _ s

theorem failStart_list (c : Cause) (r : Option Nat) (i : Inst) (s : State) : Keeps ListKept s (failStart c r i s) :=
  (terminate_list i.id (fin := .failed) rfl _ _ s).trans (submit_same _ _).list

theorem takeStartTimeout_list (iid : Nat) (s : State) : Keeps ListKept s (takeStartTimeout iid s) := by
  unfold takeStartTimeout
  split
  · exact .refl s
  · exact .ite (failStart_list _ _ _ s) (.refl s)

theorem takeStopTimeout_list (iid : Nat) (s : State) : Keeps ListKept s (takeStopTimeout iid s) := by
  unfold takeStopTimeout
  split
  · exact .refl s
  · exact .ite ((endStopping_list _ _ s).trans (submit_same _ _).list) (.refl s)

theorem armMonitor_same (t : Tuner) (s : State) : SameList s (armMonitor t s) := .ite .same (.refl s)

/-- A recording found in STARTING has room for the segment that STARTED opens (R146). -/
theorem takeStarted_list {iid : Nat} {i : Inst} {s : State} (hi : findInst iid s = some i) (starting : i.state = .starting) :
    Keeps ListKept s (takeStarted i s) := by
  obtain rfl := findInst_id hi
  have opens (g : Segment) : Rewrites i { i with
      state := .recording, segments := i.segments ++ [g], entries := i.entries + 1 } :=
    ⟨rfl, rfl, rfl, fun h => by simp [starting, isTerminal] at h, fun ⟨alts, _, _, room⟩ =>
      ⟨alts, by simpa using room starting, nofun, nofun⟩⟩
  have opened : Keeps ListKept s (modInst i.id (fun j => { j with
      state := .recording, segments := j.segments ++ [{ start := now s, stop := none }], entries := j.entries + 1 })
      (cancelDelay (.startConfirm i.id) s)) :=
    Keeps.trans .same (modInst_found (s := cancelDelay (.startConfirm i.id) s) hi (opens _))
  have armed (u : State) : SameList u (match i.tuner with | some t => armMonitor t u | none => u) := by
    split
    · exact armMonitor_same _ u
    · exact .refl u
  exact .ite ((opened.trans (armed _).list).trans (enterStopping_list _ _ _)) (opened.trans (armed _).list)

theorem takeHostStop_list (i : Inst) (s : State) : Keeps ListKept s (takeHostStop i s) :=
  have ended := terminate_list i.id (fin := .done) rfl .hostStop none s
  .ite (ended.trans (submit_same _ _).list) ended

theorem recReport_list (tag : Byte) (m : Nat × Report) (s : State) : Keeps ListKept s (recReport tag m s) := by
  have answered (u : State) : Keeps ListKept u (answerReport tag m.1 u) := (answerOk_same _ _ _ u).list
  unfold recReport
  refine .ite .same ?_
  split
  · exact .same
  · rename_i i hi
    refine .ite .same ?_
    split
    · exact (takeStarted_list hi ‹_›).trans (answered _)
    · exact (failStart_list _ _ _ s).trans (answered _)
    · exact (endStopping_list _ _ s).trans (answered _)
    · exact (takeHostStop_list _ s).trans (answered _)
    · exact .same

theorem viewClaim_list (tag : Byte) (m : ClaimMsg) (s : State) : Keeps ListKept s (viewClaim tag m s) := by
  unfold viewClaim newClaim changeClaim
  dsimp only
  repeat' split
  all_goals exact .same

theorem viewRelease_list (tag : Byte) (n : Nat) (s : State) : Keeps ListKept s (viewRelease tag n s) := .ite .same .same

theorem takeYieldWarning_list (n : Nat) (s : State) : Keeps ListKept s (takeYieldWarning n s) := by
  unfold takeYieldWarning
  repeat' split
  all_goals exact .same

theorem takeGraceEnd_list (t : Tuner) (s : State) : Keeps ListKept s (takeGraceEnd t s) := .ite .same .same

theorem monitorTick_list (t : Tuner) (locked : Bool) (s : State) : Keeps ListKept s (monitorTick t locked s) := by
  unfold monitorTick declareGap
  split
  case h_5 => exact .ite .same .same
  case h_7 => exact ((closeGap_same t s).trans (modTuner_same t _ _)).list
  all_goals exact .same

theorem takeTick_list (t : Tuner) (locked : Bool) (s : State) : Keeps ListKept s (takeTick t locked s) :=
  ((modTuner_same t _ s).list.trans (monitorTick_list t locked _)).trans (.ite (.refl _) (startDelay_same _ _ _).list)

theorem takeAbandon_list (t : Tuner) (s : State) : Keeps ListKept s (takeAbandon t s) := by
  have closed (f : TunerRun → TunerRun) (c : Condition) : SameList s (submit c (modTuner t f (closeGap t s))) :=
    ((closeGap_same t s).trans (modTuner_same t f _)).trans (submit_same c _)
  have stops (xs : List Inst) (u : State) :
      Keeps ListKept u (xs.foldl (fun v i => enterStopping .abandoned i.id v) u) :=
    .foldl (fun v (i : Inst) => enterStopping_list .abandoned i.id v) xs u
  exact .ite (((closed _ _).list.trans (stops _ _)).trans ((monitorOff_same t _).trans (setDirty_same _)).list) (.refl s)

theorem takeWindowClose_list (iid : Nat) (s : State) : Keeps ListKept s (takeWindowClose iid s) := by
  unfold takeWindowClose
  split
  · exact .refl s
  · exact .ite (terminate_list _ rfl _ _ s) (.refl s)

/-! ## The Wake Supervisor (chapter 10) -/

theorem takeKeepalive_list (s : State) : Keeps ListKept s (takeKeepalive s) :=
  have woken (c : Condition) (f : WakeSup → WakeSup) :
      SameList s (modWsv f (startWakeTimeout (beginPulse (submit c s)))) := (submit_same c s).trans (.same rfl rfl rfl)
  .ite ((woken _ _).list.trans (interruptHost_list _)) (.refl s)

theorem takeWakeDue_list (s : State) : Keeps ListKept s (takeWakeDue s) := by
  unfold takeWakeDue
  split
  all_goals exact .same rfl rfl rfl

theorem takeWakeTimeout_list (s : State) : Keeps ListKept s (takeWakeTimeout s) :=
  .ite (.ite (.same rfl rfl rfl) .same) (.refl s)

theorem helloAwake_list (s : State) : Keeps ListKept s (helloAwake s) :=
  .same (by simp [helloAwake]) (by simp [helloAwake]) (by simp [helloAwake])

theorem helloWork_list (previous : HostState) (n : Nat) (s : State) : Keeps ListKept s (helloWork previous n s) := by
  unfold helloWork
  split
  · exact ((submit_same _ s).list.trans (interruptHost_list _)).trans (takeUpWork_list _)
  all_goals exact Keeps.trans (t := dropClaims s) .same (takeUpWork_list _)

theorem hello_list (tag : Byte) (s : State) : Keeps ListKept s (hello tag s) := by
  have worked : Keeps ListKept s (retryStarts s (helloWork s.wsv.host (runningCount s) (helloAwake s))) :=
    (helloAwake_list s).trans ((helloWork_list _ _ _).trans (retryStarts_list s _))
  unfold hello helloDone
  exact worked.trans .same

theorem standby_list (tag : Byte) (s : State) : Keeps ListKept s (standby tag s) := by
  unfold standby acceptStandby
  repeat' split
  all_goals exact .same

theorem causeClear_list (tag : Byte) (s : State) : Keeps ListKept s (causeClear tag s) := .same rfl rfl rfl

theorem resetPart_list (tag : Byte) (n : Nat) (s : State) : Keeps ListKept s (resetPart tag n s) := by
  unfold resetPart
  split
  all_goals exact .same

/-! ## The Condition Log and the Link Port (chapters 9 and 11) -/

theorem condRead_list (tag : Byte) (n : Nat) (s : State) : Keeps ListKept s (condRead tag n s) := by
  unfold condRead
  split
  all_goals exact .same

theorem condClear_list (tag : Byte) (m : Nat × Bool) (s : State) : Keeps ListKept s (condClear tag m s) := by
  unfold condClear
  repeat' split
  all_goals exact .same

theorem condConfig_list (tag : Byte) (m : CondConfigMsg) (s : State) : Keeps ListKept s (condConfig tag m s) := by
  unfold condConfig
  repeat' split
  all_goals exact .same

theorem noticeFetch_list (tag : Byte) (s : State) : Keeps ListKept s (noticeFetch tag s) := .same rfl rfl rfl

theorem actionsGet_list (tag : Byte) (s : State) : Keeps ListKept s (actionsGet tag s) := .same rfl rfl rfl

theorem retimeAbandon_list (t : Tuner) (s : State) : Keeps ListKept s (retimeAbandon t s) := by
  unfold retimeAbandon
  refine .ite ?_ (.refl s)
  split
  · exact .refl s
  · rename_i d _
    dsimp only
    obtain ⟨-, e⟩ | ⟨-, e⟩ := takeDue_cases (.abandon t) (requestDue (.abandon t) (d / 10 + s.run.abandonLimit) s)
    · rw [e]
      exact ((requestDue_same _ _ s).trans (withdrawDue_same _ _)).list.trans (takeAbandon_list t _)
    · rw [e]
      exact (requestDue_same _ _ s).list

theorem writeSetting_list (n v : Nat) (s : State) : Keeps ListKept s (writeSetting n v s) := by
  unfold writeSetting writeWakeLead writeKeepCode
  split
  case h_7 => exact Keeps.trans (t := modRun _ s) .same ((retimeAbandon_list .a _).trans (retimeAbandon_list .b _))
  all_goals exact .same

theorem configSet_list (tag : Byte) (items : List (Nat × Nat)) (s : State) : Keeps ListKept s (configSet tag items s) := by
  have written : Keeps ListKept s (items.foldl (fun u x => writeSetting x.1 (settingClamp x.1 x.2) u) s) :=
    .foldl (fun u (x : Nat × Nat) => writeSetting_list x.1 (settingClamp x.1 x.2) u) items s
  exact .ite .same (.ite .same (written.trans .same))

theorem configGet_list (tag : Byte) (ns : List Nat) (s : State) : Keeps ListKept s (configGet tag ns s) :=
  .ite .same (.ite .same .same)

end Sys2Proof.Machine

/-! PROOFS. Four alternates at most on every recording that a pass works on, whatever becomes of it (R61, R67, R125). -/

namespace Sys2Proof.Machine

set_option Elab.async false

open Sys2Proof

/-! ## Expansion (R61, R67, R71) -/

/-- A refresh with four alternates at most. -/
abbrev RefreshKept (f : Refresh) : Prop := f.alts.length ≤ 4

theorem refreshEvent_kept (p : Snapshot) (b : Booking) (i : Inst) : RefreshKept (refreshEvent p b i) := by
  unfold refreshEvent
  dsimp only
  split
  · exact eventAlts_length ..
  · exact eventAlts_length ..

theorem refreshMatched_kept (p : Snapshot) (b : Booking) (ms : List GuideRec) (g : Group) (i : Inst) :
    RefreshKept (refreshMatched p b ms g i) := by
  unfold refreshMatched
  dsimp only
  repeat' split
  all_goals exact firstFour_length _

theorem judgeSeries_kept {p : Snapshot} {b : Booking} {r : Ref} {newOnly : Bool} {ms : List GuideRec} {i : Inst}
    {f : Refresh} (h : judgeSeries p b r newOnly ms i = .refresh f) : RefreshKept f := by
  unfold judgeSeries at h
  repeat' split at h
  all_goals cases h
  · exact refreshMatched_kept p b ms _ i
  · exact Nat.zero_le 4

theorem judgeManual_kept {p : Snapshot} {m : ManualPart} {i : Inst} {f : Refresh}
    (h : judgeManual p m i = .refresh f) : RefreshKept f := by
  unfold judgeManual at h
  repeat' split at h
  all_goals cases h
  exact Nat.zero_le 4

theorem refreshesOf_kept {judge : Inst → Keep} (h : ∀ i f, judge i = .refresh f → RefreshKept f) (xs : List Inst) :
    ∀ f ∈ refreshesOf (xs.map (fun i => (i, judge i))), RefreshKept f := by
  intro f hf
  obtain ⟨x, hx, e⟩ := List.mem_filterMap.mp hf
  obtain ⟨i, -, rfl⟩ := List.mem_map.mp hx
  dsimp only at e
  split at e
  · cases e
    exact h i _ ‹_›
  · cases e

theorem expandBooking_refreshes {p : Snapshot} {b : Booking} {r : BookingResult} (h : expandBooking p b = some r) :
    ∀ f ∈ r.refreshes, RefreshKept f := by
  unfold expandBooking at h
  split at h
  · cases h
  · cases h
    exact fun f hf => absurd hf List.not_mem_nil
  · cases h
    intro f hf
    replace hf : f ∈ BookingResult.refreshes _ := hf
    split at hf
    · obtain ⟨i, -, rfl⟩ := List.mem_map.mp hf
      exact refreshEvent_kept p b i
    · exact refreshesOf_kept (fun _ _ => judgeSeries_kept) _ f hf
    · exact refreshesOf_kept (fun _ _ => judgeManual_kept) _ f hf

theorem expand_result {p : Snapshot} {r : BookingResult} (h : r ∈ (expand p).results) :
    ∃ b ∈ p.bookings, expandBooking p b = some r := List.mem_filterMap.mp h

theorem expand_refreshes {p : Snapshot} {r : BookingResult} (h : r ∈ (expand p).results) :
    ∀ f ∈ r.refreshes, RefreshKept f := by
  obtain ⟨b, -, hb⟩ := expand_result h
  exact expandBooking_refreshes hb

theorem expand_granted (p : Snapshot) : ∀ c ∈ (expand p).granted, c.alts.length ≤ 4 := by
  intro c hc
  have asked := (mem_sortBy ..).mp (List.mem_of_mem_take hc)
  obtain ⟨r, hr, hc⟩ := List.mem_flatMap.mp asked
  obtain ⟨b, -, hb⟩ := expand_result hr
  exact (expandBooking_for hb c hc).2

/-! ## The contenders (R98 to R101) -/

/-- A contender with four alternates at most. -/
abbrev CandKept (c : Cand) : Prop := c.alts.length ≤ 4

theorem mem_numbered {α : Type} {n : Nat} {xs : List α} {x : Nat × α} (h : x ∈ numbered n xs) : x.2 ∈ xs := by
  induction xs generalizing n with
  | nil => cases h
  | cons y ys ih =>
    obtain rfl | h := List.mem_cons.mp h
    · exact List.mem_cons_self
    · exact List.mem_cons_of_mem y (ih h)

theorem candOfInst_kept {p : Snapshot} {fs : List Refresh} {i : Inst} (hf : ∀ f ∈ fs, RefreshKept f)
    (hi : i.alts.length ≤ 4) : CandKept (candOfInst p fs i) := by
  show ((fs.find? (fun r => r.iid == i.id)).getD (keepCore i i.alts)).alts.length ≤ 4
  cases h : fs.find? (fun r => r.iid == i.id) with
  | none => exact hi
  | some f => exact hf f (List.mem_of_find?_eq_some h)

theorem contenders_kept {p : Snapshot} (hp : SnapshotKept (some p)) : ∀ c ∈ contenders p (expand p), CandKept c := by
  intro c hc
  obtain hc | hc := List.mem_append.mp ((mem_sortBy ..).mp hc)
  · obtain ⟨i, hi, rfl⟩ := List.mem_map.mp hc
    refine candOfInst_kept (fun f hf => ?_) (hp p rfl i (List.mem_of_mem_filter hi))
    obtain ⟨r, hr, hf⟩ := List.mem_flatMap.mp hf
    exact expand_refreshes hr f hf
  · obtain ⟨kc, hk, rfl⟩ := List.mem_map.mp hc
    exact expand_granted p kc.2 (mem_numbered hk)

/-! ## Placement and the remedies (R106, R119 to R131) -/

/-- Every recording of a working plan, placed or lost, with four alternates at most. -/
structure WorkKept (w : Work) : Prop where
  placed : ∀ x ∈ w.placed, CandKept x.cand
  lost : ∀ x ∈ w.lost, CandKept x.cand

theorem WorkKept.putPlaced {w : Work} (h : WorkKept w) {c : Cand} (hc : CandKept c) (t : Tuner) (win full : Window)
    (v : Verdict) : WorkKept (putPlaced c t win full v w) where
  placed := by
    intro x hx
    obtain hx | hx := List.mem_append.mp hx
    · exact h.placed x hx
    · obtain rfl := List.mem_singleton.mp hx
      exact hc
  lost := h.lost

theorem WorkKept.applyTrim {w : Work} (h : WorkKept w) (changed : List Occ) : WorkKept (applyTrim changed w) where
  placed := by
    intro x hx
    obtain ⟨y, hy, rfl⟩ := List.mem_map.mp hx
    exact h.placed y hy
  lost := h.lost

theorem WorkKept.trimOn {w w' : Work} (h : WorkKept w) {n : Nat} {t : Tuner} {c : Cand} {full win : Window}
    (e : trimOn n t c full w = some (win, w')) : WorkKept w' := by
  unfold Machine.trimOn at e
  dsimp only at e
  repeat' split at e
  all_goals cases e
  exact h.applyTrim _

theorem WorkKept.trim {w w' : Work} (h : WorkKept w) {n : Nat} {t : Tuner} {c : Cand} {full win : Window}
    (e : trim n c full w = some (t, win, w')) : WorkKept w' := by
  unfold Machine.trim at e
  repeat' split at e
  all_goals cases e
  · exact h.trimOn ‹_›
  · exact h.trimOn ‹_›

theorem WorkKept.placeOrTrim {w w' : Work} (h : WorkKept w) {n : Nat} {c : Cand} (hc : CandKept c) {v v' : Verdict}
    (e : placeOrTrim n c v v' w = some w') : WorkKept w' := by
  unfold Machine.placeOrTrim at e
  dsimp only at e
  repeat' split at e
  all_goals cases e
  · exact h.putPlaced hc ..
  · exact (h.trim ‹_›).putPlaced hc ..

/-- Taking one alternate leaves its place to the former origin (R125). -/
theorem altsAfter_length (p : Snapshot) (c : Cand) {taken : EventKey} (h : taken ∈ c.alts) :
    (altsAfter p c taken).length ≤ c.alts.length := by
  have shorter : (c.alts.filter (fun k => k != taken)).length < c.alts.length :=
    List.length_filter_lt_length_iff_exists.mpr ⟨taken, h, by simp⟩
  unfold altsAfter
  dsimp only
  repeat' split
  · rw [length_insertBy]
    exact shorter
  all_goals exact shorter.le

theorem WorkKept.alternates {w w' : Work} (h : WorkKept w) {p : Snapshot} {c : Cand} (hc : CandKept c)
    (e : alternates p c w = some w') : WorkKept w' := by
  obtain ⟨k, hk, e⟩ := List.exists_of_findSome?_eq_some e
  unfold tryAlternate at e
  dsimp only at e
  split at e
  · cases e
  · rename_i r hr
    have key : r.key = k := (recOf_some hr).2
    split at e
    · cases e
    · exact h.placeOrTrim ((altsAfter_length p c (key ▸ hk)).trans hc) e

theorem WorkKept.displace {w w' : Work} (h : WorkKept w) {c : Cand} (hc : CandKept c) {full : Window}
    {back : List Cand} {set : List Occ} (e : displace c full w = some (w', back, set)) :
    WorkKept w' ∧ ∀ b ∈ back, CandKept b := by
  unfold Machine.displace at e
  dsimp only at e
  split at e
  · cases e
  · cases e
    refine ⟨WorkKept.putPlaced ?_ hc .., fun b hb => ?_⟩
    · exact ⟨fun x hx => h.placed x (List.mem_of_mem_filter hx), h.lost⟩
    obtain ⟨x, hx, rfl⟩ := List.mem_map.mp hb
    exact h.placed x (List.mem_of_mem_filter hx)

theorem WorkKept.placePartly {w w' : Work} (h : WorkKept w) {n : Nat} {c : Cand} (hc : CandKept c) {full : Window}
    (e : placePartly n c full w = some w') : WorkKept w' := by
  unfold Machine.placePartly at e
  repeat' split at e
  all_goals cases e
  exact h.putPlaced hc ..

theorem WorkKept.addLost {w : Work} (h : WorkKept w) {xs : List LostCand} (hx : ∀ x ∈ xs, CandKept x.cand) :
    WorkKept { w with lost := w.lost ++ xs } :=
  ⟨h.placed, fun x hm => (List.mem_append.mp hm).elim (h.lost x) (hx x)⟩

theorem WorkKept.addRecord {w : Work} (h : WorkKept w) (r : WorkRec) : WorkKept (addRecord r w) := ⟨h.placed, h.lost⟩

/-- Resolving a contender leaves four alternates at most on all that is placed, lost or put back (R106, R118). -/
theorem resolve_kept {w : Work} (h : WorkKept w) (p : Snapshot) {c : Cand} (hc : CandKept c) :
    WorkKept (resolve p c w).1 ∧ ∀ b ∈ (resolve p c w).2, CandKept b := by
  unfold resolve
  split
  · exact ⟨h.placeOrTrim hc ‹_›, nofun⟩
  · unfold resolveClash
    dsimp only
    split
    · exact ⟨(h.alternates hc ‹_›).addRecord _, nofun⟩
    · split
      · rename_i displaced
        split at displaced
        · cases displaced
        · obtain ⟨kept, back⟩ := h.displace hc displaced
          exact ⟨kept.addRecord _, back⟩
      · split
        · exact ⟨(h.placePartly hc ‹_›).addRecord _, nofun⟩
        · refine ⟨(h.addLost (fun x hx => ?_)).addRecord _, nofun⟩
          obtain rfl := List.mem_singleton.mp hx
          exact hc

theorem requeue_kept {back rest : List Cand} (hb : ∀ c ∈ back, CandKept c) (hr : ∀ c ∈ rest, CandKept c) :
    ∀ c ∈ back.foldl (fun q b => insertBy candLt b q) rest, CandKept c := by
  induction back generalizing rest with
  | nil => exact hr
  | cons b bs ih =>
    refine ih (fun c hc => hb c (List.mem_cons_of_mem b hc)) (fun c hc => ?_)
    obtain rfl | hc := (mem_insertBy ..).mp hc
    · exact hb c List.mem_cons_self
    · exact hr c hc

theorem placeAll_kept (p : Snapshot) (fuel : Nat) {queue : List Cand} (hq : ∀ c ∈ queue, CandKept c) {w : Work}
    (h : WorkKept w) : WorkKept (placeAll p fuel queue w) := by
  induction fuel generalizing queue w with
  | zero =>
    refine h.addLost (fun x hx => ?_)
    obtain ⟨c, hc, rfl⟩ := List.mem_map.mp hx
    exact hq c hc
  | succ fuel ih =>
    cases queue with
    | nil => exact h
    | cons c rest =>
      obtain ⟨kept, back⟩ := resolve_kept h p (hq c List.mem_cons_self)
      exact ih (requeue_kept back (fun d hd => hq d (List.mem_cons_of_mem c hd))) kept

/-- The contenders of a pass as it leaves them: placed, lost or too short (R96). -/
def candsOf (r : PassResult) : List Cand :=
  r.work.placed.map (fun x => x.cand) ++ r.work.lost.map (fun x => x.cand) ++ r.tooShort

theorem planPass_cands {p : Snapshot} (hp : SnapshotKept (some p)) : ∀ c ∈ candsOf (planPass p), CandKept c := by
  have all := contenders_kept hp
  have work : WorkKept (planPass p).work :=
    placeAll_kept p _ (fun c hc => all c (List.mem_of_mem_filter hc)) ⟨nofun, nofun⟩
  intro c hc
  obtain hc | hc := List.mem_append.mp hc
  · obtain hc | hc := List.mem_append.mp hc
    · obtain ⟨x, hx, rfl⟩ := List.mem_map.mp hc
      exact work.placed x hx
    · obtain ⟨x, hx, rfl⟩ := List.mem_map.mp hc
      exact work.lost x hx
  · exact all c (List.mem_of_mem_filter hc)

end Sys2Proof.Machine

/-! PROOFS. An install keeps the Instance List: removals, refreshes and creations, the plan results and the marks, and the
hand-off to Run Control (R70, R75 to R79, R86, R99, R107 to R112). -/

namespace Sys2Proof.Machine

set_option Elab.async false

open Sys2Proof

/-! ## The next id (R79) -/

theorem idAfter_range {n : Nat} (h : 1 ≤ n ∧ n ≤ 65535) : 1 ≤ idAfter n ∧ idAfter n ≤ 65535 := by
  unfold idAfter
  split <;> omega

theorem searchId_range (fuel : Nat) {n : Nat} (h : 1 ≤ n ∧ n ≤ 65535) (s : State) :
    1 ≤ searchId fuel n s ∧ searchId fuel n s ≤ 65535 := by
  induction fuel generalizing n with
  | zero => exact h
  | succ fuel ih =>
    unfold searchId
    split
    · exact ih (idAfter_range h)
    · exact h

/-- A search that ends on an id that is held has found every id it tried held. -/
theorem searchId_held {fuel n : Nat} {s : State} (h : searchId fuel n s ∈ s.lst.insts.map (fun i => i.id)) :
    ∀ k ≤ fuel, idAfter^[k] n ∈ s.lst.insts.map (fun i => i.id) := by
  induction fuel generalizing n with
  | zero =>
    intro k hk
    obtain rfl := Nat.le_zero.mp hk
    exact h
  | succ fuel ih =>
    unfold searchId at h
    split at h
    · rename_i held
      intro k hk
      cases k with
      | zero => simpa [List.any_eq_true] using held
      | succ k =>
        rw [Function.iterate_succ_apply]
        exact ih h k (Nat.le_of_succ_le_succ hk)
    · rename_i free
      exact absurd (by simpa [List.any_eq_true] using h) free

/-- The ids tried, counted round from 1 to 65,535. -/
theorem idAfter_iterate {n : Nat} (h : 1 ≤ n ∧ n ≤ 65535) (k : Nat) : idAfter^[k] n = (n - 1 + k) % 65535 + 1 := by
  induction k with
  | zero =>
    rw [Function.iterate_zero_apply]
    omega
  | succ k ih =>
    rw [Function.iterate_succ_apply', ih]
    unfold idAfter
    split <;> omega

/-- With 160 recordings at most, 161 steps of the search find an id that none holds (R79). -/
theorem searchId_fresh {n : Nat} (h : 1 ≤ n ∧ n ≤ 65535) {s : State} (room : s.lst.insts.length ≤ Config.instCap) :
    ∀ i ∈ s.lst.insts, i.id ≠ searchId 161 n s := by
  intro i hi e
  have held := searchId_held (fuel := 161) (n := n) (s := s) (e ▸ List.mem_map_of_mem hi)
  have distinct : ((List.range 162).map (fun k => idAfter^[k] n)).Nodup := by
    refine List.Nodup.map_on (fun a ha b hb hab => ?_) List.nodup_range
    rw [List.mem_range] at ha hb
    rw [idAfter_iterate h, idAfter_iterate h] at hab
    omega
  have tried : (List.range 162).map (fun k => idAfter^[k] n) ⊆ s.lst.insts.map (fun i => i.id) := by
    intro m hm
    obtain ⟨k, hk, rfl⟩ := List.mem_map.mp hm
    exact held k (Nat.le_of_lt_succ (List.mem_range.mp hk))
  have := (distinct.subperm tried).length_le
  rw [List.length_map, List.length_map, List.length_range] at this
  simp only [Config.instCap] at room
  omega

/-! ## Removals and creations (R75, R76, R79, R86) -/

theorem removeInst_list (iid : Nat) (s : State) : Keeps ListKept s (removeInst iid s) := by
  unfold removeInst
  split
  · exact .refl s
  · exact .ite (Keeps.trans (t := withdrawInst iid s) .same (leaveList_list _ _)) (.refl s)

theorem leaveList_insts (i : Inst) (s : State) :
    (leaveList i s).lst.insts = s.lst.insts.filter (fun j => j.id != i.id) := by
  simp [leaveList]

theorem makeRoom_list (a : InstallAcc) : Keeps ListKept a.s (makeRoom a).s := by
  unfold makeRoom
  repeat' split
  · exact .refl _
  · exact .refl _
  · exact leaveList_list _ _

theorem makeRoom_sublist (a : InstallAcc) : (makeRoom a).s.lst.insts.Sublist a.s.lst.insts := by
  unfold makeRoom
  repeat' split
  · exact List.Sublist.refl _
  · exact List.Sublist.refl _
  · rw [leaveList_insts]
    exact List.filter_sublist

/-- A recording that has just been created holds no segment (R76). -/
theorem newInst_kept (iid : Nat) (c : Creation) {cand : Cand} (h : CandKept cand) : InstKept (newInst iid c cand) :=
  ⟨h, Nat.zero_le _, fun _ => rfl, nofun⟩

/-- A creation takes an id that none holds, and makes no thirteenth recording of its booking (R70, R76, R79). -/
theorem createOne_list {cands : List Cand} (hc : ∀ c ∈ cands, CandKept c) (a : InstallAcc) (kc : Nat × Creation) :
    Keeps ListKept a.s (createOne cands a kc).s := by
  intro hs
  unfold createOne
  dsimp only
  split
  · exact hs
  · rename_i cand found
    split
    · rename_i allowed
      have kept := makeRoom_list a hs
      split
      · rename_i room
        obtain ⟨insts, next, snap⟩ := (listKept_iff _).mp kept
        have fewer : liveIn kc.2.booking (makeRoom a).s.lst.insts ≤ liveIn kc.2.booking a.s.lst.insts :=
          ((makeRoom_sublist a).filter _).length_le
        refine (listKept_iff _).mpr ⟨?_, idAfter_range (searchId_range 161 next _), snap⟩
        exact insts.insert (newInst_kept _ _ (hc cand (List.mem_of_find?_eq_some found))) room
          (searchId_fresh next insts.room) (fun _ => fewer.trans_lt allowed.2)
      · exact kept
    · exact hs

/-! ## Refreshes (R75, R81, R125) -/

theorem writeCore_kept {c : Cand} (hc : CandKept c) {i : Inst} (hi : InstKept i) : InstKept (writeCore c i) :=
  ⟨hc, hi.segments, hi.unstarted, hi.room⟩

/-- A recording that has not ended, rewritten and put at the place its core start gives it (R78, R81). -/
theorem rewriteInst_list {iid : Nat} {f : Inst → Inst} {s : State} {i : Inst} (hi : findInst iid s = some i)
    (hf : InstKept i → InstKept (f i)) (id : (f i).id = i.id) (booking : (f i).booking = i.booking)
    (live : isTerminal i.state = false) : Keeps ListKept s (rewriteInst iid f s) := by
  intro hs
  obtain rfl := findInst_id hi
  unfold rewriteInst
  rw [hi]
  have held := mem_of_findInst hi
  exact listKept_of_insts hs (fun insts => insts.reinsert held (hf (insts.each i held)) id booking live) rfl rfl

theorem refreshOne_list {c : Cand} (hc : CandKept c) (s : State) : Keeps ListKept s (refreshOne s c) := by
  unfold refreshOne
  split
  · exact .refl s
  · rename_i i hi
    split
    · rename_i placeable
      obtain ⟨hp, -⟩ : isPlaceable i.state = true ∧ bookingHeld i.booking s = true := by simpa using placeable
      exact rewriteInst_list hi (writeCore_kept hc) rfl rfl (isTerminal_of_placeable hp)
    · exact .refl s

theorem refreshRunning_list {r : Refresh} (hr : RefreshKept r) (s : State) : Keeps ListKept s (refreshRunning s r) := by
  unfold refreshRunning
  split
  · exact .refl s
  · rename_i i hi
    refine .ite (modInst_found hi ?_) (.refl s)
    exact ⟨rfl, rfl, rfl, id, fun ⟨_, segments, unstarted, room⟩ => ⟨hr, segments, unstarted, room⟩⟩

theorem applyExpansion_list {r : PassResult} {cands : List Cand} (hc : ∀ c ∈ cands, CandKept c)
    (hr : ∀ x ∈ r.expansion.results, ∀ f ∈ x.refreshes, RefreshKept f) (s : State) :
    Keeps ListKept s (applyExpansion r cands s).s := by
  refine (Keeps.foldl (fun u iid => removeInst_list iid u) _ s).trans
    ((Keeps.foldl_of id (fun u c hm => refreshOne_list (hc c hm) u) _).trans
      ((Keeps.foldl_of id (fun u f hm => refreshRunning_list ?_ u) _).trans
        (Keeps.foldl_of InstallAcc.s (fun a kc _ => createOne_list hc a kc) ⟨_, [], []⟩)))
  obtain ⟨x, hx, hf⟩ := List.mem_flatMap.mp hm
  exact hr x (List.mem_of_mem_filter hx) f hf

/-! ## The plan results and the marks (R99, R107 to R109) -/

theorem setEnd_rewrites (we : Nat) {i j : Inst} (h : Rewrites i j) : Rewrites i (setEnd we j) :=
  ⟨h.id, h.booking, h.start, h.ended, fun hi =>
    have kept := h.kept hi
    ⟨kept.alts, kept.segments, kept.unstarted, kept.room⟩⟩

theorem writeFixed_rewrites (p : Snapshot) (w : Work) (b : Booking) (old i : Inst) :
    Rewrites i (writeFixed p w b old i) := by
  unfold writeFixed
  dsimp only
  repeat' split
  · exact .same
  · exact .same
  all_goals exact setEnd_rewrites _ .same

theorem writeStarted_rewrites (p : Snapshot) (b : Booking) (i : Inst) : Rewrites i (writeStarted p b i) := by
  unfold writeStarted
  dsimp only
  split
  · exact setEnd_rewrites _ .same
  · exact .same

theorem writeRunning_list (p : Snapshot) (w : Work) (s : State) (iid : Nat) :
    Keeps ListKept s (writeRunning p w s iid) := by
  unfold writeRunning
  repeat' split
  · exact .refl s
  · exact modInst_list (writeFixed_rewrites p w _ _) s
  · exact (modInst_list (writeStarted_rewrites p _) s).trans (setDirtyIf_same _ _).list
  all_goals exact .refl s

/-- The recording of a number of the pass, where it is still placeable, as the pass leaves it (R107). -/
theorem modInst_placeable {o : Option Nat} {s : State} {i : Inst} {f : Inst → Inst}
    (hi : o.bind (fun iid => findInst iid s) = some i) (hf : Rewrites i (f i)) :
    Keeps ListKept s (modInst i.id f s) := by
  obtain ⟨iid, -, hi⟩ := Option.bind_eq_some_iff.mp hi
  obtain rfl := findInst_id hi
  exact modInst_found hi hf

theorem writePlaced_list (since : List Occ) (m : Merge) (x : Placed) :
    Keeps ListKept m.a.s (writePlaced since m x).a.s := by
  unfold writePlaced
  split
  · exact .refl _
  · rename_i i hi
    split
    · rename_i placeable
      obtain ⟨hp, -⟩ : isPlaceable i.state = true ∧ bookingHeld i.booking m.a.s = true := by simpa using placeable
      split
      · exact modInst_placeable hi (.replans hp rfl le_rfl)
      · exact (modInst_placeable hi (.replans hp rfl le_rfl)).trans (setDirty_same _).list
    · exact .refl _

theorem writeLost_list (a : InstallAcc) (x : LostCand) : Keeps ListKept a.s (writeLost a x).s := by
  unfold writeLost
  split
  · exact .refl _
  · rename_i i hi
    split
    · rename_i placeable
      obtain ⟨hp, -⟩ : isPlaceable i.state = true ∧ bookingHeld i.booking a.s = true := by simpa using placeable
      exact modInst_placeable hi (.replans hp rfl le_rfl)
    · exact .refl _

theorem writeShort_list (ids : List (Nat × Nat)) (s : State) (c : Cand) : Keeps ListKept s (writeShort ids s c) := by
  unfold writeShort
  split
  · exact .refl _
  · rename_i i hi
    split
    · rename_i planned
      exact modInst_placeable hi (.replans (by simp [planned.1, isPlaceable]) rfl le_rfl)
    · exact .refl _

theorem applyPlan_list (p : Snapshot) (r : PassResult) (a : InstallAcc) : Keeps ListKept a.s (applyPlan p r a).s :=
  (Keeps.foldl (writeRunning_list p r.work) _ a.s).trans
    ((Keeps.foldl_of (fun m : Merge => m.a.s) (fun m x _ => writePlaced_list _ m x) ⟨{ a with s := _ }, _⟩).trans
      ((Keeps.foldl_of InstallAcc.s (fun b x _ => writeLost_list b x) _).trans (.foldl (writeShort_list _) _ _)))

theorem writeCuts_list (p : Snapshot) (w : Work) (ids : List (Nat × Nat)) (s : State) :
    Keeps ListKept s (writeCuts p w ids s) := fun hs =>
  listKept_of_insts hs (fun kept => kept.map (fun i _ => .ite (.refl i) .same)) rfl rfl

theorem applyMarks_list (p : Snapshot) (r : PassResult) (a : InstallAcc) : Keeps ListKept a.s (applyMarks p r a).s :=
  (writeCuts_list p r.work a.ids a.s).trans (.same rfl rfl rfl)

/-! ## The booking side, and the plan renewed (R64, R77, R110) -/

theorem applyUpdate_list (a : InstallAcc) (r : BookingResult) : Keeps ListKept a.s (applyUpdate a r).s := by
  unfold applyUpdate
  split
  · exact .same rfl rfl rfl
  · exact .refl _

theorem applySpent_list (s : State) (r : BookingResult) : Keeps ListKept s (applySpent s r) := by
  unfold applySpent
  split
  · exact .ite .same (.refl s)
  · exact .refl s

theorem applyBookings_list (r : PassResult) (a : InstallAcc) : Keeps ListKept a.s (applyBookings r a).s :=
  (Keeps.foldl_of InstallAcc.s (fun b x _ => applyUpdate_list b x) a).trans (.foldl applySpent_list _ _)

theorem submitFree_same (cs : List Condition) (s : State) : SameList s (submitFree cs s) := .same

theorem resulting_list {p : Snapshot} (hp : SnapshotKept (some p)) (s : State) : Keeps ListKept s (resulting p s) :=
  (applyExpansion_list (r := planPass p) (planPass_cands hp) (fun _ hx => expand_refreshes (p := p) hx) s).trans
    ((applyPlan_list p _ _).trans ((applyMarks_list p _ _).trans ((applyBookings_list _ _).trans
      (submitFree_same _ _).list)))

theorem renewing_list (p : Snapshot) (s : State) : Keeps ListKept (resulting p s) (renewing p s) := .same rfl rfl rfl

/-! ## The hand-off to Run Control (R111, R140, R151, R156) -/

theorem syncInst_list (s : State) (iid : Nat) : Keeps ListKept s (syncInst s iid) := by
  have held : Keeps ListKept s (modInst iid (fun j => { j with startHeld := false }) s) := modInst_list (fun _ => .same) s
  unfold syncInst
  split
  · exact .refl s
  · rename_i i hi
    split
    · exact held.trans .same
    · exact held.trans .same
    · unfold syncPlanned
      exact (((withdrawDue_same _ s).trans (ensureDue_same _ _ _)).list.trans (modInst_list (fun _ => .same) _)).trans
        (ensureDue_same _ _ _).list
    · split
      · exact .ite (.refl s) ((modInst_list (fun _ => .same) s).trans (requestDue_same _ _ _).list)
      · exact .refl s
    · split
      · exact .ite (.refl s) ((modInst_list (fun _ => .same) s).trans (requestDue_same _ _ _).list)
      · exact .refl s
    · split
      · refine .ite (.refl s) ?_
        have ended : Keeps ListKept s (modInst iid (fun j => { j with runEnd := some (winEnd i) }) s) :=
          modInst_list (fun _ => .same) s
        exact .ite (ended.trans .same) ended
      · exact .refl s
    all_goals exact .refl s

theorem syncClaim_list (before s : State) (c : Claim) : Keeps ListKept s (syncClaim before s c) := by
  unfold syncClaim
  dsimp only
  repeat' split
  all_goals exact .same

theorem takeFresh_list {act : State → State} (h : ∀ u, Keeps ListKept u (act u)) (before : List DueReq) (k : DueKind)
    (s : State) : Keeps ListKept s (takeFresh before k act s) := by
  unfold takeFresh
  split
  · exact .refl s
  · refine .ite ?_ (.refl s)
    obtain ⟨-, e⟩ | ⟨-, e⟩ := takeDue_cases k s
    · rw [e]
      exact .trans .same (h _)
    · rw [e]
      exact .refl s

theorem takeFreshInst_list (before : List DueReq) (s : State) (iid : Nat) :
    Keeps ListKept s (takeFreshInst before s iid) :=
  (takeFresh_list (takeWindowStart_list iid) _ _ s).trans ((takeFresh_list (takeCoreEnd_list iid) _ _ _).trans
    ((takeFresh_list (enterStopping_list _ iid) _ _ _).trans (takeFresh_list (takeWindowClose_list iid) _ _ _)))

theorem handOff_list (before s : State) : Keeps ListKept s (handOff before s) :=
  (Keeps.foldl syncInst_list _ s).trans ((Keeps.foldl (syncClaim_list before) _ _).trans
    ((Keeps.foldl (fun u (c : Claim) => takeFresh_list (takeYieldWarning_list c.id) _ _ u) _ _).trans
      (.foldl (takeFreshInst_list _) _ _)))

theorem postPlanChanged_list (b : Bool) (s : State) : Keeps ListKept s (postPlanChanged b s) := .ite .same (.refl s)

theorem handing_list (p : Snapshot) (s : State) : Keeps ListKept (renewing p s) (handing p s) :=
  (postPlanChanged_list _ _).trans ((handOff_list s _).trans (retryStarts_list s _))

/-! ## The whole install (R107 to R114) -/

theorem answerAllHeld_list (s : State) : Keeps ListKept s (answerAllHeld s) := by
  obtain ⟨rs, -, e⟩ := answerAllHeld_replies s
  rw [e]
  exact .same rfl rfl rfl

theorem snapshotKept_none : SnapshotKept none := fun _ h => absurd h (Option.not_mem_none _)

/-- The next pass takes its snapshot of the list as it stands, or there is none (R112). -/
theorem endPass_list (s : State) : Keeps ListKept s (endPass s) :=
  .ite (fun hs => modPln_list hs (snapshotOf_kept hs)) (fun hs => modPln_list hs snapshotKept_none)

theorem execInstall_list {s t : State} (h : execInstall s = .next t) : Keeps ListKept s t := by
  unfold execInstall at h
  split at h
  · rename_i p _ snap
    cases h
    intro hs
    have hp : SnapshotKept (some p) := snap ▸ listKept_snapshot hs
    rw [installPass_eq]
    have handed := ((resulting_list hp s).trans (renewing_list p s)).trans (handing_list p s)
    exact ((handed.trans ((answerAllHeld_list _).trans (endPass_list _))).trans (settleOutputs_list s _)) hs
  · cases h
    exact .refl s

end Sys2Proof.Machine

/-! PROOFS. Every command keeps the Instance List: the resets empty it, every other command goes through the operations and
messages (R70, R78, R79). -/

namespace Sys2Proof.Machine

-- one theorem after another: many at a time would want a thread each
set_option Elab.async false

open Sys2Proof

/-! ## The resets, the rollover and the offset change (R14, R15, R57) -/

/-- The list and the Planner after every reset: no recording, the first id, no snapshot (R57). -/
theorem listKept_fresh {s : State} (hi : s.lst = freshList) (hp : s.pln.snapshot = none) : ListKept s := by
  refine (listKept_iff s).mpr ⟨?_, ?_, hp ▸ snapshotKept_none⟩
  · rw [hi]
    exact instsKept_nil
  · rw [hi]
    decide

theorem startKeepalive_same (s : State) : SameList s (startKeepalive s) := by
  unfold startKeepalive
  split
  · exact startDelay_same _ _ s
  · exact .refl s

theorem execWarmReset_list {s t : State} (h : execWarmReset s = .next t) : Keeps ListKept s t := by
  unfold execWarmReset at h
  split at h
  · cases h
    exact fun _ => beginPass_list _ ((startKeepalive_same _).list (listKept_fresh rfl rfl))
  · cases h
    exact .refl s

theorem execColdReset_list {s t : State} (h : execColdReset s = .next t) : Keeps ListKept s t := by
  unfold execColdReset at h
  split at h
  · cases h
    exact fun _ => (startKeepalive_same _).list (listKept_fresh rfl rfl)
  · cases h
    exact .refl s

theorem execDayRollover_list {s t : State} (h : execDayRollover s = .next t) : Keeps ListKept s t := by
  unfold execDayRollover at h
  split at h
  · cases h
    exact .refl s
  · cases h
    exact .trans (t := modClk rolloverTaken s) .same ((handRollover_list _).trans (settle_list s _))

theorem execOffsetChange_list {s t : State} (h : execOffsetChange s = .next t) : Keeps ListKept s t := by
  unfold execOffsetChange at h
  split at h
  · cases h
    have logged (c : Condition) (p : Prop) [Decidable p] (u : State) : SameList u (if p then u else submit c u) :=
      .ite (.refl u) (submit_same c u)
    have applied (ch : OffsetChange) : SameList s (modClk (applyChange ch) s) := .same rfl rfl rfl
    exact (((applied _).trans (logged _ _ _)).trans (setDirty_same _)).list.trans (settle_list s _)
  · cases h
    exact .refl s

/-! ## The events of the line (R196 to R201) -/

section Line

variable {s t : State} {kind tag : Byte} {p : List Byte}

/-- GUIDE_PUT judges the clock before its payload (log entry 13). -/
theorem execGuidePut_list (h : execGuidePut tag p s = .next t) : Keeps ListKept s t := by
  cases h
  refine (onFrame_list (fun u => .ite ?_ .same) _ _ _ _).trans (settle_list s _)
  split
  · exact .same
  · exact .ite .same (guidePut_list tag _ u)

theorem execBadCheck_list {check : BitVec 16} (h : execBadCheck kind tag p check s = .next t) : Keeps ListKept s t := by
  unfold execBadCheck answerBadCheck at h
  dsimp only at h
  repeat' split at h
  all_goals
    cases h
    exact .same

theorem execBadKind_list (h : execBadKind kind tag p s = .next t) : Keeps ListKept s t := by
  unfold execBadKind at h
  split at h
  · cases h
    exact .refl s
  · cases h
    exact onFrame_list (fun u => .same (t := answerBadKind kind tag u) rfl rfl rfl) _ _ _ _

theorem execFrameDiscardedInHand_list (h : execFrameDiscardedInHand kind tag p s = .next t) : Keeps ListKept s t := by
  unfold execFrameDiscardedInHand at h
  split at h
  all_goals
    cases h
    exact .same

theorem execLineFramingError_list {bs : List Byte} (h : execLineFramingError bs s = .next t) : Keeps ListKept s t := by
  unfold execLineFramingError at h
  split at h
  all_goals
    cases h
    exact .same

theorem interByteEnd_list (s : State) : Keeps ListKept s (interByteEnd s) := by
  unfold interByteEnd
  dsimp only
  cases h : takeDelay .interByte (startDelay .interByte Config.interByteUnits s) with
  | none => exact .same rfl
  | some u => exact .trans (t := startDelay .interByte Config.interByteUnits s) .same (takeDelay_list h)

theorem execInterByteTimeout_list {bs : List Byte} (h : execInterByteTimeout bs s = .next t) : Keeps ListKept s t := by
  unfold execInterByteTimeout at h
  split at h
  · cases h
    exact .refl s
  · split at h
    · cases h
      exact .refl s
    · cases h
      exact .trans (t := modLnk _ s) .same (interByteEnd_list _)

theorem execReplySent_list (h : execReplySent s = .next t) : Keeps ListKept s t := by
  unfold execReplySent at h
  split at h
  all_goals
    cases h
    exact .same

theorem execFrameLengthExceeds512_list {high low : Byte} (h : execFrameLengthExceeds512 high low s = .next t) :
    Keeps ListKept s t := by
  unfold execFrameLengthExceeds512 at h
  split at h
  all_goals
    cases h
    exact .same

end Line

/-! ## Every command -/

/-- A command that answers a state which keeps the list. -/
theorem Keeps.answers {s u t : State} (k : Keeps ListKept s u)
    (h : (.next u : Host.Outcome State Fault Refusal) = .next t) : Keeps ListKept s t := by
  cases h
  exact k

/-- A message, and the end of its event. -/
theorem Keeps.settledMessage {α : Type} {act : α → State → State} (k : ∀ m u, Keeps ListKept u (act m u))
    {pr : Parser α} {kind tag : Byte} {p : List Byte} {s t : State}
    (h : (.next (settle s (onMessage kind tag pr p act s)) : Host.Outcome State Fault Refusal) = .next t) :
    Keeps ListKept s t :=
  ((onMessage_list k pr kind tag p s).trans (settle_list s _)).answers h

/-- A message that settles nothing. -/
theorem Keeps.message {α : Type} {act : α → State → State} (k : ∀ m u, Keeps ListKept u (act m u))
    {pr : Parser α} {kind tag : Byte} {p : List Byte} {s t : State}
    (h : (.next (onMessage kind tag pr p act s) : Host.Outcome State Fault Refusal) = .next t) : Keeps ListKept s t :=
  (onMessage_list k pr kind tag p s).answers h

theorem Keeps.due {act : State → State} (h : ∀ u, Keeps ListKept u (act u)) {k : DueKind} {s t : State}
    (e : (.next (onDue k act s) : Host.Outcome State Fault Refusal) = .next t) : Keeps ListKept s t :=
  (onDue_list h k s).answers e

theorem Keeps.delay {act : State → State} (h : ∀ u, Keeps ListKept u (act u)) {k : DelayKind} {s t : State}
    (e : (.next (onDelay k act s) : Host.Outcome State Fault Refusal) = .next t) : Keeps ListKept s t :=
  (onDelay_list h k s).answers e

/-- One command keeps the list: a reset empties it, an install creates and removes within the bounds of R70, R78 and R79, and
every other command rewrites recordings as their state allows, takes one away, or leaves them alone. -/
theorem exec_list (c : Instr) {s t : State} (h : exec c s = .next t) : Keeps ListKept s t := by
  cases c with
  | powerOn =>
    cases h
    exact fun _ => listKept_fresh rfl rfl
  | warmReset => exact execWarmReset_list h
  | coldReset => exact execColdReset_list h
  | crystalSecond => exact Keeps.answers .same h
  | dayRollover => exact execDayRollover_list h
  | offsetChange => exact execOffsetChange_list h
  | timeSet tag p => exact .settledMessage (timeSet_list tag) h
  | timeGet tag p => exact .message (fun _ u => timeGet_list tag u) h
  | guidePut tag p => exact execGuidePut_list h
  | guideDropKeys tag p => exact .settledMessage (guideDrop_list tag) h
  | guideDropService tag p => exact .settledMessage (guideDrop_list tag) h
  | eventStatus tag p => exact .settledMessage (eventStatus_list tag) h
  | guideGetEvent tag p => exact (onFrame_list (guideGet_list tag p) _ _ _ s).answers h
  | guideGetSummary tag p => exact (onFrame_list (guideGet_list tag p) _ _ _ s).answers h
  | bookEvent tag p => exact .settledMessage (bookEvent_list tag) h
  | bookSeries tag p => exact .settledMessage (bookSeries_list tag) h
  | bookManual tag p => exact .settledMessage (bookManual_list tag) h
  | bookChange tag p => exact .settledMessage (bookChange_list tag) h
  | bookSuspend tag p => exact .settledMessage (moveBooking_list _ tag _) h
  | bookResume tag p => exact .settledMessage (moveBooking_list _ tag _) h
  | bookDelete tag p => exact .settledMessage (bookDelete_list tag) h
  | bookGet tag p => exact .message (bookGet_list tag) h
  | bookList tag p => exact .message (bookList_list tag) h
  | historyAdd tag p => exact .settledMessage (historyAdd_list tag) h
  | historyDropPair tag p => exact .settledMessage (historyDrop_list tag) h
  | historyDropSeries tag p => exact .settledMessage (historyDrop_list tag) h
  | historyGet tag p => exact .message (historyGet_list tag) h
  | instanceGet tag p => exact .message (instanceGet_list tag) h
  | planGet tag p => exact .message (planGet_list tag) h
  | outcomeTake tag p => exact .settledMessage (outcomeTake_list tag) h
  | clashGet tag p => exact .message (clashGet_list tag) h
  | install => exact execInstall_list h
  | windowStart n => exact .due (takeWindowStart_list n) h
  | coreEnd n => exact .due (takeCoreEnd_list n) h
  | heldStartLimit n => exact .due (takeHeldLimit_list n) h
  | stopMoment n => exact .due (fun u => enterStopping_list _ n u) h
  | overrunCap n => exact .due (takeOverrunCap_list n) h
  | startConfirmTimeout n => exact .delay (takeStartTimeout_list n) h
  | stopConfirmTimeout n => exact .delay (takeStopTimeout_list n) h
  | recReportStarted tag p => exact .settledMessage (recReport_list tag) h
  | recReportStartFailed tag p => exact .settledMessage (recReport_list tag) h
  | recReportStopped tag p => exact .settledMessage (recReport_list tag) h
  | viewClaimNew tag p => exact .settledMessage (viewClaim_list tag) h
  | viewClaimChange tag p => exact .settledMessage (viewClaim_list tag) h
  | viewRelease tag p => exact .settledMessage (viewRelease_list tag) h
  | yieldWarning n => exact .due (takeYieldWarning_list n) h
  | lockGraceEnd u => exact .due (takeGraceEnd_list u) h
  | lockMonitorTick u locked => exact .delay (takeTick_list u locked) h
  | lockAbandon u => exact .due (takeAbandon_list u) h
  | windowClose n => exact .due (takeWindowClose_list n) h
  | keepaliveExpiry => exact .delay takeKeepalive_list h
  | wakeDue => exact .due takeWakeDue_list h
  | wakeTimeout => exact .delay takeWakeTimeout_list h
  | resetPulseEnd => exact .delay (fun _ => .same) h
  | hello tag p =>
    exact ((onMessage_list (fun _ u => hello_list tag u) _ _ _ _ s).trans
      (settleOutputs_list s _)).answers h
  | standby tag p => exact .settledMessage (fun _ u => standby_list tag u) h
  | causeClear tag p => exact .message (fun _ u => causeClear_list tag u) h
  | resetPart tag p => exact .message (resetPart_list tag) h
  | condRead tag p => exact .message (condRead_list tag) h
  | condClear tag p => exact .message (condClear_list tag) h
  | condConfig tag p => exact .message (condConfig_list tag) h
  | noticeFetch tag p => exact .settledMessage (fun _ u => noticeFetch_list tag u) h
  | actionsGet tag p => exact .message (fun _ u => actionsGet_list tag u) h
  | configSet tag p => exact .settledMessage (configSet_list tag) h
  | configGet tag p => exact (onFrame_list (fun u => configGet_list tag _ u) _ _ _ s).answers h
  | badCheck kind tag p check => exact execBadCheck_list h
  | badKind kind tag p => exact execBadKind_list h
  | frameDiscardedInHand kind tag p => exact execFrameDiscardedInHand_list h
  | lineFramingError bs => exact execLineFramingError_list h
  | interByteTimeout bs => exact execInterByteTimeout_list h
  | replySent => exact execReplySent_list h
  | frameLengthExceeds512 high low => exact execFrameLengthExceeds512_list h

/-- Settles O56: a step takes a command off the queue, which the list does not hold, and the command keeps the list. -/
theorem stepsKeepTheInstanceList : Obligations.StepsKeepTheInstanceList := by
  intro s t hs h
  unfold step at h
  split at h
  · cases h
    exact hs
  · rename_i c rest _
    exact exec_list c (s := { s with pending := rest }) h hs

end Sys2Proof.Machine

/-! PROOFS. The end of every event settles the summaries, the terminal order, the wake due request, the attention output and
the dirty flag, whatever the event has done (R82 to R84, R94, R184, R204). -/

namespace Sys2Proof.Machine

-- one theorem after another: many at a time would want a thread each
set_option Elab.async false

open Sys2Proof

/-! ## The terminal order (R83) -/

theorem mem_newTerminals {l : InstanceList} {k : Nat} :
    k ∈ newTerminals l ↔ (∃ i ∈ l.insts, isTerminal i.state = true ∧ i.id = k) ∧ k ∉ l.terminalOrder := by
  simp [newTerminals, and_assoc]

/-- No terminal recording is new exactly where each has its place. -/
theorem newTerminals_eq_nil_iff {l : InstanceList} :
    newTerminals l = [] ↔ ∀ i ∈ l.insts, isTerminal i.state = true → i.id ∈ l.terminalOrder := by
  simp only [List.eq_nil_iff_forall_not_mem, mem_newTerminals, not_and, not_not]
  exact ⟨fun h i hi ht => h i.id ⟨i, hi, ht, rfl⟩, fun h k ⟨i, hi, ht, hk⟩ => hk ▸ h i hi ht⟩

/-- Once the new terminal recordings have joined the order, none is new. -/
theorem newTerminals_placed (l : InstanceList) (e : Option Nat) :
    newTerminals { l with terminalOrder := l.terminalOrder ++ newTerminals l, earliest := e } = [] := by
  refine newTerminals_eq_nil_iff.mpr (fun i hi ht => ?_)
  by_cases placed : i.id ∈ l.terminalOrder
  · exact List.mem_append_left _ placed
  · exact List.mem_append_right _ (mem_newTerminals.mpr ⟨⟨i, hi, ht, rfl⟩, placed⟩)

/-! ## What the summaries and the wake due request are made from (R82, R184) -/

theorem earliestPlanned_congr {s u : State} (h : u.lst.insts = s.lst.insts) : earliestPlanned u = earliestPlanned s := by
  rw [earliestPlanned, earliestPlanned, plannedInsts, plannedInsts, h]

theorem actionIds_congr {s u : State} (h : u.lst.insts = s.lst.insts) : actionIds u = actionIds s := by
  rw [actionIds, actionIds, idsWhere, idsWhere, h]

/-- The Wake Supervisor's fields that R184 reads. -/
theorem wakeTarget_of_fields {s u : State} (he : u.lst.earliest = s.lst.earliest) (hh : u.wsv.host = s.wsv.host)
    (hf : u.wsv.silentFloor = s.wsv.silentFloor) (hl : u.wsv.wakeLead = s.wsv.wakeLead) : wakeTarget u = wakeTarget s := by
  rw [wakeTarget, wakeTarget, he, hh, hf, hl]

/-! ## The end of an event -/

/-- Where no pass begins, no dirty flag waits but for the clock (R94). -/
theorem beginPass_waits {u : State} (hi : (beginPass u).pln.passState = .idle) (hd : (beginPass u).pln.dirty = true) :
    (beginPass u).clk.cstate = .unset := by
  unfold beginPass at hi hd ⊢
  split at hi
  · cases hi
  · rename_i h
    rw [if_neg h] at hd ⊢
    by_contra set
    exact h ⟨hi, hd, by simpa [clockSet] using set⟩

/-- The end of every event leaves the part settled (R82 to R84, R94, R184, R204). -/
theorem settleOutputs_settled (before s : State) : Settled (settleOutputs before s) := by
  have insts : (settleOutputs before s).lst.insts = s.lst.insts := settleOutputs_insts before s
  refine ⟨?_, ?_, ?_, ?_, ?_, beginPass_waits⟩
  · rw [earliestPlanned_congr insts, settleOutputs_lst]
  · rw [actionIds_congr insts, settleOutputs_actionSet]
  · rw [settleOutputs_lst, newTerminals_placed]
  · rw [heldDue_of_clk (settleOutputs_clk before s), syncWake_heldDue]
    refine wakeTarget_of_fields ?_ ?_ ?_ ?_
    · rw [settleOutputs_lst]
      rfl
    all_goals
      rw [settleOutputs_wsv]
      rfl
  · obtain ⟨v, -, lnk⟩ := settleOutputs_lnk before s
    rw [lnk]
    rfl

end Sys2Proof.Machine

/-! PROOFS. Every step keeps the part settled (R82 to R84, R94, R184, R204): the events that change what the summaries and
the outputs are made from settle them at their end, and every other command leaves all of it alone. -/

namespace Sys2Proof.Machine

-- one theorem after another: many at a time would want a thread each
set_option Elab.async false

open Sys2Proof

/-! ## What leaves a settled part settled -/

/-- From `s` to `u` nothing has changed that the summaries, the terminal order, the wake due request, the attention output
or the beginning of a pass depend on. -/
structure Undisturbed (s u : State) : Prop where
  lst : u.lst = s.lst
  pln : u.pln = s.pln
  host : u.wsv.host = s.wsv.host
  floor : u.wsv.silentFloor = s.wsv.silentFloor
  lead : u.wsv.wakeLead = s.wsv.wakeLead
  wake : (heldDue .wakeDue u).map (fun d => d.time) = (heldDue .wakeDue s).map (fun d => d.time)
  unset : s.clk.cstate = .unset → u.clk.cstate = .unset
  actionSet : u.lnk.actionSet = s.lnk.actionSet
  notices : u.lnk.notices = s.lnk.notices
  attn : u.lnk.attn = s.lnk.attn

section Undisturbed

variable {s t u : State}

/-- An operation of the Link Port, or of a delay, leaves all of it alone by its definition. -/
theorem Undisturbed.same (hl : u.lst = s.lst := by rfl) (hp : u.pln = s.pln := by rfl)
    (hw : u.wsv = { s.wsv with causes := u.wsv.causes } := by rfl) (hd : u.clk.dues = s.clk.dues := by rfl)
    (hc : u.clk.cstate = s.clk.cstate := by rfl) (ha : u.lnk.actionSet = s.lnk.actionSet := by rfl)
    (hn : u.lnk.notices = s.lnk.notices := by rfl) (ht : u.lnk.attn = s.lnk.attn := by rfl) : Undisturbed s u where
  lst := hl
  pln := hp
  host := by rw [hw]
  floor := by rw [hw]
  lead := by rw [hw]
  wake := by rw [heldDue, heldDue, hd]
  unset h := hc.trans h
  actionSet := ha
  notices := hn
  attn := ht

theorem Undisturbed.trans (h : Undisturbed s t) (k : Undisturbed t u) : Undisturbed s u where
  lst := k.lst.trans h.lst
  pln := k.pln.trans h.pln
  host := k.host.trans h.host
  floor := k.floor.trans h.floor
  lead := k.lead.trans h.lead
  wake := k.wake.trans h.wake
  unset := k.unset ∘ h.unset
  actionSet := k.actionSet.trans h.actionSet
  notices := k.notices.trans h.notices
  attn := k.attn.trans h.attn

theorem Undisturbed.ite {p : Prop} [Decidable p] (ht : Undisturbed s t) (hu : Undisturbed s u) :
    Undisturbed s (if p then t else u) := by
  split
  · exact ht
  · exact hu

theorem Undisturbed.settled (h : Undisturbed s u) : Keeps Settled s u := by
  rintro ⟨earliest, action, placed, wake, attn, waits⟩
  have insts : u.lst.insts = s.lst.insts := congrArg (fun l => l.insts) h.lst
  have first : u.lst.earliest = s.lst.earliest := congrArg (fun l => l.earliest) h.lst
  refine ⟨?_, ?_, ?_, ?_, ?_, fun hi hd => ?_⟩
  · rw [first, earliestPlanned_congr insts, earliest]
  · rw [h.actionSet, actionIds_congr insts, action]
  · rw [h.lst, placed]
  · rw [h.wake, wakeTarget_of_fields first h.host h.floor h.lead, wake]
  · rw [h.attn, attnOf, h.notices, h.actionSet, attn, attnOf]
  · rw [h.pln] at hi hd
    exact h.unset (waits hi hd)

end Undisturbed

/-! ## Frames, reads and settings that settle nothing -/

theorem pushReply_undisturbed (r : Reply) (s : State) : Undisturbed s (pushReply r s) := .same

theorem startKeepalive_undisturbed (s : State) : Undisturbed s (startKeepalive s) := by
  unfold startKeepalive
  split
  · exact .same
  · exact .same

theorem onFrame_undisturbed {act : State → State} (h : ∀ u, Undisturbed u (act u)) (kind tag : Byte) (p : List Byte)
    (s : State) : Undisturbed s (onFrame kind tag p act s) := by
  have arrives : Undisturbed s (frameArrived kind tag p (frameCheck kind tag p) s) := .same
  have counted (u : State) : Undisturbed u (modLnk (fun l => { l with inHand := l.inHand + 1 }) u) := .same
  have taken (u : State) : Undisturbed u (frameInHand u) := (counted u).trans (startKeepalive_undisturbed _)
  exact .ite .same (.ite arrives ((arrives.trans (taken _)).trans (h _)))

theorem onMessage_undisturbed {α : Type} {act : α → State → State} (h : ∀ m u, Undisturbed u (act m u)) (pr : Parser α)
    (kind tag : Byte) (p : List Byte) (s : State) : Undisturbed s (onMessage kind tag pr p act s) := by
  refine onFrame_undisturbed (fun u => ?_) kind tag p s
  split
  · exact h _ u
  · exact pushReply_undisturbed _ u

section Reads

variable (tag : Byte) (s : State)

theorem guideGetKey_undisturbed (k : EventKey) : Undisturbed s (guideGetKey tag k s) := by
  unfold guideGetKey
  split
  all_goals exact pushReply_undisturbed _ s

theorem guideGet_undisturbed (p : List Byte) : Undisturbed s (guideGet tag p s) := by
  unfold guideGet
  split
  · exact pushReply_undisturbed _ s
  · split
    · exact guideGetKey_undisturbed tag s _
    · exact pushReply_undisturbed _ s

theorem bookGet_undisturbed (n : Nat) : Undisturbed s (bookGet tag n s) := by
  unfold bookGet
  split
  all_goals exact pushReply_undisturbed _ s

theorem bookList_undisturbed (n : Nat) : Undisturbed s (bookList tag n s) :=
  .ite (pushReply_undisturbed _ s) (pushReply_undisturbed _ s)

theorem historyGet_undisturbed (m : Nat × Option Ref) : Undisturbed s (historyGet tag m s) :=
  .ite (pushReply_undisturbed _ s) (pushReply_undisturbed _ s)

theorem instanceGet_undisturbed (n : Nat) : Undisturbed s (instanceGet tag n s) := by
  unfold instanceGet
  split
  all_goals exact pushReply_undisturbed _ s

/-- A query is answered, held or refused (R113). -/
theorem holdOr_undisturbed {ans : State → State} (h : Undisturbed s (ans s)) (kind : Byte) (q : Query) :
    Undisturbed s (holdOr kind tag q ans s) := by
  unfold holdOr
  split
  · exact h
  · exact .ite .same (pushReply_undisturbed _ s)

theorem planGet_undisturbed (m : Nat × Nat × Nat) : Undisturbed s (planGet tag m s) := by
  have answers : Undisturbed s (answerPlanGet tag m.1 m.2.1 m.2.2 s) :=
    .ite (pushReply_undisturbed _ s) (pushReply_undisturbed _ s)
  exact .ite (pushReply_undisturbed _ s) (.ite (pushReply_undisturbed _ s) (holdOr_undisturbed tag s answers _ _))

theorem clashGet_undisturbed (n : Nat) : Undisturbed s (clashGet tag n s) := by
  have answers : Undisturbed s (answerClashGet tag n s) := .ite (pushReply_undisturbed _ s) (pushReply_undisturbed _ s)
  exact .ite (pushReply_undisturbed _ s) (.ite (pushReply_undisturbed _ s) (holdOr_undisturbed tag s answers _ _))

theorem resetPart_undisturbed (n : Nat) : Undisturbed s (resetPart tag n s) := by
  unfold resetPart
  split
  · exact pushReply_undisturbed _ s
  · exact .same

theorem condRead_undisturbed (n : Nat) : Undisturbed s (condRead tag n s) := by
  unfold condRead
  split
  all_goals exact pushReply_undisturbed _ s

theorem condClear_undisturbed (m : Nat × Bool) : Undisturbed s (condClear tag m s) := by
  unfold condClear
  split
  · exact pushReply_undisturbed _ s
  · exact .ite (pushReply_undisturbed _ s) .same

theorem condConfig_undisturbed (m : CondConfigMsg) : Undisturbed s (condConfig tag m s) := by
  refine .ite (pushReply_undisturbed _ s) ?_
  split
  · exact pushReply_undisturbed _ s
  · exact .ite (pushReply_undisturbed _ s) .same

theorem configGet_undisturbed (ns : List Nat) : Undisturbed s (configGet tag ns s) :=
  .ite (pushReply_undisturbed _ s) (.ite (pushReply_undisturbed _ s) (pushReply_undisturbed _ s))

end Reads

/-! ## The crystal second (R1, R3, R9) -/

/-- What a wake due request and the pass of a clock that is not set depend on in the Clock Unit. -/
structure RequestsStand (c d : Clock) : Prop where
  dues : d.dues.map (fun r => (r.kind, r.time)) = c.dues.map (fun r => (r.kind, r.time))
  unset : c.cstate = .unset → d.cstate = .unset

/-- The time of a request that is held can be read off the kinds and the times. -/
theorem heldDue_time_eq (k : DueKind) (s : State) : (heldDue k s).map (fun d => d.time) =
    ((s.clk.dues.map (fun r => (r.kind, r.time))).find? (fun x => x.1 == k)).map (fun x => x.2) := by
  rw [heldDue, List.find?_map, Option.map_map]
  rfl

theorem RequestsStand.undisturbed {s : State} {f : Clock → Clock} (h : RequestsStand s.clk (f s.clk)) :
    Undisturbed s (modClk f s) where
  lst := rfl
  pln := rfl
  host := rfl
  floor := rfl
  lead := rfl
  wake := by rw [heldDue_time_eq, heldDue_time_eq, modClk_clk, h.dues]
  unset := h.unset
  actionSet := rfl
  notices := rfl
  attn := rfl

/-- The delivery of requests changes neither their kinds nor their times (R3). -/
theorem advance_requests (n : Nat) (c : Clock) : RequestsStand c (advance n c) := by
  refine ⟨?_, id⟩
  rw [advance, moveCount_dues, List.map_map]
  rfl

/-- A crystal second delivers requests, and leaves an UNSET clock UNSET (R1, R3, R9). -/
theorem crystalSecond_requests (c : Clock) : RequestsStand c (crystalSecond c) := by
  have moved (n : Nat) (d : Clock) (h : d.dues = c.dues) :
      (advance n d).dues.map (fun r => (r.kind, r.time)) = c.dues.map (fun r => (r.kind, r.time)) := by
    rw [(advance_requests n d).dues, h]
  obtain ⟨h, e⟩ | ⟨h, e⟩ | ⟨h, -, e⟩ | ⟨h, -, -, e⟩ | ⟨h, -, -, e⟩ := crystalSecond_cases c
  all_goals rw [e]
  case inl => exact ⟨rfl, id⟩
  all_goals refine ⟨?_, fun unset => nomatch h.symm.trans unset⟩
  · exact moved 1 (secondEnd c) rfl
  · exact moved 1 _ rfl
  · exact moved 2 (secondEnd c) rfl
  · rfl

/-! ## The events of the line (R196 to R201) -/

section Line

variable {s t : State} {kind tag : Byte} {p : List Byte}

theorem execBadCheck_undisturbed {check : BitVec 16} (h : execBadCheck kind tag p check s = .next t) :
    Undisturbed s t := by
  unfold execBadCheck answerBadCheck at h
  dsimp only at h
  repeat' split at h
  all_goals
    cases h
    exact .same

theorem execBadKind_undisturbed (h : execBadKind kind tag p s = .next t) : Undisturbed s t := by
  unfold execBadKind at h
  split at h
  · cases h
    exact .same
  · cases h
    exact onFrame_undisturbed (fun u => pushReply_undisturbed _ u) _ _ _ _

theorem execFrameDiscardedInHand_undisturbed (h : execFrameDiscardedInHand kind tag p s = .next t) :
    Undisturbed s t := by
  unfold execFrameDiscardedInHand at h
  split at h
  all_goals
    cases h
    exact .same

theorem execLineFramingError_undisturbed {bs : List Byte} (h : execLineFramingError bs s = .next t) :
    Undisturbed s t := by
  unfold execLineFramingError at h
  split at h
  all_goals
    cases h
    exact .same

/-- The end of a delay leaves the count, the requests and every other block alone (R4). -/
theorem takeDelay_undisturbed {k : DelayKind} (h : takeDelay k s = some t) : Undisturbed s t := by
  rw [(takeDelay_keeps h).1]
  exact .same

theorem interByteEnd_undisturbed (s : State) : Undisturbed s (interByteEnd s) := by
  have timed : Undisturbed s (startDelay .interByte Config.interByteUnits s) := .same
  unfold interByteEnd
  dsimp only
  cases h : takeDelay .interByte (startDelay .interByte Config.interByteUnits s) with
  | none => exact .same
  | some u => exact timed.trans (takeDelay_undisturbed h)

theorem execInterByteTimeout_undisturbed {bs : List Byte} (h : execInterByteTimeout bs s = .next t) :
    Undisturbed s t := by
  unfold execInterByteTimeout at h
  split at h
  · cases h
    exact .same
  · rename_i rx _
    split at h
    · cases h
      exact .same
    · cases h
      have hunts : Undisturbed s (modLnk (fun l => { l with rx := toHunt rx }) s) := .same
      exact hunts.trans (interByteEnd_undisturbed _)

theorem execReplySent_undisturbed (h : execReplySent s = .next t) : Undisturbed s t := by
  unfold execReplySent at h
  split at h
  all_goals
    cases h
    exact .same

theorem execFrameLengthExceeds512_undisturbed {high low : Byte} (h : execFrameLengthExceeds512 high low s = .next t) :
    Undisturbed s t := by
  unfold execFrameLengthExceeds512 at h
  split at h
  all_goals
    cases h
    exact .same

end Line

/-! ## The resets (R16, R92, R116, R194, R209) -/

/-- After a reset nothing is planned, requested or waiting, and the host is AWAKE or WAKING: only the dirty flag of a WARM
reset can be left to settle (R92, R116, R194, R209). -/
theorem settled_fresh {s : State} (hl : s.lst = freshList) (hd : s.clk.dues = []) (hs : s.wsv.host ≠ .standby)
    (hq : s.wsv.host ≠ .silent) (ha : s.lnk.actionSet = []) (hn : s.lnk.notices = []) (ht : s.lnk.attn = false)
    (hp : s.pln.passState = .idle → s.pln.dirty = true → s.clk.cstate = .unset) : Settled s := by
  have empty : s.lst.insts = [] := by rw [hl]; rfl
  refine ⟨?_, ?_, ?_, ?_, ?_, hp⟩
  · rw [earliestPlanned, plannedInsts, empty, hl]
    rfl
  · rw [actionIds, idsWhere, empty, ha]
    rfl
  · rw [hl]
    rfl
  · rw [heldDue, hd, wakeTarget]
    cases h : s.wsv.host with
    | awake | waking => rfl
    | standby => exact absurd h hs
    | silent => exact absurd h hq
  · rw [attnOf, ht, ha, hn]
    rfl

theorem execWarmReset_settled {s t : State} (h : execWarmReset s = .next t) : Keeps Settled s t := by
  unfold execWarmReset at h
  split at h
  · cases h
    refine fun _ => settled_fresh ?_ ?_ ?_ ?_ ?_ ?_ ?_ beginPass_waits
    all_goals simp [warmReset, startKeepalive_awake, keepClock, resetWake, resetLink, freshLink]
  · cases h
    exact .refl s

theorem execColdReset_settled {s t : State} (h : execColdReset s = .next t) : Keeps Settled s t := by
  unfold execColdReset at h
  split at h
  · cases h
    refine fun _ => (startKeepalive_undisturbed _).settled (settled_fresh rfl rfl nofun nofun rfl rfl rfl nofun)
  · cases h
    exact .refl s

/-! ## Every command -/

/-- An event that settles at its end. -/
theorem settled_of_settles {before u t : State}
    (h : (.next (settleOutputs before u) : Host.Outcome State Fault Refusal) = .next t) : Settled t := by
  cases h
  exact settleOutputs_settled before u

/-- A command that disturbs nothing. -/
theorem Undisturbed.answers {s u t : State} (k : Undisturbed s u)
    (h : (.next u : Host.Outcome State Fault Refusal) = .next t) : Keeps Settled s t := by
  cases h
  exact k.settled

theorem onDue_settled (k : DueKind) (act : State → State) (s : State) : Keeps Settled s (onDue k act s) := by
  unfold onDue
  split
  · exact .refl s
  · exact fun _ => settleOutputs_settled s _

theorem onDelay_settled (k : DelayKind) (act : State → State) (s : State) : Keeps Settled s (onDelay k act s) := by
  unfold onDelay
  split
  · exact .refl s
  · exact fun _ => settleOutputs_settled s _

theorem settled_of_due {k : DueKind} {act : State → State} {s t : State}
    (h : (.next (onDue k act s) : Host.Outcome State Fault Refusal) = .next t) : Keeps Settled s t := by
  cases h
  exact onDue_settled k act s

theorem settled_of_delay {k : DelayKind} {act : State → State} {s t : State}
    (h : (.next (onDelay k act s) : Host.Outcome State Fault Refusal) = .next t) : Keeps Settled s t := by
  cases h
  exact onDelay_settled k act s

theorem settled_of_read {α : Type} {act : α → State → State} (k : ∀ m u, Undisturbed u (act m u)) {pr : Parser α}
    {kind tag : Byte} {p : List Byte} {s t : State}
    (h : (.next (onMessage kind tag pr p act s) : Host.Outcome State Fault Refusal) = .next t) : Keeps Settled s t :=
  (onMessage_undisturbed k pr kind tag p s).answers h

theorem execDayRollover_settled {s t : State} (h : execDayRollover s = .next t) : Keeps Settled s t := by
  unfold execDayRollover at h
  split at h
  · cases h
    exact .refl s
  · exact fun _ => settled_of_settles h

theorem execOffsetChange_settled {s t : State} (h : execOffsetChange s = .next t) : Keeps Settled s t := by
  unfold execOffsetChange at h
  split at h
  · exact fun _ => settled_of_settles h
  · cases h
    exact .refl s

theorem execInstall_settled {s t : State} (h : execInstall s = .next t) : Keeps Settled s t := by
  unfold execInstall at h
  split at h
  · exact fun _ => settled_of_settles h
  · cases h
    exact .refl s

/-- One command keeps the part settled: a reset leaves nothing to settle, an event of the part's own clock is not taken or
settles, a message that may change what is summed up settles, and reads, settings of the log and the events of the line
disturb nothing. -/
theorem exec_settled (c : Instr) {s t : State} (h : exec c s = .next t) : Keeps Settled s t := by
  cases c with
  | powerOn =>
    cases h
    exact fun _ => settled_fresh rfl rfl nofun nofun rfl rfl rfl nofun
  | warmReset => exact execWarmReset_settled h
  | coldReset => exact execColdReset_settled h
  | crystalSecond => exact (crystalSecond_requests s.clk).undisturbed.answers h
  | dayRollover => exact execDayRollover_settled h
  | offsetChange => exact execOffsetChange_settled h
  | install => exact execInstall_settled h
  | timeSet | guidePut | guideDropKeys | guideDropService | eventStatus | bookEvent | bookSeries | bookManual | bookChange
  | bookSuspend | bookResume | bookDelete | historyAdd | historyDropPair | historyDropSeries | outcomeTake
  | recReportStarted | recReportStartFailed | recReportStopped | viewClaimNew | viewClaimChange | viewRelease | hello
  | standby | noticeFetch | configSet => exact fun _ => settled_of_settles h
  | windowStart | coreEnd | heldStartLimit | stopMoment | overrunCap | yieldWarning | lockGraceEnd | lockAbandon
  | windowClose | wakeDue => exact settled_of_due h
  | startConfirmTimeout | stopConfirmTimeout | lockMonitorTick | keepaliveExpiry | wakeTimeout | resetPulseEnd =>
    exact settled_of_delay h
  | timeGet tag p => exact settled_of_read (fun _ u => pushReply_undisturbed _ u) h
  | guideGetEvent tag p => exact (onFrame_undisturbed (fun u => guideGet_undisturbed tag u p) _ _ _ s).answers h
  | guideGetSummary tag p => exact (onFrame_undisturbed (fun u => guideGet_undisturbed tag u p) _ _ _ s).answers h
  | bookGet tag p => exact settled_of_read (fun n u => bookGet_undisturbed tag u n) h
  | bookList tag p => exact settled_of_read (fun n u => bookList_undisturbed tag u n) h
  | historyGet tag p => exact settled_of_read (fun m u => historyGet_undisturbed tag u m) h
  | instanceGet tag p => exact settled_of_read (fun n u => instanceGet_undisturbed tag u n) h
  | planGet tag p => exact settled_of_read (fun m u => planGet_undisturbed tag u m) h
  | clashGet tag p => exact settled_of_read (fun n u => clashGet_undisturbed tag u n) h
  | causeClear tag p => exact settled_of_read (fun _ _ => .same) h
  | resetPart tag p => exact settled_of_read (fun n u => resetPart_undisturbed tag u n) h
  | condRead tag p => exact settled_of_read (fun n u => condRead_undisturbed tag u n) h
  | condClear tag p => exact settled_of_read (fun m u => condClear_undisturbed tag u m) h
  | condConfig tag p => exact settled_of_read (fun m u => condConfig_undisturbed tag u m) h
  | actionsGet tag p => exact settled_of_read (fun _ u => pushReply_undisturbed _ u) h
  | configGet tag p => exact (onFrame_undisturbed (fun u => configGet_undisturbed tag u _) _ _ _ s).answers h
  | badCheck kind tag p check => exact (execBadCheck_undisturbed h).settled
  | badKind kind tag p => exact (execBadKind_undisturbed h).settled
  | frameDiscardedInHand kind tag p => exact (execFrameDiscardedInHand_undisturbed h).settled
  | lineFramingError bs => exact (execLineFramingError_undisturbed h).settled
  | interByteTimeout bs => exact (execInterByteTimeout_undisturbed h).settled
  | replySent => exact (execReplySent_undisturbed h).settled
  | frameLengthExceeds512 high low => exact (execFrameLengthExceeds512_undisturbed h).settled

/-- Settles O51: a step takes a command off the queue, of which nothing that is settled is made, and the command keeps the
part settled. -/
theorem stepsKeepSettled : Obligations.StepsKeepSettled := by
  intro s t hs h
  unfold step at h
  split at h
  · cases h
    exact hs
  · rename_i c rest _
    exact exec_settled c (s := { s with pending := rest }) h hs

end Sys2Proof.Machine

/-! PROOFS. The queries that report what is held (R89 to R91, R113, R137, R175, R205, R207): the plan is reported with the
again flag, refused or not. -/

namespace Sys2Proof.Machine

-- one theorem after another: many at a time would want a thread each
set_option Elab.async false

open Sys2Proof

/-! ## The replies that report the again flag (R200) -/

section Again

variable {kind tag : Byte} {p : List Byte} {s : State}

/-- A refused query of the plan is answered with the again flag as it stands (R200; log entry 44). -/
theorem refuse_again (h : reportsAgain kind = true) (st : Status) :
    refuse kind tag st (withFrame kind tag p s) =
      answered kind tag p { refusalTo kind tag st with againPending := s.pln.again } s := by
  simp only [refuse, h, Bool.true_and]
  rfl

theorem answerPlan_again (body : ReplyBody) : answerPlan kind tag body (withFrame kind tag p s) =
    answered kind tag p { okTo kind tag body with againPending := s.pln.again } s := rfl

end Again

/-! ## INSTANCE_GET, ACTIONS_GET, COND_READ and CONFIG_GET (R89, R175, R205, R207) -/

theorem banksOf_bankNum (k : BankId) : banksOf (bankNum k) = some [k] := by cases k <;> rfl

/-- A bank number other than those of the five banks and ALL names none (R208). -/
theorem banksOf_unknown {n : Nat} (h : 5 ≤ n) (hn : n ≠ 255) : banksOf n = none := by
  unfold banksOf
  split
  all_goals first | rfl | omega

/-- A bank is reported as R175 says, a tuner's with its gap counter. -/
theorem viewBank_eq (s : State) (k : BankId) : viewBank s.cnd k = bankView s k := by cases k <;> rfl

theorem condRead_banks {n : Nat} {bs : List BankId} (h : banksOf n = some bs) (tag : Byte) (s : State) :
    condRead tag n s = answerOk 0x40 tag (.condRead (bs.map (bankView s))) s := by
  rw [condRead, h, ← funext (viewBank_eq s)]

theorem keepCodeNum_eq (c : Option Nat) : keepCodeNum c = c.getD 255 := by cases c <;> rfl

/-- Settles O10: each read answers from the state in which its frame has been taken. -/
theorem instanceActionLogAndSettingReads : Obligations.InstanceActionLogAndSettingReads := by
  refine ⟨fun s tag p n hT hp => ⟨fun i hi => ?_, fun hi => ?_⟩, fun s tag hT => ?_,
    fun s tag b hT => ⟨fun hb => ?_, fun k hk => ?_, fun h5 hb => ?_⟩, fun s tag hT => ?_⟩
  · refine (message_taken (instanceGet tag) hT hp).trans (congrArg _ ?_)
    have held : findInst n (withFrame 0x30 tag p s) = some i := hi
    rw [instanceGet, held]
    exact answerPlan_again _
  · refine (message_taken (instanceGet tag) hT hp).trans (congrArg _ ?_)
    have absent : findInst n (withFrame 0x30 tag p s) = none := hi
    rw [instanceGet, absent]
    exact refuse_again rfl .notFound
  · exact (message_taken (fun _ u => actionsGet tag u) hT rfl).trans rfl
  · subst hb
    refine (message_taken (condRead tag) hT rfl).trans (congrArg _ ?_)
    exact (condRead_banks (bs := allBanks) rfl tag _).trans rfl
  · refine (message_taken (condRead tag) hT rfl).trans (congrArg _ ?_)
    exact (condRead_banks (hk ▸ banksOf_bankNum k) tag _).trans rfl
  · refine (message_taken (condRead tag) hT rfl).trans (congrArg _ ?_)
    have unknown : banksOf b.toNat = none := banksOf_unknown h5 (fun h => hb (BitVec.eq_of_toNat_eq h))
    rw [condRead, unknown]
    exact refuse_withFrame rfl .badField
  · show Host.Outcome.next (onFrame 0x0B tag [] (configGet tag []) s) = _
    rw [onFrame_takes _ _ _ _ _ hT, ← keepCodeNum_eq]
    rfl

/-! ## PLAN_GET and CLASH_GET (R90, R91, R113, R137) -/

section Queries

variable {s : State} {kind tag : Byte} {p : List Byte}

/-- The state of the clock when the frame has been taken is that before (R199). -/
theorem clockSet_withFrame_false (h : s.clk.cstate = .unset) : clockSet (withFrame kind tag p s) = false :=
  congrArg (fun c => c != ClockState.unset) h

theorem clockSet_withFrame_true (h : s.clk.cstate ≠ .unset) : clockSet (withFrame kind tag p s) = true :=
  bne_iff_ne.mpr h

/-- While the Planner is IDLE a query is answered at once (R113). -/
theorem holdOr_idle {q : Query} {ans : State → State} (h : s.pln.passState = .idle) :
    holdOr kind tag q ans (withFrame kind tag p s) = ans (withFrame kind tag p s) := by
  have idle : (withFrame kind tag p s).pln.passState = .idle := h
  rw [holdOr, idle]

/-- During a pass a query is held while fewer than four are (R113). -/
theorem holdOr_held {q : Query} {ans : State → State} (h : s.pln.passState = .pass) (room : s.lnk.held.length < 4) :
    holdOr kind tag q ans (withFrame kind tag p s) = withHeld { tag := tag, query := q } (withFrame kind tag p s) := by
  have pass : (withFrame kind tag p s).pln.passState = .pass := h
  rw [holdOr, pass]
  exact if_pos room

/-- A fifth query during a pass finds no room (R113). -/
theorem holdOr_busy {q : Query} {ans : State → State} (h : s.pln.passState = .pass) (full : 4 ≤ s.lnk.held.length) :
    holdOr kind tag q ans (withFrame kind tag p s) = refuse kind tag .busy (withFrame kind tag p s) := by
  have pass : (withFrame kind tag p s).pln.passState = .pass := h
  rw [holdOr, pass]
  exact if_neg (Nat.not_lt.mpr full)

theorem execPlanGet_unset {m : Nat × Nat × Nat} (hT : Takes p s) (hp : parseAll pPlanGet p = .ok m)
    (h : s.clk.cstate = .unset) : exec (.planGet tag p) s = .next (answered 0x31 tag p
      { refusalTo 0x31 tag .clockUnset with againPending := s.pln.again } s) := by
  refine (message_taken (planGet tag) hT hp).trans (congrArg _ ?_)
  rw [planGet, clockSet_withFrame_false h]
  exact refuse_again rfl .clockUnset

theorem execPlanGet_empty {a b n : Nat} (hT : Takes p s) (hp : parseAll pPlanGet p = .ok (a, b, n))
    (h : s.clk.cstate ≠ .unset) (hab : b ≤ a) : exec (.planGet tag p) s = .next (answered 0x31 tag p
      { refusalTo 0x31 tag .badField with againPending := s.pln.again } s) := by
  refine (message_taken (planGet tag) hT hp).trans (congrArg _ ?_)
  rw [planGet, clockSet_withFrame_true h]
  exact (if_pos hab).trans (refuse_again rfl .badField)

/-- A PLAN_GET that passes its checks is answered, held or refused by the state of the Planner (R90, R113). -/
theorem execPlanGet_checked {a b n : Nat} (hT : Takes p s) (hp : parseAll pPlanGet p = .ok (a, b, n))
    (h : s.clk.cstate ≠ .unset) (hab : a < b) : exec (.planGet tag p) s =
      .next (holdOr 0x31 tag (.plan a b n) (answerPlanGet tag a b n) (withFrame 0x31 tag p s)) := by
  refine (message_taken (planGet tag) hT hp).trans (congrArg _ ?_)
  rw [planGet, clockSet_withFrame_true h]
  exact if_neg (Nat.not_le.mpr hab)

theorem execClashGet_unset {n : Nat} (hT : Takes p s) (hp : parseAll pU8 p = .ok n) (h : s.clk.cstate = .unset) :
    exec (.clashGet tag p) s = .next (answered 0x33 tag p
      { refusalTo 0x33 tag .clockUnset with againPending := s.pln.again } s) := by
  refine (message_taken (clashGet tag) hT hp).trans (congrArg _ ?_)
  rw [clashGet, clockSet_withFrame_false h]
  exact refuse_again rfl .clockUnset

theorem execClashGet_beyond {n : Nat} (hT : Takes p s) (hp : parseAll pU8 p = .ok n) (h : s.clk.cstate ≠ .unset)
    (hn : s.pln.clashes.length < n) : exec (.clashGet tag p) s = .next (answered 0x33 tag p
      { refusalTo 0x33 tag .badField with againPending := s.pln.again } s) := by
  refine (message_taken (clashGet tag) hT hp).trans (congrArg _ ?_)
  rw [clashGet, clockSet_withFrame_true h]
  exact (if_pos hn).trans (refuse_again rfl .badField)

/-- A CLASH_GET that passes its checks is answered, held or refused by the state of the Planner (R113, R137). -/
theorem execClashGet_checked {n : Nat} (hT : Takes p s) (hp : parseAll pU8 p = .ok n) (h : s.clk.cstate ≠ .unset)
    (hn : n ≤ s.pln.clashes.length) : exec (.clashGet tag p) s =
      .next (holdOr 0x33 tag (.clash n) (answerClashGet tag n) (withFrame 0x33 tag p s)) := by
  refine (message_taken (clashGet tag) hT hp).trans (congrArg _ ?_)
  rw [clashGet, clockSet_withFrame_true h]
  exact if_neg (Nat.not_lt.mpr hn)

end Queries

/-- Settles O11: the checks in their order, then the answer by the state of the Planner. -/
theorem planQueriesAnsweredHeldOrBusy : Obligations.PlanQueriesAnsweredHeldOrBusy := by
  refine ⟨fun s tag p a b n hT hp => ⟨execPlanGet_unset hT hp, execPlanGet_empty hT hp, fun set hab idle hn => ?_,
      fun set hab idle hn => ?_, fun set hab pass room => ?_, fun set hab pass full => ?_⟩,
    fun s tag p n hT hp => ⟨execClashGet_unset hT hp, execClashGet_beyond hT hp, fun set hn idle => ?_,
      fun set hn pass room => ?_, fun set hn pass full => ?_⟩⟩
  · rw [execPlanGet_checked hT hp set hab, holdOr_idle idle]
    exact congrArg _ ((if_neg (Nat.not_lt.mpr hn)).trans (answerPlan_again _))
  · rw [execPlanGet_checked hT hp set hab, holdOr_idle idle]
    exact congrArg _ ((if_pos hn).trans (refuse_again rfl .badField))
  · rw [execPlanGet_checked hT hp set hab, holdOr_held pass room]
  · rw [execPlanGet_checked hT hp set hab, holdOr_busy pass full, refuse_again rfl]
  · rw [execClashGet_checked hT hp set hn, holdOr_idle idle]
    exact congrArg _ ((if_neg (Nat.not_lt.mpr hn)).trans (answerPlan_again _))
  · rw [execClashGet_checked hT hp set hn, holdOr_held pass room]
  · rw [execClashGet_checked hT hp set hn, holdOr_busy pass full, refuse_again rfl]

end Sys2Proof.Machine

/-! PROOFS. OUTCOME_TAKE (R47, R88): a terminal recording that leaves the list takes nothing of the summaries with it, so
the end of its event settles nothing. -/

namespace Sys2Proof.Machine

-- one theorem after another: many at a time would want a thread each
set_option Elab.async false

open Sys2Proof

/-! ## The end of an event that moves nothing the summaries are made from (R82) -/

/-- The list has changed in nothing that the end of an event looks at: the summaries and the number of running recordings
come out the same, and no terminal recording is new. -/
structure SummariesStand (s u : State) : Prop where
  planned : plannedInsts u = plannedInsts s
  action : actionIds u = actionIds s
  running : runningCount u = runningCount s
  placed : newTerminals u.lst = []
  earliest : u.lst.earliest = s.lst.earliest

/-- Where the list has so changed, and tuners, host, requests and Planner stand, the end of the event settles nothing. -/
theorem settle_summariesStand {s u : State} (hS : Settled s) (h : SummariesStand s u) (hr : u.run = s.run)
    (hw : u.wsv = s.wsv) (hd : u.clk.dues = s.clk.dues) (hc : u.clk.cstate = s.clk.cstate) (hp : u.pln = s.pln)
    (hn : u.lnk.notices = s.lnk.notices) (ha : u.lnk.actionSet = s.lnk.actionSet) (ht : u.lnk.attn = s.lnk.attn) :
    settle s u = u := by
  have base := hS
  obtain ⟨earliest, action, -, wake, attn, -⟩ := hS
  have first : earliestPlanned u = u.lst.earliest := by
    rw [h.earliest, earliest, earliestPlanned, earliestPlanned, h.planned]
  have asked : actionIds u = u.lnk.actionSet := by rw [h.action, ha, action]
  have places : placeTerminals u = u := by
    simp only [placeTerminals, modLst, h.placed, List.append_nil]
  have hands : handSummaries u = u := by
    unfold handSummaries modLnk modLst
    rw [first, asked]
  have wakes : syncWake u = u := by
    refine syncWake_settled u ?_
    rw [heldDue, hd, wakeTarget_of_fields h.earliest (by rw [hw]) (by rw [hw]) (by rw [hw])]
    exact wake
  have unchanged : (runningCount s != runningCount u || s.lst.earliest != u.lst.earliest) = false := by
    rw [h.running, h.earliest, bne_self_eq_false, bne_self_eq_false]
    rfl
  have high : setAttention u = u := by
    have level : (!u.lnk.notices.isEmpty || !u.lnk.actionSet.isEmpty) = u.lnk.attn := by
      rw [hn, ha, ht, attn, attnOf]
    simp only [setAttention, modLnk, level]
  have quiet : retestStandby false u = u := if_neg (fun h => Bool.false_ne_true h.1)
  rw [settle, retryStarts_same_run s u hr, settleOutputs, places, hands, wakes, unchanged, quiet, high]
  exact beginPass_settled s u base hp hc

/-! ## A terminal recording leaves the list (R47, R88) -/

/-- The recordings without the one of an id. -/
def instsWithout (n : Nat) (s : State) : List Inst := s.lst.insts.filter (fun j => j.id != n)

/-- The bookings once a recording of one of them has left the list: that booking stays unless it is SPENT and no recording
carries it any longer (R47). -/
def bookingsAfter (n bid : Nat) (s : State) : List Booking :=
  if (instsWithout n s).any (fun j => j.booking == bid) then s.bkt.bookings
  else s.bkt.bookings.filter (fun b => !(b.id == bid && b.bstate == .spent))

/-- The state once a recording has left the list and the terminal order. -/
def withoutInst (i : Inst) (s : State) : State :=
  { s with
    lst := { s.lst with insts := instsWithout i.id s, terminalOrder := s.lst.terminalOrder.filter (fun k => k != i.id) }
    bkt := { s.bkt with bookings := bookingsAfter i.id i.booking s } }

theorem leaveList_eq (i : Inst) (s : State) : leaveList i s = withoutInst i s := by
  unfold leaveList removeSpent withoutInst bookingsAfter instsWithout
  simp only [modLst_lst]
  split
  · rename_i h
    exact (if_pos h).trans rfl
  · rename_i h
    exact (if_neg h).trans rfl

section Leaves

variable {s : State} {i : Inst} {n : Nat}

/-- A test that no terminal state passes selects the recordings it selected before the terminal one left. -/
theorem filter_instsWithout {f : InstState → Bool} (hf : ∀ st, isTerminal st = true → f st = false) (hD : DistinctIds s)
    (hi : findInst n s = some i) (ht : isTerminal i.state = true) :
    (instsWithout n s).filter (fun j => f j.state) = s.lst.insts.filter (fun j => f j.state) := by
  rw [instsWithout, List.filter_filter]
  refine List.filter_congr (fun j hj => ?_)
  by_cases same : j.id = n
  · rw [mem_eq_of_findInst hD hi hj same, hf _ ht, Bool.false_and]
  · rw [bne_iff_ne.mpr same, Bool.and_true]

/-- A terminal recording counts in no summary, and the others keep their places in the terminal order (R82, R83, R88). -/
theorem withoutInst_summaries (hS : Settled s) (hD : DistinctIds s) (hi : findInst i.id s = some i)
    (ht : isTerminal i.state = true) : SummariesStand s (withoutInst i s) := by
  obtain ⟨-, -, placed, -⟩ := hS
  have planned := filter_instsWithout (f := fun st => st == .planned) (fun st => by cases st <;> decide) hD hi ht
  have action := filter_instsWithout (f := fun st => st == .starting || st == .stopping)
    (fun st => by cases st <;> decide) hD hi ht
  have running := filter_instsWithout (f := isRunning) (fun st => by cases st <;> decide) hD hi ht
  refine ⟨planned, congrArg (fun is : List Inst => sortBy natLt (is.map Inst.id)) action,
    congrArg List.length running, newTerminals_eq_nil_iff.mpr (fun j hj hjt => ?_), rfl⟩
  obtain ⟨held, other⟩ := List.mem_filter.mp hj
  exact List.mem_filter.mpr ⟨newTerminals_eq_nil_iff.mp placed j held hjt, other⟩

end Leaves

/-- Settles O20: the refusals change nothing; the recording that is taken leaves, which the summaries do not notice. -/
theorem outcomeTakeFreesThePlace : Obligations.OutcomeTakeFreesThePlace := by
  intro s tag p n hS hT hp
  refine ⟨fun absent => ?_, fun i hi => ⟨fun live => ?_, fun ended hD => ?_⟩⟩
  all_goals refine (settledMessage_taken (outcomeTake tag) hT hp).trans (congrArg _ ?_)
  · have absent' : findInst n (withFrame 0x32 tag p s) = none := absent
    rw [outcomeTake, absent']
    exact settle_refused hS rfl .notFound
  · have held : findInst n (withFrame 0x32 tag p s) = some i := hi
    rw [outcomeTake, held]
    dsimp only
    rw [if_neg (by rw [live]; exact Bool.false_ne_true)]
    exact settle_refused hS rfl .notAllowed
  · obtain rfl := findInst_id hi
    have held : findInst i.id (withFrame 0x32 tag p s) = some i := hi
    rw [outcomeTake, held]
    dsimp only
    rw [if_pos ended, leaveList_eq]
    obtain ⟨planned, action, running, placed, earliest⟩ := withoutInst_summaries hS hD hi ended
    exact settle_summariesStand hS ⟨planned, action, running, placed, earliest⟩ rfl rfl rfl rfl rfl rfl rfl rfl

end Sys2Proof.Machine

/-! PROOFS. A recording becomes MISSED (R83, R95, R141): at its core end with its start not held, or at its held-start
limit. -/

namespace Sys2Proof.Machine

-- one theorem after another: many at a time would want a thread each
set_option Elab.async false

open Sys2Proof

/-! ## What the end of a recording leaves to the outputs (R83, R156) -/

section Ends

variable {k : Nat} {i : Inst} {fin : InstState} {c : Cause} {r : Option Nat} {rs : List Reply} {s x : State}

/-- Beside what it leaves undone for its tuner, a terminal entry that is not DONE only hands off (R83, R85, R95). -/
theorem terminate_handsOff (hi : findInst k s = some i) (h : NoGapOn i s) (hf : fin ≠ .done) :
    HandsOff (leftTuner i (finished fin c r s.clk.count) s) (terminate k fin c r s) := by
  rw [terminate_eq hi h, if_neg hf]
  exact outcomePosted_handsOff.trans (setDirtyIf_handsOff _ _)

/-- With a recording that ends goes the yield warning of each claim marked to yield to it (R83). -/
theorem terminate_warning (hi : findInst i.id s = some i) (h : NoGapOn i s) (hf : fin ≠ .done) {d : Claim}
    (hd : d ∈ s.run.claims) (hy : d.yieldTo = some i.id) :
    heldDue (.yieldWarning d.id) (terminate i.id fin c r s) = none := by
  rw [heldDue_of_clk (terminate_handsOff hi h hf).clk]
  exact heldDue_none_of_sublist (leftTuner_rest h).dues (withdrawInst_warning hd hy)

/-- In a settled part the one new terminal recording is the one that has ended (R83). -/
theorem EndedSince.newTerminals_eq (e : EndedSince i fin c r rs s x) (ht : isTerminal fin = true) (hS : Settled s)
    (hD : DistinctIds s) (hi : findInst i.id s = some i) (ho : x.lst.terminalOrder = s.lst.terminalOrder)
    (hn : i.id ∉ s.lst.terminalOrder) : newTerminals x.lst = [i.id] := by
  obtain ⟨-, -, placed, -⟩ := hS
  have ids : x.lst.insts.map (fun j => j.id) = s.lst.insts.map (fun j => j.id) := by
    rw [e.insts, ← modInst_ids i.id (finished fin c r s.clk.count) (fun _ => rfl) s, modInst_lst_eq]
  have distinct : (newTerminals x.lst).Nodup := by
    refine (sortBy_perm natLt _).nodup_iff.mpr (List.Nodup.filter _ ?_)
    have kept : (x.lst.insts.map (fun j => j.id)).Nodup := ids ▸ hD
    exact kept.sublist (List.filter_sublist.map _)
  refine List.perm_singleton.mp ((List.perm_ext_iff_of_nodup distinct (List.nodup_singleton _)).mpr (fun m => ?_))
  rw [mem_newTerminals, List.mem_singleton, ho]
  constructor
  · rintro ⟨⟨j, hj, hjt, rfl⟩, new⟩
    obtain ⟨y, -, same, rfl⟩ | ⟨held, -⟩ := e.mem hj
    · exact same
    · exact absurd (newTerminals_eq_nil_iff.mp placed j held hjt) new
  · rintro rfl
    refine ⟨⟨finished fin c r s.clk.count i, ?_, ht, rfl⟩, hn⟩
    rw [e.insts]
    exact List.mem_map.mpr ⟨i, mem_of_findInst hi, if_pos rfl⟩

end Ends

/-! ## A recording becomes MISSED (R141) -/

/-- A notice that waits goes on waiting when a condition is submitted (R167, R202). -/
theorem submit_notice {n : Notice} {u : State} (c : Condition) (h : n ∈ u.lnk.notices) :
    n ∈ (submit c u).lnk.notices := by
  obtain ⟨-, e⟩ | ⟨-, -, off, on⟩ := submit_cases c u
  · rw [e]
    exact h
  · cases enabled : hasClass (bankAt c.bank u.cnd).enable c.cls with
    | false =>
      rw [off enabled]
      exact h
    | true =>
      rw [on enabled]
      exact postNotice_mem _ h

/-- The bank of a MISSED condition: that of the tuner of a PLANNED recording, PLAN for any other (R141). -/
def missBank (i : Inst) : BankId := if i.state = .planned then bankOf i else .plan

section Misses

variable {i : Inst} {c : Cause} {s v : State}

theorem missInst_eq (hi : findInst i.id s = some i) :
    missInst c i.id s = submit (condFor (missBank i) .hard .missed i) (terminate i.id .missed c none s) := by
  rw [missInst, hi]
  rfl

/-- An event that makes a recording MISSED, from its request to its end (R83, R85, R95, R141). -/
theorem settle_missed (hS : Settled s) (hD : DistinctIds s) (hN : NotActive i.id s) (hi : findInst i.id s = some i)
    (hg : NoGapOn i s) (k : DueKind) :
    BecameMissed i.id i c (missBank i) s (settle s (missInst c i.id (withdrawDue k s))) := by
  have b := withdrawDue_begun k s
  have found : findInst i.id (withdrawDue k s) = some i := hi
  have gap : NoGapOn i (withdrawDue k s) := hg
  have ended := terminate_ended (fin := .missed) (c := c) (r := none) found gap
  have e : EndedSince i .missed c none [] s (missInst c i.id (withdrawDue k s)) := by
    rw [missInst_eq found]
    exact ended.since b ((PutsOut.refl _).submit _)
  obtain ⟨settles, -⟩ := e.settle_inactive hN
  rw [settles]
  refine ⟨?_, fun hn => ?_, ?_, fun room => ?_, ?_, fun d hd hy => ?_, settleOutputs_asks e.pln, e.otherPartsKept nofun⟩
  · rw [settleOutputs_insts, e.insts]
  · have order : (missInst c i.id (withdrawDue k s)).lst.terminalOrder = s.lst.terminalOrder := by
      rw [missInst_eq found, submit_lst, ended.moved.lst]
      rfl
    rw [settleOutputs_lst]
    dsimp only
    rw [e.newTerminals_eq rfl hS hD hi order hn, order]
  · rw [settleOutputs_cnd, missInst_eq found]
    exact submit_cnd_congr _ ended.moved.cnd (time_of_timeOf ended.moved.time).1
  · refine settleOutputs_notice _ _ ?_
    rw [missInst_eq found]
    exact submit_notice _ (ended.notice nofun room)
  · rw [e.tx_eq, List.append_nil]
  · rw [settleOutputs_heldDue (k := .yieldWarning d.id) _ _ nofun, missInst_eq found, heldDue_of_clk (submit_clk _ _)]
    exact terminate_warning (fin := .missed) found gap nofun hd hy

/-- A PLANNED recording on a tuner is missed to the bank of that tuner (R141). -/
theorem missBank_planned {t : Tuner} (hs : i.state = .planned) (ht : i.tuner = some t) : missBank i = tunerBank t := by
  rw [missBank, if_pos hs, bankOf, ht]

theorem missBank_unplanned (hs : i.state = .pending ∨ i.state = .clashed) : missBank i = .plan := by
  obtain hs | hs := hs
  all_goals
    rw [missBank, hs]
    rfl

end Misses

/-! ## The core end and the held-start limit (R141) -/

section Falls

variable {i : Inst} {s : State}

/-- The core end of a placeable recording whose start is not held (R141). -/
theorem takeCoreEnd_missed (hi : findInst i.id s = some i)
    (hs : i.state = .pending ∨ i.state = .clashed ∨ i.state = .planned ∧ i.startHeld = false) :
    takeCoreEnd i.id s = missInst .notStarted i.id s := by
  rw [takeCoreEnd, hi]
  obtain hs | hs | ⟨hs, held⟩ := hs
  · simp only [hs]
  · simp only [hs]
  · simp only [hs, held]
    rfl

theorem takeCoreEnd_held (hi : findInst i.id s = some i) (hs : i.state = .planned) (hh : i.startHeld = true) :
    takeCoreEnd i.id s = s := by
  rw [takeCoreEnd, hi]
  simp only [hs, hh]
  rfl

theorem takeHeldLimit_held (hi : findInst i.id s = some i) (hs : i.state = .planned) (hh : i.startHeld = true) :
    takeHeldLimit i.id s = missInst .heldTooLong i.id s := by
  rw [takeHeldLimit, hi]
  exact if_pos ⟨hs, hh⟩

end Falls

/-- Settles O26: each event is taken, and makes the recording MISSED unless its held start still waits. -/
theorem coreEndAndHeldLimitMiss : Obligations.CoreEndAndHeldLimitMiss := by
  intro s n i hS hD hN hi hg
  obtain rfl := findInst_id hi
  have found (k : DueKind) : findInst i.id (withdrawDue k s) = some i := hi
  refine ⟨fun due hs => ?_, fun t due hs hh ht => ?_, fun due hs hh => ?_, fun t due hs hh ht => ?_⟩
  · refine ⟨_, congrArg Host.Outcome.next (onDue_taken (takeDue_delivered due)), ?_⟩
    rw [takeCoreEnd_missed (found _) (hs.imp_right .inl), ← missBank_unplanned hs]
    exact settle_missed hS hD hN hi hg (.coreEnd i.id)
  · refine ⟨_, congrArg Host.Outcome.next (onDue_taken (takeDue_delivered due)), ?_⟩
    rw [takeCoreEnd_missed (found _) (.inr (.inr ⟨hs, hh⟩)), ← missBank_planned hs ht]
    exact settle_missed hS hD hN hi hg (.coreEnd i.id)
  · refine congrArg Host.Outcome.next ((onDue_taken (takeDue_delivered due)).trans ?_)
    rw [takeCoreEnd_held (found _) hs hh]
    exact settle_withoutDue (k := .coreEnd i.id) hS nofun
  · refine ⟨_, congrArg Host.Outcome.next (onDue_taken (takeDue_delivered due)), ?_⟩
    rw [takeHeldLimit_held (found _) hs hh, ← missBank_planned hs ht]
    exact settle_missed hS hD hN hi hg (.heldLimit i.id)

end Sys2Proof.Machine

/-! PROOFS. What an event does to the Link Port and to the Planner's flags, short of its end: how many answers it makes, that
the notice queue stays within its bound, and that the Planner's flags are all it touches (R93, R113, R201, R202). -/

namespace Sys2Proof.Machine

-- one theorem after another: many at a time would want a thread each
set_option Elab.async false

open Sys2Proof

/-! ## What an operation answers -/

@[simp] theorem dirtied_passState (b : Bool) (p : Planner) : (dirtied b p).passState = p.passState := by
  unfold dirtied
  split
  · split <;> simp [*]
  · rfl

/-- From `s` to `t` the part has made `n` answers: replies, or queries that it holds during a pass (R113, R201). Of the
Planner at most the dirty flag has been set (R93), of the Clock Unit only requests and delays have changed, and the notice
queue is still within its bound (R202). -/
structure Answers (n : Nat) (s t : State) : Prop where
  inHand : t.lnk.inHand = s.lnk.inHand
  made : t.lnk.tx.length + t.lnk.held.length = s.lnk.tx.length + s.lnk.held.length + n
  held : t.lnk.held = s.lnk.held ∨ s.pln.passState = .pass ∧ t.lnk.held.length ≤ Config.heldCap
  notices : s.lnk.notices.length ≤ Config.noticeCap → t.lnk.notices.length ≤ Config.noticeCap
  plan : ∃ b, t.pln = dirtied b s.pln
  time : timeOf t.clk = timeOf s.clk

section Answers

variable {n : Nat} {s t u : State}

/-- An operation that leaves the transmit order, the held queries, the notices, the Planner and the time alone. -/
theorem Answers.none (hi : t.lnk.inHand = s.lnk.inHand := by simp) (hr : t.lnk.tx = s.lnk.tx := by simp)
    (hh : t.lnk.held = s.lnk.held := by simp) (hn : t.lnk.notices = s.lnk.notices := by simp)
    (hp : t.pln = s.pln := by simp) (hc : timeOf t.clk = timeOf s.clk := by simp) : Answers 0 s t :=
  ⟨hi, by rw [hr, hh]; rfl, .inl hh, fun h => hn ▸ h, ⟨false, hp⟩, hc⟩

theorem Answers.refl (s : State) : Answers 0 s s := .none rfl rfl rfl rfl rfl rfl

/-- Answers made one after another. -/
theorem Answers.add {m : Nat} (h : Answers m s t) (k : Answers n t u) : Answers (m + n) s u where
  inHand := k.inHand.trans h.inHand
  made := by rw [k.made, h.made, Nat.add_assoc]
  held := by
    obtain ⟨b, e⟩ := h.plan
    obtain e' | ⟨pass, few⟩ := k.held
    · rw [e']
      exact h.held
    · exact .inr ⟨by simpa [e] using pass, few⟩
  notices := fun hs => k.notices (h.notices hs)
  plan := by
    obtain ⟨b, e⟩ := h.plan
    obtain ⟨c, e'⟩ := k.plan
    exact ⟨b || c, by rw [e', e, dirtied_dirtied]⟩
  time := k.time.trans h.time

/-- Work before the answers. -/
theorem Answers.trans (h : Answers 0 s t) (k : Answers n t u) : Answers n s u := Nat.zero_add n ▸ h.add k

/-- Work after the answers. -/
theorem Answers.then (h : Answers n s t) (k : Answers 0 t u) : Answers n s u := h.add k

theorem Answers.ite {p : Prop} [Decidable p] (ht : Answers n s t) (hu : Answers n s u) :
    Answers n s (if p then t else u) := by
  split
  · exact ht
  · exact hu

/-- A fold over anything that carries a state answers nothing where none of its steps does. -/
theorem Answers.foldl_of {α β : Type} (p : β → State) {f : β → α → β} (h : ∀ b x, Answers 0 (p b) (p (f b x)))
    (xs : List α) (b : β) : Answers 0 (p b) (p (xs.foldl f b)) := by
  induction xs generalizing b with
  | nil => exact .refl (p b)
  | cons x xs ih => exact (h b x).trans (ih (f b x))

theorem Answers.foldl {α : Type} {f : State → α → State} (h : ∀ u x, Answers 0 u (f u x)) (xs : List α) (s : State) :
    Answers 0 s (xs.foldl f s) := .foldl_of id h xs s

/-- An operation that has posted notices, or fetched them, and otherwise left the Link Port alone. -/
theorem Answers.noticed (hl : NoticesOnly s t)
    (hn : s.lnk.notices.length ≤ Config.noticeCap → t.lnk.notices.length ≤ Config.noticeCap)
    (hp : t.pln = s.pln := by simp) (hc : timeOf t.clk = timeOf s.clk := by simp) : Answers 0 s t := by
  obtain ⟨ns, o, e⟩ := hl
  exact ⟨by rw [e], by rw [e]; rfl, .inl (by rw [e]), hn, ⟨false, hp⟩, hc⟩

end Answers

/-! ## Flags, notices and conditions (R93, R167, R202) -/

theorem setDirty_answers (s : State) : Answers 0 s (setDirty s) :=
  ⟨by simp, by simp, .inl (by simp), fun h => by simpa using h, ⟨true, setDirty_pln s⟩, by simp⟩

theorem setDirtyIf_answers (b : Bool) (s : State) : Answers 0 s (setDirtyIf b s) := .ite (setDirty_answers s) (.refl s)

theorem postNotice_answers (b : NoticeBody) (s : State) : Answers 0 s (postNotice b s) :=
  .noticed (postNotice_noticesOnly b s) (postNotice_length b s)

theorem submit_answers (c : Condition) (s : State) : Answers 0 s (submit c s) :=
  .ite (.refl s) (.ite (.trans .none (postNotice_answers _ _)) .none)

theorem submitAll_answers (cs : List Condition) (s : State) : Answers 0 s (submitAll cs s) :=
  .foldl (fun u c => submit_answers c u) cs s

theorem submitFree_answers (cs : List Condition) (s : State) : Answers 0 s (submitFree cs s) :=
  .ite (submitAll_answers cs s) ((submitAll_answers (freeOrderOf s.free cs) s).trans .none)

theorem advanceGap_answers (t : Tuner) (s : State) : Answers 0 s (advanceGap t s) :=
  .ite (.trans .none (postNotice_answers _ _)) .none

/-! ## The history and the spent bookings (R46, R47, R53, R54) -/

theorem insertHistory_answers (e : HistEntry) (s : State) : Answers 0 s (insertHistory e s).1 := by
  unfold insertHistory
  repeat' split
  · exact .refl s
  · exact .trans .none (setDirty_answers _)
  · exact .trans .none (setDirty_answers _)

theorem handDone_answers (i : Inst) (n : Nat) (s : State) : Answers 0 s (handDone i n s) := by
  unfold handDone
  split
  · exact .refl s
  · rename_i b _
    have stores (e : HistEntry) : Answers 0 s (if Config.historyFraction ≤ n then (insertHistory e s).1 else s) :=
      .ite (insertHistory_answers e s) (.refl s)
    have spends (u : State) : Answers 0 u (removeSpent b.id (makeSpent b.id u)) := .none
    dsimp only
    split
    · refine .trans ?_ (spends _)
      split
      · exact stores _
      · exact .refl s
    · split
      · exact stores _
      · exact .refl s

/-! ## The lock monitors (R157 to R161) -/

theorem chargeGap_answers (t : Tuner) (upTo iid : Nat) (s : State) : Answers 0 s (chargeGap t upTo iid s) := .none

theorem closeGap_answers (t : Tuner) (s : State) : Answers 0 s (closeGap t s) :=
  have charged : Answers 0 s ((recordingOn t s).foldl (fun u i => chargeGap t (monTime s) i.id u) s) :=
    .foldl (fun u (i : Inst) => chargeGap_answers t (monTime s) i.id u) _ s
  (charged.trans .none).trans ((advanceGap_answers t _).trans (submit_answers _ _))

theorem monitorOff_answers (t : Tuner) (s : State) : Answers 0 s (monitorOff t s) := by
  have closed : Answers 0 s (if (tunerRun t s).mon = .gap then closeGap t s else s) :=
    .ite (closeGap_answers t s) (.refl s)
  unfold monitorOff
  exact closed.trans .none

theorem monitorCheckOf_answers (i : Inst) (s : State) : Answers 0 s (monitorCheckOf i s) := by
  unfold monitorCheckOf
  split
  · exact .ite (.refl s) (.ite (.refl s) (monitorOff_answers _ s))
  · exact .refl s

/-! ## The ends of a recording (R83, R141, R148, R149) -/

theorem terminate_answers (iid : Nat) (fin : InstState) (c : Cause) (r : Option Nat) (s : State) :
    Answers 0 s (terminate iid fin c r s) := by
  unfold terminate
  split
  · exact .refl s
  · rename_i i _
    have left : Answers 0 s (monitorCheckOf i (leaveActive iid (modInst iid (finished fin c r (now s))
        (withdrawInst iid (chargeLeaving iid s))))) := .trans .none (monitorCheckOf_answers i _)
    have posted := Answers.ite (p := fin = .cancelled) left
      (left.trans (postNotice_answers (.outcomeReady fin iid i.booking) _))
    refine Answers.trans ?_ (setDirtyIf_answers _ _)
    split
    · exact posted.trans (handDone_answers _ _ _)
    · exact posted

theorem missInst_answers (c : Cause) (iid : Nat) (s : State) : Answers 0 s (missInst c iid s) := by
  unfold missInst
  split
  · exact .refl s
  · exact (terminate_answers _ _ _ _ s).trans (submit_answers _ _)

theorem enterStopping_answers (reason : StopReason) (iid : Nat) (s : State) :
    Answers 0 s (enterStopping reason iid s) := by
  unfold enterStopping
  split
  · exact .refl s
  · exact .ite (.trans .none ((monitorCheckOf_answers _ _).trans (setDirtyIf_answers _ _))) (.refl s)

theorem endStopping_answers (c : Cause) (i : Inst) (s : State) : Answers 0 s (endStopping c i s) :=
  .ite (terminate_answers _ _ _ _ s) (terminate_answers _ _ _ _ s)

theorem cutOverrun_answers (t : Tuner) (i : Inst) (s : State) : Answers 0 s (cutOverrun t i s) :=
  (enterStopping_answers _ _ s).trans (submit_answers _ _)

/-! ## Viewing claims (R155, R156) -/

theorem removeClaim_answers (cid : Nat) (s : State) : Answers 0 s (removeClaim cid s) :=
  .trans .none (setDirty_answers _)

theorem revokeClaim_answers (cid iid : Nat) (s : State) : Answers 0 s (revokeClaim cid iid s) :=
  (postNotice_answers (.claimRevoked cid iid) s).trans (removeClaim_answers cid _)

theorem dropClaims_answers (s : State) : Answers 0 s (dropClaims s) :=
  .ite (.refl s) (.trans .none (setDirty_answers _))

/-! ## Starting and waiting to start (R142 to R144, R163) -/

theorem startOn_answers (t : Tuner) (resume late : Bool) (iid : Nat) (s : State) :
    Answers 0 s (startOn t resume late iid s) := by
  unfold startOn
  split
  · exact .refl s
  · dsimp only
    refine .ite (.trans ?_ (submit_answers _ _)) ?_
    all_goals exact .ite .none .none

theorem handovers_answers (t : Tuner) (iid : Nat) (s : State) : Answers 0 s (handovers t iid s) :=
  (Answers.foldl (fun u j => cutOverrun_answers t j u) _ s).trans
    (.foldl (fun u (c : Claim) => revokeClaim_answers c.id iid u) _ _)

theorem waitForTuner_answers (resume : Bool) (iid : Nat) (s : State) : Answers 0 s (waitForTuner resume iid s) := .none

theorem blockedStart_answers (t : Tuner) (resume late : Bool) (i : Inst) (s : State) :
    Answers 0 s (blockedStart t resume late i s) := by
  have cut : Answers 0 s ((obstacleClaims t i s).foldl (fun u c => revokeClaim c.id i.id u)
      ((obstacleInsts t i s).foldl (fun u j => cutOverrun t j u) s)) :=
    (Answers.foldl (fun u j => cutOverrun_answers t j u) _ s).trans
      (.foldl (fun u (c : Claim) => revokeClaim_answers c.id i.id u) _ _)
  have swap : Answers 0 s (setDirty (submit (condFor (tunerBank (otherTuner t)) .soft .tunerSwapped i)
      (startOn (otherTuner t) resume late i.id s))) :=
    (startOn_answers _ _ _ _ s).trans ((submit_answers _ _).trans (setDirty_answers _))
  exact .ite (waitForTuner_answers _ _ s) (.ite swap (.ite
    (cut.trans (.ite (startOn_answers _ _ _ _ _) (waitForTuner_answers _ _ _))) (waitForTuner_answers _ _ s)))

theorem startAttempt_answers (resume late : Bool) (iid : Nat) (s : State) :
    Answers 0 s (startAttempt resume late iid s) := by
  unfold startAttempt
  split
  · exact .refl s
  · split
    · exact .refl s
    · exact (Answers.ite (.refl s) (handovers_answers _ iid s)).trans
        (.ite (startOn_answers _ _ _ _ _) (blockedStart_answers _ _ _ _ _))

/-! ## Interruption, resume and the waiting starts (R144, R162, R163) -/

theorem interruptInst_answers (iid : Nat) (s : State) : Answers 0 s (interruptInst iid s) := by
  unfold interruptInst
  split
  · exact .refl s
  · split
    · exact .trans .none ((monitorCheckOf_answers _ _).trans (setDirtyIf_answers _ _))
    · exact .trans .none ((monitorCheckOf_answers _ _).trans (setDirtyIf_answers _ _))
    · exact endStopping_answers _ _ s
    · exact .refl s

theorem interruptHost_answers (s : State) : Answers 0 s (interruptHost s) :=
  ((dropClaims_answers s).trans (.foldl (fun u iid => interruptInst_answers iid u) _ _)).trans
    ((monitorOff_answers .a _).trans (monitorOff_answers .b _))

theorem judgeResume_answers (iid : Nat) (s : State) : Answers 0 s (judgeResume iid s) := by
  unfold judgeResume
  split
  · exact .refl s
  · exact .ite (.ite (terminate_answers _ _ _ _ s)
      (.ite ((terminate_answers _ _ _ _ s).trans (submit_answers _ _)) (startAttempt_answers _ _ _ s))) (.refl s)

theorem retryHeld_answers (iid : Nat) (s : State) : Answers 0 s (retryHeld iid s) := by
  unfold retryHeld
  split
  · exact .refl s
  · exact .ite (startAttempt_answers _ _ _ s) (.refl s)

theorem takeHeld_answers (iid : Nat) (s : State) : Answers 0 s (takeHeld iid s) := by
  unfold takeHeld
  split
  · exact .refl s
  · exact .ite (.ite (startAttempt_answers _ _ _ s) (missInst_answers _ _ s)) (.refl s)

theorem takeUpWork_answers (s : State) : Answers 0 s (takeUpWork s) :=
  (Answers.foldl (fun u iid => judgeResume_answers iid u) _ s).trans (.foldl (fun u iid => takeHeld_answers iid u) _ _)

theorem retryWaiting_answers (s : State) : Answers 0 s (retryWaiting s) :=
  (Answers.foldl (fun u iid => judgeResume_answers iid u) _ s).trans (.foldl (fun u iid => retryHeld_answers iid u) _ _)

theorem retryRounds_answers (fuel : Nat) (before s : State) : Answers 0 s (retryRounds fuel before s) := by
  induction fuel generalizing before s with
  | zero => exact .refl s
  | succ fuel ih => exact .ite ((retryWaiting_answers s).trans (ih s _)) (.refl s)

theorem retryStarts_answers (before s : State) : Answers 0 s (retryStarts before s) := retryRounds_answers _ before s

/-! ## Overrun (R152, R153) -/

theorem fixOverrun_answers (iid : Nat) (s : State) : Answers 0 s (fixOverrun iid s) := by
  unfold fixOverrun
  split
  · exact .refl s
  · split
    · exact .refl s
    · exact .ite (.trans .none ((enterStopping_answers _ _ _).trans (setDirty_answers _)))
        (.trans .none (setDirty_answers _))

theorem handStatus_answers (k : EventKey) (st : Option RunStatus) (s : State) : Answers 0 s (handStatus k st s) :=
  .ite (.refl s) (.foldl (fun u iid => fixOverrun_answers iid u) _ s)

end Sys2Proof.Machine

/-! PROOFS. Every message that is taken is answered once: by a reply, or by a query held during a pass; every other event makes
no answer (R113, R199 to R201). -/

namespace Sys2Proof.Machine

-- one theorem after another: many at a time would want a thread each
set_option Elab.async false

open Sys2Proof

/-! ## The Booking Table (chapter 3) -/

/-- A reply, after whatever has made no answer (R201). -/
theorem Answers.reply {s u : State} (h : Answers 0 s u) {r : Reply} : Answers 1 s (pushReply r u) :=
  h.trans ⟨rfl, by simp [pushReply]; omega, .inl rfl, id, ⟨false, rfl⟩, rfl⟩

theorem addBooking_answers (kind tag : Byte) (dup : Option Booking) (part : BookingPart) (c : CommonMsg) (s : State) :
    Answers 1 s (addBooking kind tag dup part c s) := by
  unfold addBooking
  repeat' split
  · exact .reply .none
  · exact .reply .none
  · exact .reply (.trans .none (setDirty_answers _))

theorem bookEvent_answers (tag : Byte) (m : EventKey × CommonMsg) (s : State) : Answers 1 s (bookEvent tag m s) := by
  unfold bookEvent
  refine .ite (.reply .none) ?_
  split
  · exact .reply .none
  · exact addBooking_answers _ _ _ _ _ s

theorem bookSeries_answers (tag : Byte) (m : BookSeriesMsg) (s : State) : Answers 1 s (bookSeries tag m s) :=
  .ite (.reply .none) (addBooking_answers _ _ _ _ _ s)

theorem bookManual_answers (tag : Byte) (m : ManualPart × CommonMsg) (s : State) : Answers 1 s (bookManual tag m s) :=
  .ite (.reply .none) (addBooking_answers _ _ _ _ _ s)

theorem bookChange_answers (tag : Byte) (m : Nat × List ChangeField) (s : State) : Answers 1 s (bookChange tag m s) := by
  unfold bookChange
  repeat' split
  case h_2.isFalse => exact .reply (.trans .none (setDirtyIf_answers _ _))
  all_goals exact .reply .none

theorem moveBooking_answers (kind tag : Byte) (st : BookingState) (bid : Nat) (s : State) :
    Answers 1 s (moveBooking kind tag st bid s) := by
  unfold moveBooking setBookingState
  repeat' split
  · exact .reply .none
  · exact .reply .none
  · exact .reply .none
  · exact .reply (.trans .none (setDirty_answers _))

theorem deleteInst_answers (iid : Nat) (s : State) : Answers 0 s (deleteInst iid s) := by
  unfold deleteInst
  split
  · exact .refl s
  · split
    case h_5 => exact enterStopping_answers _ _ s
    case h_6 => exact terminate_answers _ _ _ _ s
    case h_1 | h_2 | h_3 | h_4 => exact terminate_answers _ _ _ _ s
    all_goals exact .refl s

theorem bookDelete_answers (tag : Byte) (bid : Nat) (s : State) : Answers 1 s (bookDelete tag bid s) := by
  have dropped : Answers 0 s (setDirty (dropBooking bid s)) :=
    .trans (.none (t := dropBooking bid s) rfl rfl rfl rfl rfl rfl) (setDirty_answers _)
  have deleted := dropped.trans (.foldl (fun u iid => deleteInst_answers iid u) (idsOfBooking bid (fun _ => true) s) _)
  exact .ite (.reply deleted) (.reply .none)

theorem bookGet_answers (tag : Byte) (bid : Nat) (s : State) : Answers 1 s (bookGet tag bid s) := by
  unfold bookGet
  split
  all_goals exact .reply .none

theorem bookList_answers (tag : Byte) (n : Nat) (s : State) : Answers 1 s (bookList tag n s) :=
  .ite (.reply .none) (.reply .none)

theorem historyAdd_answers (tag : Byte) (e : HistEntry) (s : State) : Answers 1 s (historyAdd tag e s) :=
  .ite (.reply .none) (.reply (insertHistory_answers e s))

theorem dropEntries_answers (tag : Byte) (p : HistEntry → Bool) (s : State) : Answers 1 s (dropEntries tag p s) :=
  .reply (.trans .none (setDirtyIf_answers _ _))

theorem historyDrop_answers (tag : Byte) (m : HistDropMsg) (s : State) : Answers 1 s (historyDrop tag m s) := by
  cases m with
  | pair e => exact .ite (.reply .none) (dropEntries_answers _ _ s)
  | series r => exact .ite (.reply .none) (dropEntries_answers _ _ s)

theorem historyGet_answers (tag : Byte) (m : Nat × Option Ref) (s : State) : Answers 1 s (historyGet tag m s) :=
  .ite (.reply .none) (.reply .none)

/-! ## The Clock Unit and the Guide Store (chapters 1 and 2) -/

theorem timeGet_answers (tag : Byte) (s : State) : Answers 1 s (timeGet tag s) := .reply .none

theorem takeRec_answers (k : EventKey) (s : State) : Answers 0 s (takeRec k s) := .none rfl rfl rfl rfl rfl rfl

theorem placeRec_answers (r : GuideRec) (s : State) : Answers 0 s (placeRec r s) := .none rfl rfl rfl rfl rfl rfl

theorem removeRec_answers (r : GuideRec) (s : State) : Answers 0 s (removeRec r s) :=
  ((takeRec_answers _ s).trans (setDirtyIf_answers _ _)).trans (handStatus_answers _ _ _)

theorem replaceEntry_answers (e : GuideEntry) (old : GuideRec) (s : State) : Answers 0 s (replaceEntry e old s) :=
  have placed (r : GuideRec) (b : Bool) : Answers 0 s (setDirtyIf b (placeRec r (takeRec e.key s))) :=
    (takeRec_answers _ s).trans ((placeRec_answers r _).trans (setDirtyIf_answers b _))
  .ite (placed _ _) ((placed _ _).trans (handStatus_answers _ _ _))

theorem insertEntry_answers (e : GuideEntry) (s : State) : Answers 0 s (insertEntry e s) :=
  (placeRec_answers _ s).trans (setDirtyIf_answers _ _)

theorem putEntry_answers (t : Nat) (sc : State × PutCounts) (e : GuideEntry) :
    Answers 0 sc.1 (putEntry t sc e).1 := by
  unfold putEntry
  dsimp only
  repeat' split
  · exact .refl _
  · exact replaceEntry_answers _ _ _
  · exact insertEntry_answers _ _
  · exact .refl _
  · exact ((takeRec_answers _ _).trans (setDirtyIf_answers _ _)).trans (insertEntry_answers _ _)
  · exact .refl _

theorem guidePut_answers (tag : Byte) (es : List GuideEntry) (s : State) : Answers 1 s (guidePut tag es s) :=
  .reply (Answers.foldl_of Prod.fst (putEntry_answers (now s)) es (s, ⟨0, 0, 0, 0⟩))

theorem dropKey_answers (sc : State × Nat × Nat) (k : EventKey) : Answers 0 sc.1 (dropKey sc k).1 := by
  unfold dropKey
  split
  · exact removeRec_answers _ _
  · exact .refl _

theorem removeRecs_answers (xs : List GuideRec) (s : State) : Answers 0 s (xs.foldl (fun u r => removeRec r u) s) :=
  .foldl (fun u r => removeRec_answers r u) xs s

theorem guideDrop_answers (tag : Byte) (m : GuideDropMsg) (s : State) : Answers 1 s (guideDrop tag m s) := by
  cases m with
  | keys ks => exact .reply (Answers.foldl_of Prod.fst dropKey_answers ks (s, 0, 0))
  | service n => exact .ite (.reply .none) (.reply (removeRecs_answers _ s))

theorem eventStatus_answers (tag : Byte) (m : EventKey × Nat) (s : State) : Answers 1 s (eventStatus tag m s) := by
  unfold eventStatus
  split
  · exact .reply .none
  · split
    · exact .reply .none
    · exact .reply (.ite .none (.trans .none (handStatus_answers _ _ _)))

theorem guideGet_answers (tag : Byte) (p : List Byte) (s : State) : Answers 1 s (guideGet tag p s) := by
  unfold guideGet guideSummary guideGetKey
  repeat' split
  all_goals exact .reply .none

/-! ## Reading and taking (chapters 5 to 7) -/

theorem instanceGet_answers (tag : Byte) (iid : Nat) (s : State) : Answers 1 s (instanceGet tag iid s) := by
  unfold instanceGet
  split
  all_goals exact .reply .none

theorem answerPlanGet_answers (tag : Byte) (a b k : Nat) (s : State) : Answers 1 s (answerPlanGet tag a b k s) :=
  .ite (.reply .none) (.reply .none)

theorem answerClashGet_answers (tag : Byte) (k : Nat) (s : State) : Answers 1 s (answerClashGet tag k s) :=
  .ite (.reply .none) (.reply .none)

/-- During a pass a query is held, as one of four at most; the fifth is refused (R113). -/
theorem holdOr_answers {ans : State → State} (h : ∀ u, Answers 1 u (ans u)) (kind tag : Byte) (q : Query) (s : State) :
    Answers 1 s (holdOr kind tag q ans s) := by
  unfold holdOr
  split
  · exact h s
  · rename_i pass
    split
    · rename_i room
      refine ⟨rfl, ?_, .inr ⟨pass, ?_⟩, id, ⟨false, rfl⟩, rfl⟩
      · simp
        omega
      · simpa using room
    · exact .reply .none

theorem planGet_answers (tag : Byte) (m : Nat × Nat × Nat) (s : State) : Answers 1 s (planGet tag m s) :=
  .ite (.reply .none) (.ite (.reply .none) (holdOr_answers (answerPlanGet_answers tag _ _ _) _ _ _ s))

theorem clashGet_answers (tag : Byte) (k : Nat) (s : State) : Answers 1 s (clashGet tag k s) :=
  .ite (.reply .none) (.ite (.reply .none) (holdOr_answers (answerClashGet_answers tag _) _ _ _ s))

theorem leaveList_answers (i : Inst) (s : State) : Answers 0 s (leaveList i s) := by
  unfold leaveList
  exact .none

theorem outcomeTake_answers (tag : Byte) (iid : Nat) (s : State) : Answers 1 s (outcomeTake tag iid s) := by
  unfold outcomeTake
  split
  · exact .reply .none
  · exact .ite (.reply (leaveList_answers _ s)) (.reply .none)

/-! ## Run Control (chapter 8) -/

theorem takeWindowStart_answers (iid : Nat) (s : State) : Answers 0 s (takeWindowStart iid s) := by
  unfold takeWindowStart
  split
  · exact .refl s
  · exact .ite (.ite (missInst_answers _ _ s) (.ite (startAttempt_answers _ _ _ s) .none)) (.refl s)

theorem takeCoreEnd_answers (iid : Nat) (s : State) : Answers 0 s (takeCoreEnd iid s) := by
  unfold takeCoreEnd
  split
  · exact .refl s
  · have overruns (i : Inst) : Answers 0 s (enterOverrun i s) := .trans .none (setDirty_answers _)
    split
    · exact missInst_answers _ _ s
    · exact missInst_answers _ _ s
    · exact .ite (.refl s) (missInst_answers _ _ s)
    · exact .ite (overruns _) (.refl s)
    · exact .ite (overruns _) (.refl s)
    all_goals exact .refl s

theorem takeHeldLimit_answers (iid : Nat) (s : State) : Answers 0 s (takeHeldLimit iid s) := by
  unfold takeHeldLimit
  split
  · exact .refl s
  · exact .ite (missInst_answers _ _ s) (.refl s)

theorem takeOverrunCap_answers (iid : Nat) (s : State) : Answers 0 s (takeOverrunCap iid s) := by
  unfold takeOverrunCap
  split
  · exact .refl s
  · split
    · exact .trans .none (setDirty_answers _)
    · exact enterStopping_answers _ _ s

theorem failStart_answers (c : Cause) (r : Option Nat) (i : Inst) (s : State) : Answers 0 s (failStart c r i s) :=
  (terminate_answers _ _ _ _ s).trans (submit_answers _ _)

theorem takeStartTimeout_answers (iid : Nat) (s : State) : Answers 0 s (takeStartTimeout iid s) := by
  unfold takeStartTimeout
  split
  · exact .refl s
  · exact .ite (failStart_answers _ _ _ s) (.refl s)

theorem takeStopTimeout_answers (iid : Nat) (s : State) : Answers 0 s (takeStopTimeout iid s) := by
  unfold takeStopTimeout
  split
  · exact .refl s
  · exact .ite ((endStopping_answers _ _ s).trans (submit_answers _ _)) (.refl s)

theorem takeStarted_answers (i : Inst) (s : State) : Answers 0 s (takeStarted i s) := by
  have opened (u : State) : Answers 0 s (match i.tuner with
      | some t => armMonitor t (modInst i.id (fun j => { j with
          state := .recording, segments := j.segments ++ [{ start := now s, stop := none }], entries := j.entries + 1 })
          (cancelDelay (.startConfirm i.id) s))
      | none => modInst i.id (fun j => { j with
          state := .recording, segments := j.segments ++ [{ start := now s, stop := none }], entries := j.entries + 1 })
          (cancelDelay (.startConfirm i.id) s)) := by
    unfold armMonitor
    repeat' split
    all_goals exact .none
  exact .ite ((opened s).trans (enterStopping_answers _ _ _)) (opened s)

theorem takeHostStop_answers (i : Inst) (s : State) : Answers 0 s (takeHostStop i s) :=
  .ite ((terminate_answers _ _ _ _ s).trans (submit_answers _ _)) (terminate_answers _ _ _ _ s)

theorem recReport_answers (tag : Byte) (m : Nat × Report) (s : State) : Answers 1 s (recReport tag m s) := by
  unfold recReport
  refine .ite (.reply .none) ?_
  split
  · exact .reply .none
  · refine .ite (.reply .none) ?_
    split
    · exact .reply (takeStarted_answers _ s)
    · exact .reply (failStart_answers _ _ _ s)
    · exact .reply (endStopping_answers _ _ s)
    · exact .reply (takeHostStop_answers _ s)
    · exact .reply .none

theorem newClaim_answers (tag : Byte) (t : Tuner) (m : ClaimMsg) (s : State) : Answers 1 s (newClaim tag t m s) := by
  unfold newClaim
  split
  · exact .reply .none
  · exact .reply (.trans .none (setDirty_answers _))

theorem changeClaim_answers (tag : Byte) (n : Nat) (old : Claim) (t : Tuner) (m : ClaimMsg) (s : State) :
    Answers 1 s (changeClaim tag n old t m s) :=
  .reply (.ite (.trans .none (setDirty_answers _)) (.refl s))

theorem viewClaim_answers (tag : Byte) (m : ClaimMsg) (s : State) : Answers 1 s (viewClaim tag m s) := by
  unfold viewClaim
  split
  · exact .reply .none
  · refine .ite (.reply .none) (.ite (.reply .none) ?_)
    split
    · exact .ite (.reply .none) (newClaim_answers _ _ _ s)
    · split
      · exact .reply .none
      · exact .ite (.reply .none) (changeClaim_answers _ _ _ _ _ s)

theorem viewRelease_answers (tag : Byte) (n : Nat) (s : State) : Answers 1 s (viewRelease tag n s) :=
  .ite (.reply (removeClaim_answers n s)) (.reply .none)

theorem takeYieldWarning_answers (n : Nat) (s : State) : Answers 0 s (takeYieldWarning n s) := by
  unfold takeYieldWarning
  repeat' split
  · exact .refl s
  · exact .refl s
  · exact postNotice_answers _ s

theorem takeGraceEnd_answers (t : Tuner) (s : State) : Answers 0 s (takeGraceEnd t s) := .ite .none .none

theorem monitorTick_answers (t : Tuner) (locked : Bool) (s : State) : Answers 0 s (monitorTick t locked s) := by
  unfold monitorTick declareGap
  split
  case h_5 => exact .ite .none .none
  case h_7 => exact (closeGap_answers t s).trans .none
  all_goals exact .none

theorem takeTick_answers (t : Tuner) (locked : Bool) (s : State) : Answers 0 s (takeTick t locked s) :=
  .trans .none ((monitorTick_answers t locked _).trans (.ite (.refl _) .none))

theorem takeAbandon_answers (t : Tuner) (s : State) : Answers 0 s (takeAbandon t s) :=
  .ite (((closeGap_answers t s).trans (.trans .none (submit_answers _ _))).trans
    ((Answers.foldl (fun v (i : Inst) => enterStopping_answers .abandoned i.id v) _ _).trans
      ((monitorOff_answers t _).trans (setDirty_answers _)))) (.refl s)

theorem takeWindowClose_answers (iid : Nat) (s : State) : Answers 0 s (takeWindowClose iid s) := by
  unfold takeWindowClose
  split
  · exact .refl s
  · exact .ite (terminate_answers _ _ _ _ s) (.refl s)

/-! ## The Wake Supervisor (chapter 10) -/

theorem takeKeepalive_answers (s : State) : Answers 0 s (takeKeepalive s) :=
  have woken (c : Condition) (f : WakeSup → WakeSup) :
      Answers 0 s (modWsv f (startWakeTimeout (beginPulse (submit c s)))) :=
    (submit_answers c s).trans (.none rfl rfl rfl rfl rfl rfl)
  .ite ((woken _ _).trans (interruptHost_answers _)) (.refl s)

theorem takeWakeDue_answers (s : State) : Answers 0 s (takeWakeDue s) := by
  unfold takeWakeDue
  split
  all_goals exact .none rfl rfl rfl rfl rfl rfl

theorem takeWakeTimeout_answers (s : State) : Answers 0 s (takeWakeTimeout s) :=
  .ite (.ite (.none rfl rfl rfl rfl rfl rfl) (.trans .none (submit_answers _ _))) (.refl s)

theorem helloAwake_answers (s : State) : Answers 0 s (helloAwake s) := by
  unfold helloAwake
  exact .none

theorem helloWork_answers (previous : HostState) (n : Nat) (s : State) : Answers 0 s (helloWork previous n s) := by
  unfold helloWork
  split
  · exact ((submit_answers _ s).trans (interruptHost_answers _)).trans (takeUpWork_answers _)
  all_goals exact (dropClaims_answers s).trans (takeUpWork_answers _)

theorem hello_answers (tag : Byte) (s : State) : Answers 1 s (hello tag s) :=
  (Answers.reply ((helloAwake_answers s).trans ((helloWork_answers _ _ _).trans (retryStarts_answers s _)))).then
    (.none rfl rfl rfl rfl rfl rfl)

theorem standby_answers (tag : Byte) (s : State) : Answers 1 s (standby tag s) :=
  .ite (.ite (.reply (.trans .none (dropClaims_answers _))) (.reply .none)) (.reply .none)

theorem causeClear_answers (tag : Byte) (s : State) : Answers 1 s (causeClear tag s) := .reply .none

theorem resetPart_answers (tag : Byte) (n : Nat) (s : State) : Answers 1 s (resetPart tag n s) := by
  unfold resetPart
  split
  · exact .reply .none
  · exact (Answers.reply (.refl s)).then (.none rfl rfl rfl rfl rfl rfl)

/-! ## The Condition Log and the Link Port (chapters 9 and 11) -/

theorem condRead_answers (tag : Byte) (n : Nat) (s : State) : Answers 1 s (condRead tag n s) := by
  unfold condRead
  split
  all_goals exact .reply .none

theorem condClear_answers (tag : Byte) (m : Nat × Bool) (s : State) : Answers 1 s (condClear tag m s) := by
  unfold condClear
  repeat' split
  all_goals exact .reply .none

theorem condConfig_answers (tag : Byte) (m : CondConfigMsg) (s : State) : Answers 1 s (condConfig tag m s) := by
  unfold condConfig
  repeat' split
  all_goals exact .reply .none

/-- NOTICE_FETCH takes notices off the queue (R203). -/
theorem noticeFetch_answers (tag : Byte) (s : State) : Answers 1 s (noticeFetch tag s) := by
  have fetched : Answers 0 s (modLnk (fun l => { l with
      notices := l.notices.drop Config.fetchCap, overflow := false }) s) :=
    .noticed ⟨_, _, rfl⟩ (fun h => by simpa using le_add_right h)
  exact .reply fetched

theorem actionsGet_answers (tag : Byte) (s : State) : Answers 1 s (actionsGet tag s) := .reply .none

theorem retestStandby_answers (b : Bool) (s : State) : Answers 0 s (retestStandby b s) :=
  .ite ((postNotice_answers (.standbyClear s.lst.earliest) s).then .none) (.refl s)

theorem retimeAbandon_answers (t : Tuner) (s : State) : Answers 0 s (retimeAbandon t s) := by
  unfold retimeAbandon
  refine .ite ?_ (.refl s)
  split
  · exact .refl s
  · rename_i d _
    dsimp only
    obtain ⟨-, e⟩ | ⟨-, e⟩ := takeDue_cases (.abandon t) (requestDue (.abandon t) (d / 10 + s.run.abandonLimit) s)
    · rw [e]
      exact .trans .none (takeAbandon_answers t _)
    · rw [e]
      exact .none

theorem writeSetting_answers (n v : Nat) (s : State) : Answers 0 s (writeSetting n v s) := by
  unfold writeSetting writeWakeLead writeKeepCode
  split
  case h_4 => exact .trans .none (retestStandby_answers _ _)
  case h_7 => exact .trans .none ((retimeAbandon_answers .a _).trans (retimeAbandon_answers .b _))
  all_goals exact .none

theorem configSet_answers (tag : Byte) (items : List (Nat × Nat)) (s : State) : Answers 1 s (configSet tag items s) :=
  .ite (.reply .none) (.ite (.reply .none)
    (.reply (.foldl (fun u (x : Nat × Nat) => writeSetting_answers x.1 (settingClamp x.1 x.2) u) items s)))

theorem configGet_answers (tag : Byte) (ns : List Nat) (s : State) : Answers 1 s (configGet tag ns s) :=
  .ite (.reply .none) (.ite (.reply .none) (.reply .none))

end Sys2Proof.Machine

/-! PROOFS. Every step keeps the counts of the Link Port and the flags of the Planner (R93, R94, R96, R110, R113, R136, R199,
R201, R202): within an event the frames in hand are counted with those not yet answered, and the end of the event begins the
pass that the dirty flag asks for. -/

namespace Sys2Proof.Machine

-- one theorem after another: many at a time would want a thread each
set_option Elab.async false

open Sys2Proof

/-! ## In the middle of an event -/

/-- The flags of the Planner, but that the dirty flag may be waiting for the end of the event (R93, R96, R110, R136). -/
structure FlagsKept (p : Planner) : Prop where
  snapshot : p.passState = .pass ↔ p.snapshot ≠ none
  again : p.again = true → p.passState = .pass
  dirty : p.dirty = true → p.passState = .idle
  generation : p.generation < 4294967296
  clashes : p.clashes.length ≤ Config.clashCap

/-- The part while `n` frames of the event that is under way are still to be answered. -/
structure Owing (n : Nat) (s : State) : Prop where
  inHand : s.lnk.inHand = s.lnk.tx.length + s.lnk.held.length + n
  few : s.lnk.inHand ≤ Config.handCap
  held : s.lnk.held.length ≤ Config.heldCap
  waiting : s.lnk.held ≠ [] → s.pln.passState = .pass
  notices : s.lnk.notices.length ≤ Config.noticeCap
  flags : FlagsKept s.pln
  clock : s.pln.passState = .pass → s.clk.cstate ≠ .unset

/-- A dirty flag waits only for the clock (R94). -/
abbrev Rested (s : State) : Prop := s.pln.passState = .idle → s.pln.dirty = true → s.clk.cstate = .unset

theorem linkAndPlannerKept_iff (s : State) : LinkKept s ∧ PlannerKept s ↔ Owing 0 s ∧ Rested s := by
  constructor
  · rintro ⟨⟨inHand, few, held, waiting, notices⟩, snapshot, clock, again, dirty, generation, clashes⟩
    exact ⟨⟨inHand, few, held, waiting, notices, ⟨snapshot, again, fun h => (dirty h).1, generation, clashes⟩, clock⟩,
      fun _ h => (dirty h).2⟩
  · rintro ⟨⟨inHand, few, held, waiting, notices, ⟨snapshot, again, dirty, generation, clashes⟩, clock⟩, rested⟩
    exact ⟨⟨inHand, few, held, waiting, notices⟩, snapshot, clock, again, fun h => ⟨dirty h, rested (dirty h) h⟩,
      generation, clashes⟩

/-- The dirty flag set, or the again flag during a pass (R93). -/
theorem dirtied_kept (b : Bool) {p : Planner} (h : FlagsKept p) : FlagsKept (dirtied b p) := by
  obtain ⟨snapshot, again, dirty, generation, clashes⟩ := h
  cases b
  · exact ⟨snapshot, again, dirty, generation, clashes⟩
  · cases hp : p.passState with
    | idle => exact ⟨by simpa [dirtied, hp] using snapshot, by simpa [dirtied, hp] using again, by simp [dirtied, hp],
        by simpa [dirtied, hp] using generation, by simpa [dirtied, hp] using clashes⟩
    | pass => exact ⟨by simpa [dirtied, hp] using snapshot, by simp [dirtied, hp], by simpa [dirtied, hp] using dirty,
        by simpa [dirtied, hp] using generation, by simpa [dirtied, hp] using clashes⟩

section Owing

variable {n : Nat} {s t : State}

/-- What an operation answers is no longer owed. -/
theorem Owing.answered {m : Nat} (h : Owing (m + n) s) (k : Answers n s t) : Owing m t := by
  obtain ⟨b, plan⟩ := k.plan
  have pass : t.pln.passState = s.pln.passState := by rw [plan, dirtied_passState]
  have unset : t.clk.cstate = s.clk.cstate := (time_of_timeOf k.time).2.1
  have made := k.made
  have inHand := h.inHand
  refine ⟨by rw [k.inHand]; omega, k.inHand ▸ h.few, ?_, fun hh => ?_, k.notices h.notices, plan ▸ dirtied_kept b h.flags, ?_⟩
  · obtain e | ⟨-, few⟩ := k.held
    · exact e ▸ h.held
    · exact few
  · obtain e | ⟨hp, -⟩ := k.held
    · exact pass.trans (h.waiting (e ▸ hh))
    · exact pass.trans hp
  · rw [pass, unset]
    exact h.clock

/-- The one frame of the event is answered. -/
theorem Answers.settles (k : Answers 1 s t) : Owing 1 s → Owing 0 t := fun h => Owing.answered (m := 0) h k

theorem Answers.owing (k : Answers 0 s t) : Keeps (Owing n) s t :=
  fun h => Owing.answered (n := 0) h k

/-- The Clock Unit may change as it will, but that a clock that is set stays set. -/
theorem Owing.clocked (h : Owing n s) {f : Clock → Clock} (hf : (f s.clk).cstate = .unset → s.clk.cstate = .unset) :
    Owing n (modClk f s) :=
  ⟨h.inHand, h.few, h.held, h.waiting, h.notices, h.flags, fun hp => mt hf (h.clock hp)⟩

/-- A frame is taken while fewer than eight are in hand (R199). -/
theorem inHand_lt_of_taken (room : ¬ frameRefused s = true) : s.lnk.inHand < Config.handCap := by
  by_contra full
  exact room (by simp [frameRefused, Nat.le_of_not_lt full])

/-- A frame that is taken is one more in hand, and owed an answer (R199). -/
theorem Owing.frame (h : Owing 0 s) (room : ¬ frameRefused s = true) : Owing 1 (frameInHand s) := by
  have fewer := inHand_lt_of_taken room
  have counted : Owing 1 (modLnk (fun l => { l with inHand := l.inHand + 1 }) s) :=
    ⟨by simp [h.inHand], fewer, h.held, h.waiting, h.notices, h.flags, h.clock⟩
  refine Answers.owing ?_ counted
  unfold frameInHand startKeepalive
  split
  · exact .none
  · exact .refl _

end Owing

/-! ## The end of an event (R82, R94, R96) -/

/-- A pass that begins takes the dirty flag with it and has its snapshot (R94, R96). -/
theorem beginPass_owing {n : Nat} (s : State) : Keeps (Owing n) s (beginPass s) := by
  intro h
  unfold beginPass
  split
  · rename_i asked
    obtain ⟨idle, -, set⟩ := asked
    have calm : ¬ s.pln.again = true := fun ha => by simpa [idle] using h.flags.again ha
    exact ⟨h.inHand, h.few, h.held, fun _ => rfl, h.notices,
      ⟨by simp, fun ha => absurd ha calm, nofun, h.flags.generation, h.flags.clashes⟩,
      fun _ => by simpa [clockSet] using set⟩
  · exact h

theorem settleOutputs_ends (before : State) {s : State} (h : Owing 0 s) :
    Owing 0 (settleOutputs before s) ∧ Rested (settleOutputs before s) := by
  refine ⟨?_, beginPass_waits⟩
  have handed : Answers 0 s (handSummaries (placeTerminals s)) := .none rfl rfl rfl rfl rfl rfl
  have summed : Answers 0 s (syncWake (handSummaries (placeTerminals s))) := handed.trans .none
  have raised (u : State) : Answers 0 u (setAttention u) := .none rfl rfl rfl rfl rfl rfl
  exact beginPass_owing _ (((summed.trans (retestStandby_answers _ _)).trans (raised _)).owing h)

theorem settle_ends (before : State) {s : State} (h : Owing 0 s) :
    Owing 0 (settle before s) ∧ Rested (settle before s) :=
  settleOutputs_ends before ((retryStarts_answers before s).owing h)

/-! ## Frames and events -/

/-- A frame is refused, or it is taken and its owner answers it (R199). -/
theorem onFrame_owing {act : State → State} (h : ∀ u, Owing 1 u → Owing 0 (act u)) (kind tag : Byte) (p : List Byte)
    (s : State) : Keeps (Owing 0) s (onFrame kind tag p act s) := by
  intro hs
  have arrived : Owing 0 (frameArrived kind tag p (frameCheck kind tag p) s) :=
    Answers.owing (s := s) (.none rfl rfl rfl rfl rfl rfl) hs
  unfold onFrame
  dsimp only
  repeat' split
  · exact hs
  · exact arrived
  · exact h _ (arrived.frame ‹_›)

theorem onMessage_owing {α : Type} {act : α → State → State} (h : ∀ m u, Owing 1 u → Owing 0 (act m u)) (pr : Parser α)
    (kind tag : Byte) (p : List Byte) (s : State) : Keeps (Owing 0) s (onMessage kind tag pr p act s) := by
  refine onFrame_owing (fun u hu => ?_) kind tag p s
  split
  · exact h _ u hu
  · exact (Answers.reply (.refl u)).settles hu

/-! ## The whole invariant, from one state to another -/

/-- The counts and the flags between events. -/
abbrev Ordered (s : State) : Prop := Owing 0 s ∧ Rested s

theorem Undisturbed.ordered {s t : State} (h : Undisturbed s t) (k : Keeps (Owing 0) s t) : Keeps Ordered s t :=
  fun ⟨owing, rested⟩ => ⟨k owing, fun hi hd => h.unset (rested (h.pln ▸ hi) (h.pln ▸ hd))⟩

theorem Ordered.settle {before s t : State} (k : Keeps (Owing 0) s t) : Keeps Ordered s (settle before t) :=
  fun ⟨owing, _⟩ => settle_ends before (k owing)

theorem Keeps.next {P : State → Prop} {s u t : State} (k : Keeps P s u)
    (h : (.next u : Host.Outcome State Fault Refusal) = .next t) : Keeps P s t := by
  cases h
  exact k

/-- A message that settles, answered once. -/
theorem ordered_of_message {α : Type} {act : α → State → State} (k : ∀ m u, Answers 1 u (act m u)) {pr : Parser α}
    {kind tag : Byte} {p : List Byte} {s t : State}
    (h : (.next (settle s (onMessage kind tag pr p act s)) : Host.Outcome State Fault Refusal) = .next t) :
    Keeps Ordered s t :=
  (Ordered.settle (onMessage_owing (fun m u => (k m u).settles) pr kind tag p s)).next h

/-- A message that disturbs nothing, answered once. -/
theorem ordered_of_read {α : Type} {act : α → State → State} (k : ∀ m u, Answers 1 u (act m u))
    (q : ∀ m u, Undisturbed u (act m u)) {pr : Parser α} {kind tag : Byte} {p : List Byte} {s t : State}
    (h : (.next (onMessage kind tag pr p act s) : Host.Outcome State Fault Refusal) = .next t) : Keeps Ordered s t :=
  ((onMessage_undisturbed q pr kind tag p s).ordered (onMessage_owing (fun m u => (k m u).settles) pr kind tag p s)).next h

/-- A frame whose owner disturbs nothing. -/
theorem ordered_of_frame {act : State → State} (k : ∀ u, Answers 1 u (act u)) (q : ∀ u, Undisturbed u (act u))
    {kind tag : Byte} {p : List Byte} {s t : State}
    (h : (.next (onFrame kind tag p act s) : Host.Outcome State Fault Refusal) = .next t) : Keeps Ordered s t :=
  ((onFrame_undisturbed q kind tag p s).ordered (onFrame_owing (fun u => (k u).settles) kind tag p s)).next h

theorem ordered_of_due {act : State → State} (k : ∀ u, Answers 0 u (act u)) {d : DueKind} {s t : State}
    (h : (.next (onDue d act s) : Host.Outcome State Fault Refusal) = .next t) : Keeps Ordered s t := by
  refine Keeps.next ?_ h
  unfold onDue
  obtain ⟨-, e⟩ | ⟨-, e⟩ := takeDue_cases d s
  · rw [e]
    exact Ordered.settle (Answers.owing (.trans .none (k _)))
  · rw [e]
    exact .refl s

theorem takeDelay_owing {d : DelayKind} {s t : State} (h : takeDelay d s = some t) : Keeps (Owing 0) s t := by
  rw [(takeDelay_keeps h).1]
  exact fun hs => hs.clocked (f := fun c => { c with sub := t.clk.sub, delays := t.clk.delays }) id

theorem ordered_of_delay {act : State → State} (k : ∀ u, Answers 0 u (act u)) {d : DelayKind} {s t : State}
    (h : (.next (onDelay d act s) : Host.Outcome State Fault Refusal) = .next t) : Keeps Ordered s t := by
  refine Keeps.next ?_ h
  unfold onDelay
  split
  · exact .refl s
  · exact Ordered.settle ((takeDelay_owing ‹_›).trans (k _).owing)

/-! ## The Clock Unit (R1, R6 to R10, R14, R15) -/

/-- A clock that is set, or being set, is set (R6 to R8). -/
theorem clockAfter_set (m : TimeSetMsg) (c : Clock) : (clockAfter m c).cstate ≠ .unset := by
  show (setCount m.time c).cstate ≠ .unset
  cases hc : c.cstate with
  | unset =>
    rw [setCount_unset hc]
    exact nofun
  | running | slewing =>
    rw [setCount_set (by simp [hc])]
    unfold stepClock slewClock
    repeat' split
    all_goals simp

theorem timeSet_settles (tag : Byte) (m : TimeSetMsg) (s : State) (h : Owing 1 s) : Owing 0 (timeSet tag m s) := by
  have taken : Owing 0 (takeTimeSet tag m s) := by
    have set := h.clocked (f := fun _ => clockAfter m s.clk) (fun unset => absurd unset (clockAfter_set m s.clk))
    rw [takeTimeSet_eq]
    exact (Answers.reply ((submitFree_answers _ _).trans ((setDirtyIf_answers _ _).trans (retestStandby_answers _ _)))).settles set
  have refused : Owing 0 (refuse 0x10 tag .badField s) := (Answers.reply (.refl s)).settles h
  unfold timeSet
  repeat' split
  · exact refused
  · exact taken
  · exact taken

theorem slewTo_set {r : Int} {c : Clock} (h : (slewTo r c).cstate = .unset) : c.cstate = .unset := by
  revert h
  unfold slewTo
  dsimp only
  split
  · exact nofun
  · exact id

theorem crystalSecond_set {c : Clock} (h : (crystalSecond c).cstate = .unset) : c.cstate = .unset := by
  obtain ⟨e, -⟩ | ⟨-, q⟩ | ⟨-, -, q⟩ | ⟨-, -, -, q⟩ | ⟨-, -, -, q⟩ := crystalSecond_cases c
  · exact e
  all_goals rw [q] at h
  · exact h
  · exact h
  · exact slewTo_set h
  · exact slewTo_set h

theorem handRollover_owing (s : State) : Keeps (Owing 0) s (handRollover s) := by
  have purged (u : State) : Answers 0 u (purgeGuide u) := removeRecs_answers _ u
  have bumped : Answers 0 s (bumpFree s) := .none
  exact .ite (setDirty_answers s).owing (.ite ((bumped.trans (purged _)).trans (setDirty_answers _)).owing
    (((bumped.trans (setDirty_answers _)).owing.trans (beginPass_owing _)).trans (purged _).owing))

theorem execDayRollover_ordered {s t : State} (h : execDayRollover s = .next t) : Keeps Ordered s t := by
  unfold execDayRollover at h
  split at h
  · exact Keeps.next (.refl s) h
  · exact (Ordered.settle (fun hs => handRollover_owing _ (hs.clocked id))).next h

theorem execOffsetChange_ordered {s t : State} (h : execOffsetChange s = .next t) : Keeps Ordered s t := by
  unfold execOffsetChange at h
  split at h
  · rename_i ch _ _
    have logged (u : State) : Answers 0 u (if ch.offset = s.clk.offset then u else submit (clockCond .offsetChanged) u) :=
      .ite (.refl u) (submit_answers _ u)
    exact (Ordered.settle (fun hs => ((logged _).trans (setDirty_answers _)).owing
      (hs.clocked (f := applyChange ch) id))).next h
  · exact Keeps.next (.refl s) h

/-! ## The resets (R16, R116, R165, R209) -/

/-- The Link Port and the Planner after every reset (R116, R209). -/
theorem owing_fresh {s : State} {b : List Byte} {d : Bool} (hl : s.lnk = { freshLink with txd := b })
    (hp : s.pln = { freshPlanner with dirty := d }) : Owing 0 s where
  inHand := by simp [hl, freshLink]
  few := by simp [hl, freshLink]
  held := by simp [hl, freshLink]
  waiting := by simp [hl, freshLink]
  notices := by simp [hl, freshLink]
  flags := by
    rw [hp]
    exact ⟨by simp [freshPlanner], nofun, fun _ => rfl, by simp [freshPlanner], by simp [freshPlanner]⟩
  clock := by simp [hp, freshPlanner]

theorem startKeepalive_owing (s : State) : Keeps (Owing 0) s (startKeepalive s) := by
  unfold startKeepalive
  split
  · exact Answers.owing .none
  · exact .refl s

theorem execWarmReset_ordered {s t : State} (h : execWarmReset s = .next t) : Keeps Ordered s t := by
  unfold execWarmReset at h
  split at h
  · refine Keeps.next (fun _ => ⟨?_, beginPass_waits⟩) h
    exact beginPass_owing _ (startKeepalive_owing _ (owing_fresh rfl rfl))
  · exact Keeps.next (.refl s) h

theorem execColdReset_ordered {s t : State} (h : execColdReset s = .next t) : Keeps Ordered s t := by
  unfold execColdReset at h
  split at h
  · refine Keeps.next (fun _ => ⟨startKeepalive_owing _ (owing_fresh rfl rfl), fun _ hd => ?_⟩) h
    simp [freshPlanner] at hd
  · exact Keeps.next (.refl s) h

/-! ## The install (R110, R112 to R114, R136) -/

theorem removeInst_answers (iid : Nat) (s : State) : Answers 0 s (removeInst iid s) := by
  unfold removeInst
  split
  · exact .refl s
  · exact .ite (.trans .none (leaveList_answers _ _)) (.refl s)

theorem makeRoom_answers (a : InstallAcc) : Answers 0 a.s (makeRoom a).s := by
  unfold makeRoom
  repeat' split
  · exact .refl _
  · exact .refl _
  · exact leaveList_answers _ _

theorem createOne_answers (cands : List Cand) (a : InstallAcc) (kc : Nat × Creation) :
    Answers 0 a.s (createOne cands a kc).s := by
  unfold createOne
  dsimp only
  repeat' split
  · exact .refl _
  · exact (makeRoom_answers a).trans .none
  · exact makeRoom_answers a
  · exact .refl _

theorem refreshOne_answers (s : State) (c : Cand) : Answers 0 s (refreshOne s c) := by
  unfold refreshOne rewriteInst
  repeat' split
  all_goals exact .none

theorem refreshRunning_answers (s : State) (r : Refresh) : Answers 0 s (refreshRunning s r) := by
  unfold refreshRunning
  repeat' split
  all_goals exact .none

theorem applyExpansion_answers (r : PassResult) (cands : List Cand) (s : State) :
    Answers 0 s (applyExpansion r cands s).s :=
  (Answers.foldl (fun u iid => removeInst_answers iid u) _ s).trans
    ((Answers.foldl refreshOne_answers _ _).trans ((Answers.foldl refreshRunning_answers _ _).trans
      (Answers.foldl_of InstallAcc.s (createOne_answers cands) _ ⟨_, [], []⟩)))

theorem writeRunning_answers (p : Snapshot) (w : Work) (s : State) (iid : Nat) :
    Answers 0 s (writeRunning p w s iid) := by
  unfold writeRunning
  repeat' split
  case isFalse => exact .trans .none (setDirtyIf_answers _ _)
  all_goals exact .none

theorem writePlaced_answers (since : List Occ) (m : Merge) (x : Placed) :
    Answers 0 m.a.s (writePlaced since m x).a.s := by
  unfold writePlaced
  split
  · exact .refl _
  · split
    · split
      · exact .none
      · exact .trans .none (setDirty_answers _)
    · exact .refl _

theorem writeLost_answers (a : InstallAcc) (x : LostCand) : Answers 0 a.s (writeLost a x).s := by
  unfold writeLost
  repeat' split
  all_goals exact .none

theorem writeShort_answers (ids : List (Nat × Nat)) (s : State) (c : Cand) : Answers 0 s (writeShort ids s c) := by
  unfold writeShort
  repeat' split
  all_goals exact .none

theorem applyPlan_answers (p : Snapshot) (r : PassResult) (a : InstallAcc) : Answers 0 a.s (applyPlan p r a).s :=
  (Answers.foldl (writeRunning_answers p r.work) _ a.s).trans
    ((Answers.foldl_of (fun m : Merge => m.a.s) (writePlaced_answers _) _ ⟨{ a with s := _ }, _⟩).trans
      ((Answers.foldl_of InstallAcc.s writeLost_answers _ _).trans (.foldl (writeShort_answers _) _ _)))

theorem applyMarks_answers (p : Snapshot) (r : PassResult) (a : InstallAcc) : Answers 0 a.s (applyMarks p r a).s :=
  .none rfl rfl rfl rfl rfl rfl

theorem applyBookings_answers (r : PassResult) (a : InstallAcc) : Answers 0 a.s (applyBookings r a).s := by
  have updated (b : InstallAcc) (x : BookingResult) : Answers 0 b.s (applyUpdate b x).s := by
    unfold applyUpdate
    split
    · exact .none rfl rfl rfl rfl rfl rfl
    · exact .refl _
  have spent (u : State) (x : BookingResult) : Answers 0 u (applySpent u x) := by
    unfold applySpent
    repeat' split
    all_goals exact .none
  exact (Answers.foldl_of InstallAcc.s updated _ a).trans (.foldl spent _ _)

theorem syncInst_answers (s : State) (iid : Nat) : Answers 0 s (syncInst s iid) := by
  unfold syncInst syncPlanned
  dsimp only
  repeat' split
  all_goals exact .none

theorem syncClaim_answers (before s : State) (c : Claim) : Answers 0 s (syncClaim before s c) := by
  unfold syncClaim
  dsimp only
  repeat' split
  all_goals exact .none

theorem takeFresh_answers {act : State → State} (h : ∀ u, Answers 0 u (act u)) (before : List DueReq) (k : DueKind)
    (s : State) : Answers 0 s (takeFresh before k act s) := by
  unfold takeFresh
  split
  · exact .refl s
  · refine .ite ?_ (.refl s)
    obtain ⟨-, e⟩ | ⟨-, e⟩ := takeDue_cases k s
    · rw [e]
      exact .trans .none (h _)
    · rw [e]
      exact .refl s

theorem takeFreshInst_answers (before : List DueReq) (s : State) (iid : Nat) :
    Answers 0 s (takeFreshInst before s iid) :=
  (takeFresh_answers (takeWindowStart_answers iid) _ _ s).trans ((takeFresh_answers (takeCoreEnd_answers iid) _ _ _).trans
    ((takeFresh_answers (enterStopping_answers _ iid) _ _ _).trans (takeFresh_answers (takeWindowClose_answers iid) _ _ _)))

theorem handOff_answers (before s : State) : Answers 0 s (handOff before s) :=
  (Answers.foldl syncInst_answers _ s).trans ((Answers.foldl (syncClaim_answers before) _ _).trans
    ((Answers.foldl (fun u (c : Claim) => takeFresh_answers (takeYieldWarning_answers c.id) _ _ u) _ _).trans
      (.foldl (takeFreshInst_answers _) _ _)))

theorem resulting_answers (p : Snapshot) (s : State) : Answers 0 s (resulting p s) :=
  (applyExpansion_answers (planPass p) _ s).trans ((applyPlan_answers p _ _).trans
    ((applyMarks_answers p _ _).trans ((applyBookings_answers _ _).trans (submitFree_answers _ _))))

/-- The generation stays a number of 32 bits, and the clash list within its bound (R110, R136). -/
theorem renewing_owing (p : Snapshot) (s : State) : Keeps (Owing 0) (resulting p s) (renewing p s) := fun h =>
  ⟨h.inHand, h.few, h.held, h.waiting, h.notices,
    ⟨h.flags.snapshot, h.flags.again, h.flags.dirty, Nat.mod_lt _ (by decide), clashList_length_le _ _ _⟩, h.clock⟩

theorem handing_answers (p : Snapshot) (s : State) : Answers 0 (renewing p s) (handing p s) :=
  (Answers.ite (postNotice_answers _ _) (.refl _)).trans ((handOff_answers s _).trans (retryStarts_answers s _))

/-- Every held query is answered, so none waits for the pass that ends; the next one begins at once where the again flag
stood (R112, R114). -/
theorem endPass_owing {s : State} (h : Owing 0 s) (pass : s.pln.passState = .pass) :
    Owing 0 (endPass (answerAllHeld s)) := by
  obtain ⟨rs, tags, e⟩ := answerAllHeld_replies s
  have every : rs.length = s.lnk.held.length := by simpa using congrArg List.length tags
  have inHand := h.inHand
  have answered : s.lnk.inHand = (s.lnk.tx ++ rs).length + ([] : List HeldQuery).length + 0 := by simp [every, inHand]
  rw [e]
  unfold endPass
  split
  · exact ⟨answered, h.few, Nat.zero_le _, nofun, h.notices,
      ⟨by simp [pass], nofun, nofun, h.flags.generation, h.flags.clashes⟩, h.clock⟩
  · rename_i idle
    exact ⟨answered, h.few, Nat.zero_le _, nofun, h.notices,
      ⟨by simp, fun ha => absurd ha idle, nofun, h.flags.generation, h.flags.clashes⟩, nofun⟩

theorem execInstall_ordered {s t : State} (h : execInstall s = .next t) : Keeps Ordered s t := by
  unfold execInstall at h
  split at h
  · rename_i p pass _
    refine Keeps.next (fun hs => settleOutputs_ends s ?_) h
    have handed : Owing 0 (handing p s) :=
      (((resulting_answers p s).owing.trans (renewing_owing p s)).trans (handing_answers p s).owing) hs.1
    rw [installPass_eq]
    exact endPass_owing handed (handing_renewed p pass).1
  · exact Keeps.next (.refl s) h

/-! ## The events of the line (R196 to R201) -/

section Line

variable {s t : State} {kind tag : Byte} {p : List Byte}

/-- GUIDE_PUT judges the clock before its payload (log entry 13). -/
theorem execGuidePut_ordered (h : execGuidePut tag p s = .next t) : Keeps Ordered s t := by
  refine (Ordered.settle (onFrame_owing (fun u => Answers.settles ?_) _ _ _ s)).next h
  refine .ite ?_ (.reply (.refl u))
  split
  · exact .reply (.refl u)
  · exact .ite (.reply (.refl u)) (guidePut_answers tag _ u)

/-- The reply BAD_CHECK is counted among the frames in hand as it is made (R198). -/
theorem execBadCheck_ordered {check : BitVec 16} (h : execBadCheck kind tag p check s = .next t) : Keeps Ordered s t := by
  refine (execBadCheck_undisturbed h).ordered ?_
  unfold execBadCheck at h
  have arrived : Keeps (Owing 0) s (frameArrived kind tag p check s) := Answers.owing (.none rfl rfl rfl rfl rfl rfl)
  dsimp only at h
  split at h
  · exact Keeps.next (.refl s) h
  · split at h
    · exact arrived.next h
    · rename_i room
      refine Keeps.next (fun hs => ?_) h
      obtain ⟨inHand, -, held, waiting, notices, flags, clock⟩ := arrived hs
      exact ⟨by simp [answerBadCheck, pushReply, inHand]; omega, inHand_lt_of_taken room, held, waiting, notices, flags, clock⟩

theorem execBadKind_ordered (h : execBadKind kind tag p s = .next t) : Keeps Ordered s t := by
  unfold execBadKind at h
  split at h
  · exact Keeps.next (.refl s) h
  · exact ordered_of_frame (act := answerBadKind kind tag) (fun u => .reply (.refl u)) (fun _ => .same) h

theorem execFrameDiscardedInHand_ordered (h : execFrameDiscardedInHand kind tag p s = .next t) : Keeps Ordered s t := by
  refine (execFrameDiscardedInHand_undisturbed h).ordered ?_
  unfold execFrameDiscardedInHand at h
  split at h
  · exact Keeps.next (.refl s) h
  · cases h
    exact Answers.owing (.none rfl rfl rfl rfl rfl rfl)

theorem execLineFramingError_ordered {bs : List Byte} (h : execLineFramingError bs s = .next t) : Keeps Ordered s t := by
  refine (execLineFramingError_undisturbed h).ordered ?_
  unfold execLineFramingError at h
  split at h
  · exact Keeps.next (.refl s) h
  · cases h
    exact Answers.owing (.none rfl rfl rfl rfl rfl rfl)

theorem interByteEnd_owing (s : State) : Keeps (Owing 0) s (interByteEnd s) := by
  have started : Keeps (Owing 0) s (startDelay .interByte Config.interByteUnits s) := Answers.owing .none
  unfold interByteEnd
  dsimp only
  cases e : takeDelay .interByte (startDelay .interByte Config.interByteUnits s) with
  | none => exact started.trans (Answers.owing .none)
  | some u => exact started.trans (takeDelay_owing e)

theorem execInterByteTimeout_ordered {bs : List Byte} (h : execInterByteTimeout bs s = .next t) : Keeps Ordered s t := by
  refine (execInterByteTimeout_undisturbed h).ordered ?_
  unfold execInterByteTimeout at h
  split at h
  · exact Keeps.next (.refl s) h
  · rename_i rx _
    have hunting : Keeps (Owing 0) s (modLnk (fun l => { l with rx := toHunt rx }) s) :=
      Answers.owing (.none rfl rfl rfl rfl rfl rfl)
    split at h
    · exact Keeps.next (.refl s) h
    · exact (hunting.trans (interByteEnd_owing _)).next h

/-- A reply that has been sent leaves the frames in hand (R201). -/
theorem execReplySent_ordered (h : execReplySent s = .next t) : Keeps Ordered s t := by
  refine (execReplySent_undisturbed h).ordered ?_
  unfold execReplySent at h
  split at h
  · exact Keeps.next (.refl s) h
  · exact Keeps.next (.refl s) h
  · rename_i first _
    refine Keeps.next (fun hs => ?_) h
    have inHand := hs.inHand
    have few := hs.few
    rw [first] at inHand
    simp only [List.length_cons] at inHand
    exact ⟨by simp; omega, by simp; omega, hs.held, hs.waiting, hs.notices, hs.flags, hs.clock⟩

theorem execFrameLengthExceeds512_ordered {high low : Byte} (h : execFrameLengthExceeds512 high low s = .next t) :
    Keeps Ordered s t := by
  refine (execFrameLengthExceeds512_undisturbed h).ordered ?_
  unfold execFrameLengthExceeds512 at h
  split at h
  · cases h
    exact Answers.owing (.none rfl rfl rfl rfl rfl rfl)
  · exact Keeps.next (.refl s) h

end Line

/-! ## Every command -/

/-- One command keeps the counts and the flags: a message is answered once, an event of the part's own is owed no answer, and
whatever may set the dirty flag settles at its end. -/
theorem exec_ordered (c : Instr) {s t : State} (h : exec c s = .next t) : Keeps Ordered s t := by
  cases c with
  | powerOn =>
    cases h
    exact fun _ => ⟨owing_fresh rfl rfl, nofun⟩
  | warmReset => exact execWarmReset_ordered h
  | coldReset => exact execColdReset_ordered h
  | crystalSecond =>
    exact ((crystalSecond_requests s.clk).undisturbed.ordered (fun hs => hs.clocked crystalSecond_set)).next h
  | dayRollover => exact execDayRollover_ordered h
  | offsetChange => exact execOffsetChange_ordered h
  | timeSet tag p => exact (Ordered.settle (onMessage_owing (timeSet_settles tag) _ _ _ _ s)).next h
  | timeGet tag p => exact ordered_of_read (fun _ u => timeGet_answers tag u) (fun _ u => pushReply_undisturbed _ u) h
  | guidePut tag p => exact execGuidePut_ordered h
  | guideDropKeys tag p => exact ordered_of_message (guideDrop_answers tag) h
  | guideDropService tag p => exact ordered_of_message (guideDrop_answers tag) h
  | eventStatus tag p => exact ordered_of_message (eventStatus_answers tag) h
  | guideGetEvent tag p => exact ordered_of_frame (guideGet_answers tag p) (fun u => guideGet_undisturbed tag u p) h
  | guideGetSummary tag p => exact ordered_of_frame (guideGet_answers tag p) (fun u => guideGet_undisturbed tag u p) h
  | bookEvent tag p => exact ordered_of_message (bookEvent_answers tag) h
  | bookSeries tag p => exact ordered_of_message (bookSeries_answers tag) h
  | bookManual tag p => exact ordered_of_message (bookManual_answers tag) h
  | bookChange tag p => exact ordered_of_message (bookChange_answers tag) h
  | bookSuspend tag p => exact ordered_of_message (moveBooking_answers _ tag _) h
  | bookResume tag p => exact ordered_of_message (moveBooking_answers _ tag _) h
  | bookDelete tag p => exact ordered_of_message (bookDelete_answers tag) h
  | bookGet tag p => exact ordered_of_read (bookGet_answers tag) (fun n u => bookGet_undisturbed tag u n) h
  | bookList tag p => exact ordered_of_read (bookList_answers tag) (fun n u => bookList_undisturbed tag u n) h
  | historyAdd tag p => exact ordered_of_message (historyAdd_answers tag) h
  | historyDropPair tag p => exact ordered_of_message (historyDrop_answers tag) h
  | historyDropSeries tag p => exact ordered_of_message (historyDrop_answers tag) h
  | historyGet tag p => exact ordered_of_read (historyGet_answers tag) (fun m u => historyGet_undisturbed tag u m) h
  | instanceGet tag p => exact ordered_of_read (instanceGet_answers tag) (fun n u => instanceGet_undisturbed tag u n) h
  | planGet tag p => exact ordered_of_read (planGet_answers tag) (fun m u => planGet_undisturbed tag u m) h
  | outcomeTake tag p => exact ordered_of_message (outcomeTake_answers tag) h
  | clashGet tag p => exact ordered_of_read (clashGet_answers tag) (fun n u => clashGet_undisturbed tag u n) h
  | install => exact execInstall_ordered h
  | windowStart n => exact ordered_of_due (takeWindowStart_answers n) h
  | coreEnd n => exact ordered_of_due (takeCoreEnd_answers n) h
  | heldStartLimit n => exact ordered_of_due (takeHeldLimit_answers n) h
  | stopMoment n => exact ordered_of_due (fun u => enterStopping_answers _ n u) h
  | overrunCap n => exact ordered_of_due (takeOverrunCap_answers n) h
  | startConfirmTimeout n => exact ordered_of_delay (takeStartTimeout_answers n) h
  | stopConfirmTimeout n => exact ordered_of_delay (takeStopTimeout_answers n) h
  | recReportStarted tag p => exact ordered_of_message (recReport_answers tag) h
  | recReportStartFailed tag p => exact ordered_of_message (recReport_answers tag) h
  | recReportStopped tag p => exact ordered_of_message (recReport_answers tag) h
  | viewClaimNew tag p => exact ordered_of_message (viewClaim_answers tag) h
  | viewClaimChange tag p => exact ordered_of_message (viewClaim_answers tag) h
  | viewRelease tag p => exact ordered_of_message (viewRelease_answers tag) h
  | yieldWarning n => exact ordered_of_due (takeYieldWarning_answers n) h
  | lockGraceEnd u => exact ordered_of_due (takeGraceEnd_answers u) h
  | lockMonitorTick u locked => exact ordered_of_delay (takeTick_answers u locked) h
  | lockAbandon u => exact ordered_of_due (takeAbandon_answers u) h
  | windowClose n => exact ordered_of_due (takeWindowClose_answers n) h
  | keepaliveExpiry => exact ordered_of_delay takeKeepalive_answers h
  | wakeDue => exact ordered_of_due takeWakeDue_answers h
  | wakeTimeout => exact ordered_of_delay takeWakeTimeout_answers h
  | resetPulseEnd => exact ordered_of_delay (fun _ => .none) h
  | hello tag p =>
    exact Keeps.next (fun hs => settleOutputs_ends s
      (onMessage_owing (fun _ u => (hello_answers tag u).settles) _ _ _ _ s hs.1)) h
  | standby tag p => exact ordered_of_message (fun _ u => standby_answers tag u) h
  | causeClear tag p => exact ordered_of_read (fun _ u => causeClear_answers tag u) (fun _ _ => .same) h
  | resetPart tag p => exact ordered_of_read (resetPart_answers tag) (fun n u => resetPart_undisturbed tag u n) h
  | condRead tag p => exact ordered_of_read (condRead_answers tag) (fun n u => condRead_undisturbed tag u n) h
  | condClear tag p => exact ordered_of_read (condClear_answers tag) (fun m u => condClear_undisturbed tag u m) h
  | condConfig tag p => exact ordered_of_read (condConfig_answers tag) (fun m u => condConfig_undisturbed tag u m) h
  | noticeFetch tag p => exact ordered_of_message (fun _ u => noticeFetch_answers tag u) h
  | actionsGet tag p => exact ordered_of_read (fun _ u => actionsGet_answers tag u) (fun _ u => pushReply_undisturbed _ u) h
  | configSet tag p => exact ordered_of_message (configSet_answers tag) h
  | configGet tag p =>
    exact ordered_of_frame (fun u => configGet_answers tag _ u) (fun u => configGet_undisturbed tag u _) h
  | badCheck kind tag p check => exact execBadCheck_ordered h
  | badKind kind tag p => exact execBadKind_ordered h
  | frameDiscardedInHand kind tag p => exact execFrameDiscardedInHand_ordered h
  | lineFramingError bs => exact execLineFramingError_ordered h
  | interByteTimeout bs => exact execInterByteTimeout_ordered h
  | replySent => exact execReplySent_ordered h
  | frameLengthExceeds512 high low => exact execFrameLengthExceeds512_ordered h

/-- Settles O53: a step takes a command off the queue, which neither the counts nor the flags speak of, and the command keeps
them. -/
theorem stepsKeepTheLinkAndThePlanner : Obligations.StepsKeepTheLinkAndThePlanner := by
  intro s t hs h
  rw [linkAndPlannerKept_iff] at hs ⊢
  unfold step at h
  split at h
  · cases h
    exact hs
  · rename_i c rest _
    obtain ⟨⟨inHand, few, held, waiting, notices, flags, clock⟩, rested⟩ := hs
    exact exec_ordered c (s := { s with pending := rest }) h
      ⟨⟨inHand, few, held, waiting, notices, flags, clock⟩, rested⟩

end Sys2Proof.Machine

/-! PROOFS. The pass of the counterexample to O58: a snapshot from which more recordings are created than there are ids.
Nothing in `PlanKept` bounds the recordings of a snapshot, so 65,536 terminal ones may leave room for as many creations
(R74). -/

namespace Sys2Proof.Machine

-- one theorem after another: many at a time would want a thread each
set_option Elab.async false

open Sys2Proof

/-! ## Sorted lists stay as they are -/

theorem insertBy_last {α : Type} {lt : α → α → Bool} {x : α} {xs : List α} (h : ∀ y ∈ xs, lt x y = false) :
    insertBy lt x xs = xs ++ [x] := by
  induction xs with
  | nil => rfl
  | cons y ys ih =>
    rw [insertBy, if_neg (by simp [h y List.mem_cons_self]), ih (fun z hz => h z (List.mem_cons_of_mem y hz))]
    rfl

theorem sortBy_append_singleton {α : Type} (lt : α → α → Bool) (xs : List α) (x : α) :
    sortBy lt (xs ++ [x]) = insertBy lt x (sortBy lt xs) := by
  simp [sortBy]

/-- A list in which no later element comes before an earlier one is sorted. -/
theorem sortBy_sorted {α : Type} {lt : α → α → Bool} {xs : List α} (h : xs.Pairwise (fun a b => lt b a = false)) :
    sortBy lt xs = xs := by
  induction xs using List.reverseRecOn with
  | nil => rfl
  | append_singleton xs x ih =>
    obtain ⟨front, -, last⟩ := List.pairwise_append.mp h
    rw [sortBy_append_singleton, ih front, insertBy_last (fun y hy => last y hy x List.mem_cons_self)]

theorem numbered_append {α : Type} (k : Nat) (xs ys : List α) :
    numbered k (xs ++ ys) = numbered k xs ++ numbered (k + xs.length) ys := by
  induction xs generalizing k with
  | nil => rfl
  | cons x xs ih =>
    rw [List.cons_append, numbered, ih, numbered, List.length_cons, Nat.add_assoc, Nat.add_comm 1]
    rfl

theorem numbered_replicate {α : Type} (k n : Nat) (x : α) :
    numbered k (List.replicate n x) = (List.range' k n).map (fun j => (j, x)) := by
  induction n generalizing k with
  | zero => rfl
  | succ n ih => rw [List.replicate_succ, numbered, ih, List.range'_succ, List.map_cons]

/-! ## The snapshot -/

/-- An EVENT booking whose event the guide does not hold, with its held timing (R62). -/
def eventBooking (id priority prePad start dur : Nat) : Booking :=
  { id := id, part := .event { service := 10, event := id }
      { mux := 20, start := start, dur := dur, series := none, episode := none } false
    bstate := .active, priority := priority, prePad := prePad, postPad := 0, follow := false, minFraction := 500 }

/-- The booking whose recording ends last. -/
def longBooking : Booking := eventBooking 1 4 0 99000 5000

/-- The booking of the many recordings that are too short to be placed (R99). -/
def shortBooking : Booking := eventBooking 2 1 0 99900 162

/-- The booking that starts last and goes first in the order of R100. -/
def lateBooking : Booking := eventBooking 3 7 200 100100 1800

/-- A recording that is DONE, of a booking that is gone. -/
def doneInst (iid : Nat) : Inst :=
  { id := iid, booking := 0, origin := .day 0, episode := none, service := 10, mux := 20, start := 0, dur := 60
    prePad := 0, postPad := 0, window := none, tuner := none, verdict := none, planPriority := none, state := .done
    alts := [], segments := [], gapTenths := 0, stopReason := none, overrun := none, cutBy := none, startHeld := false
    runEnd := none, outcome := none, stopAt := none, stopFixed := false, raiseDue := false, entries := 0 }

/-- A snapshot of `m` DONE recordings, with `n` copies of one booking between two others. -/
def crowdedSnapshot (n m : Nat) : Snapshot :=
  { bookings := longBooking :: List.replicate n shortBooking ++ [lateBooking], guide := [], history := []
    insts := (List.range m).map doneInst, claims := [], tunerA := idleTuner, tunerB := idleTuner
    now := 100000, offset := 0, change := none }

/-- What an EVENT booking of the snapshot asks for (R62). -/
def eventCreation (id start dur : Nat) : Creation :=
  { booking := id, origin := .event { service := 10, event := id }, episode := none, service := 10, mux := 20
    start := start, dur := dur, alts := [] }

def longCreation : Creation := eventCreation 1 99000 5000
def shortCreation : Creation := eventCreation 2 99900 162
def lateCreation : Creation := eventCreation 3 100100 1800

/-- A creation as the pass works on it: all have the untrimmed W_s 100,005 (R98, R100). -/
def eventCand (pid id priority prePad start dur : Nat) : Cand :=
  { pid := pid, booking := id, priority := priority, minFraction := 500, origin := .event { service := 10, event := id }
    service := 10, mux := 20, start := start, dur := dur, prePad := prePad, postPad := 0, alts := [], key := 100005 }

def longCand : Cand := eventCand 65536 1 4 0 99000 5000
def shortCand (k : Nat) : Cand := eventCand (creationPid k) 2 1 0 99900 162
def lateCand (n : Nat) : Cand := eventCand (creationPid (n + 1)) 3 7 200 100100 1800

/-- The recordings that are too short to be placed (R99). -/
def shortCands (n : Nat) : List Cand := (List.range' 1 n).map shortCand

/-! ## Expansion (R58, R62, R70, R74) -/

/-- The result of an EVENT booking that is created once. -/
def createdOnce (id : Nat) (c : Creation) : BookingResult :=
  { booking := id, creations := [c], refreshes := [], removals := [], update := some none, spent := false
    limited := false }

variable {n m : Nat}

theorem instsOf_crowded {b : Booking} (hb : b.id ≠ 0) : instsOf (crowdedSnapshot n m) b = [] := by
  simp [instsOf, crowdedSnapshot, doneInst, hb.symm]

/-- An EVENT booking without a recording asks for one at its held timing, while that is eligible (R62). -/
theorem expandBooking_crowded {id priority prePad start dur : Nat} (hid : id ≠ 0) (eligible : 100060 < start + dur) :
    expandBooking (crowdedSnapshot n m) (eventBooking id priority prePad start dur) =
      some (createdOnce id (eventCreation id start dur)) := by
  have insts := instsOf_crowded (n := n) (m := m) (b := eventBooking id priority prePad start dur) hid
  have live : liveOf (crowdedSnapshot n m) (eventBooking id priority prePad start dur) = [] := by simp [liveOf, insts]
  let last : LastKnown := { mux := 20, start := start, dur := dur, series := none, episode := none }
  have first : firstEvent (crowdedSnapshot n m) (eventBooking id priority prePad start dur)
      { service := 10, event := id } last = [eventCreation id start dur] := if_pos (decide_eq_true eligible)
  have made : expandEvent (crowdedSnapshot n m) (eventBooking id priority prePad start dur)
      { service := 10, event := id } last = createdOnce id (eventCreation id start dur) := by
    unfold expandEvent
    rw [first, insts, live]
    rfl
  show some (limitBooking _ _ (expandEvent _ _ _ last)) = _
  rw [made]
  simp [limitBooking, live, createdOnce]

theorem expand_crowded : (expand (crowdedSnapshot n m)).results =
    createdOnce 1 longCreation :: List.replicate n (createdOnce 2 shortCreation) ++ [createdOnce 3 lateCreation] := by
  have long : expandBooking (crowdedSnapshot n m) longBooking = some (createdOnce 1 longCreation) :=
    expandBooking_crowded (by decide) (by decide)
  have short : expandBooking (crowdedSnapshot n m) shortBooking = some (createdOnce 2 shortCreation) :=
    expandBooking_crowded (by decide) (by decide)
  have late : expandBooking (crowdedSnapshot n m) lateBooking = some (createdOnce 3 lateCreation) :=
    expandBooking_crowded (by decide) (by decide)
  show (longBooking :: List.replicate n shortBooking ++ [lateBooking]).filterMap
    (expandBooking (crowdedSnapshot n m)) = _
  rw [List.filterMap_append, List.filterMap_cons_some long, List.filterMap_replicate_of_some short,
    List.filterMap_cons_some late]
  rfl

/-- The creations asked for, which are in the order of R74 already. -/
def crowd (n : Nat) : List Creation := longCreation :: List.replicate n shortCreation ++ [lateCreation]

theorem crowd_sorted : sortBy creationLt (crowd n) = crowd n := by
  refine sortBy_sorted ?_
  have short {c : Creation} (hc : c ∈ List.replicate n shortCreation) : c = shortCreation := List.eq_of_mem_replicate hc
  refine List.pairwise_append.mpr ⟨List.pairwise_cons.mpr ⟨fun c hc => ?_, ?_⟩, List.pairwise_singleton _ _, ?_⟩
  · rw [short hc]
    rfl
  · exact List.pairwise_replicate.mpr (.inr rfl)
  · intro c hc d hd
    rw [List.mem_singleton.mp hd]
    obtain rfl | hc := List.mem_cons.mp hc
    · rfl
    · rw [short hc]
      rfl

/-- Room for every creation (R74). -/
theorem granted_crowded (hm : n + 2 ≤ m) : (expand (crowdedSnapshot n m)).granted = crowd n := by
  have asked : (expand (crowdedSnapshot n m)).results.flatMap (fun r => r.creations) = crowd n := by
    rw [expand_crowded]
    simp [createdOnce, crowd, List.flatMap_cons, List.flatMap_append, List.flatMap_replicate]
  have room : (crowd n).length ≤ roomBudget (crowdedSnapshot n m) := by
    have ended : (crowdedSnapshot n m).insts.filter (fun i => isTerminal i.state) = (crowdedSnapshot n m).insts := by
      refine List.filter_eq_self.mpr (fun i hi => ?_)
      obtain ⟨k, -, rfl⟩ := List.mem_map.mp hi
      rfl
    have many : (crowdedSnapshot n m).insts.length = m := by simp [crowdedSnapshot]
    simp only [roomBudget, ended, many, crowd, List.length_append, List.length_cons, List.length_replicate,
      List.length_nil]
    omega
  show (sortBy creationLt ((expand (crowdedSnapshot n m)).results.flatMap (fun r => r.creations))).take _ = _
  rw [asked, crowd_sorted, List.take_of_length_le room]

/-! ## The contenders (R98 to R101) -/

theorem snapBooking_short (hn : 0 < n) : snapBooking (crowdedSnapshot n m) 2 = some shortBooking := by
  obtain ⟨k, rfl⟩ : ∃ k, n = k + 1 := ⟨n - 1, by omega⟩
  rfl

theorem snapBooking_late : snapBooking (crowdedSnapshot n m) 3 = some lateBooking := by
  show (longBooking :: List.replicate n shortBooking ++ [lateBooking]).find? (fun b => b.id == 3) = some lateBooking
  rw [List.find?_append, List.find?_cons_of_neg (by decide), List.find?_eq_none.mpr]
  · rfl
  · intro b hb
    rw [List.eq_of_mem_replicate hb]
    decide

/-- In the order of R100 the late one stands first, by its priority, and the short ones last. -/
theorem contenders_crowded (hn : 0 < n) (hm : n + 2 ≤ m) :
    contenders (crowdedSnapshot n m) (expand (crowdedSnapshot n m)) = lateCand n :: longCand :: shortCands n := by
  have none : (crowdedSnapshot n m).insts.filter (fun i => isPlaceable i.state &&
      !((expand (crowdedSnapshot n m)).results.flatMap (fun r => r.removals)).contains i.id) = [] := by
    refine List.filter_eq_nil_iff.mpr (fun i hi => ?_)
    obtain ⟨k, -, rfl⟩ := List.mem_map.mp hi
    simp [doneInst, isPlaceable]
  have long : candOfCreation (crowdedSnapshot n m) 0 longCreation = longCand := rfl
  have short (k : Nat) : candOfCreation (crowdedSnapshot n m) k shortCreation = shortCand k := by
    unfold candOfCreation
    rw [show shortCreation.booking = 2 from rfl, snapBooking_short hn]
    rfl
  have late : candOfCreation (crowdedSnapshot n m) (n + 1) lateCreation = lateCand n := by
    unfold candOfCreation
    rw [show lateCreation.booking = 3 from rfl, snapBooking_late]
    rfl
  have made : (numbered 0 (crowd n)).map (fun kc => candOfCreation (crowdedSnapshot n m) kc.1 kc.2) =
      longCand :: shortCands n ++ [lateCand n] := by
    rw [crowd, numbered_append, numbered, numbered_replicate]
    simp [numbered, long, short, ← late, shortCands, Function.comp_def]
  have order : (longCand :: shortCands n).Pairwise (fun a b => candLt b a = false) := by
    refine List.pairwise_cons.mpr ⟨fun c hc => ?_, ?_⟩
    · obtain ⟨k, -, rfl⟩ := List.mem_map.mp hc
      rfl
    · refine List.pairwise_map.mpr ((List.pairwise_lt_range' ..).imp (fun {a b} hab => ?_))
      simp [candLt, shortCand, eventCand, creationPid]
      omega
  unfold contenders
  dsimp only
  rw [none, granted_crowded hm, made, List.map_nil, List.nil_append, sortBy_append_singleton, sortBy_sorted order]
  rfl

/-! ## Placement (R99, R104 to R106) -/

theorem candWindow_eventCand (pid id priority prePad start dur : Nat) :
    candWindow (crowdedSnapshot n m).now (eventCand pid id priority prePad start dur) =
      { ws := max (start - prePad) 100005, we := min 4294967295 (start + dur) } := rfl

theorem tooShort_shortCand (k : Nat) : tooShort (candWindow (crowdedSnapshot n m).now (shortCand k)) = true := by
  simp [shortCand, candWindow_eventCand, tooShort, Config.minWindow]

theorem tooShort_longCand : tooShort (candWindow (crowdedSnapshot n m).now longCand) = false := by
  simp [longCand, candWindow_eventCand, tooShort, Config.minWindow]

theorem tooShort_lateCand : tooShort (candWindow (crowdedSnapshot n m).now (lateCand n)) = false := by
  simp [lateCand, candWindow_eventCand, tooShort, Config.minWindow]

/-- The late one is placed first, then the long one beside it on the same multiplex. -/
def latePlaced (n : Nat) : Placed :=
  { cand := lateCand n, tuner := .a, window := { ws := 100005, we := 101900 }, full := { ws := 100005, we := 101900 }
    verdict := .whole }

def longPlaced : Placed :=
  { cand := longCand, tuner := .a, window := { ws := 100005, we := 104000 }, full := { ws := 100005, we := 104000 }
    verdict := .whole }

/-- A working plan in which nothing but the given recordings stands. -/
def workOf (xs : List Placed) : Work :=
  { fixed := [], claims := [], placed := xs, lost := [], displaced := [], records := [] }

theorem resolve_lateCand : resolve (crowdedSnapshot n m) (lateCand n) (workOf []) = (workOf [latePlaced n], []) := by
  have window : candWindow (crowdedSnapshot n m).now (lateCand n) = { ws := 100005, we := 101900 } := by
    simp [lateCand, candWindow_eventCand]
  have placed : placeOrTrim (crowdedSnapshot n m).now (lateCand n) .whole .trimmed (workOf []) =
      some (workOf [latePlaced n]) := by
    simp only [placeOrTrim, window]
    rfl
  simp only [resolve, placed]

theorem resolve_longCand :
    resolve (crowdedSnapshot n m) longCand (workOf [latePlaced n]) = (workOf [latePlaced n, longPlaced], []) := by
  have window : candWindow (crowdedSnapshot n m).now longCand = { ws := 100005, we := 104000 } := by
    simp [longCand, candWindow_eventCand]
  have placed : placeOrTrim (crowdedSnapshot n m).now longCand .whole .trimmed (workOf [latePlaced n]) =
      some (workOf [latePlaced n, longPlaced]) := by
    simp only [placeOrTrim, window]
    rfl
  simp only [resolve, placed]

theorem planPass_crowded (hn : 0 < n) (hm : n + 2 ≤ m) : planPass (crowdedSnapshot n m) =
    { expansion := expand (crowdedSnapshot n m), tooShort := shortCands n
      work := workOf [latePlaced n, longPlaced] } := by
  have short : ∀ c ∈ shortCands n, tooShort (candWindow (crowdedSnapshot n m).now c) = true := by
    intro c hc
    obtain ⟨k, -, rfl⟩ := List.mem_map.mp hc
    exact tooShort_shortCand k
  have queue : (lateCand n :: longCand :: shortCands n).filter
      (fun c => !tooShort (candWindow (crowdedSnapshot n m).now c)) = [lateCand n, longCand] := by
    rw [List.filter_cons_of_pos (by simp [tooShort_lateCand]), List.filter_cons_of_pos (by simp [tooShort_longCand]),
      List.filter_eq_nil_iff.mpr (fun c hc => by simp [short c hc])]
  have left : (lateCand n :: longCand :: shortCands n).filter
      (fun c => tooShort (candWindow (crowdedSnapshot n m).now c)) = shortCands n := by
    rw [List.filter_cons_of_neg (by simp [tooShort_lateCand]), List.filter_cons_of_neg (by simp [tooShort_longCand]),
      List.filter_eq_self.mpr short]
  have seed : seedWork (crowdedSnapshot n m) = workOf [] := by
    have idle : (crowdedSnapshot n m).insts.filterMap (fixedOcc (crowdedSnapshot n m)) = [] := by
      refine List.filterMap_eq_nil_iff.mpr (fun i hi => ?_)
      obtain ⟨k, -, rfl⟩ := List.mem_map.mp hi
      rfl
    unfold seedWork
    rw [idle]
    rfl
  have placed : placeAll (crowdedSnapshot n m) (10 * [lateCand n, longCand].length + 10) [lateCand n, longCand]
      (workOf []) = workOf [latePlaced n, longPlaced] := by
    simp only [List.length_cons, List.length_nil, placeAll, resolve_lateCand, resolve_longCand, List.foldl_nil]
  unfold planPass
  dsimp only
  rw [contenders_crowded hn hm, queue, left, seed, placed]

end Sys2Proof.Machine

/-! PROOFS. The install of the counterexample to O58: with one place left in a full Instance List and a terminal order
that names every recording it creates, the install discards each as it creates the next, until the ids have gone round
once (R79, R86). -/

namespace Sys2Proof.Machine

-- one theorem after another: many at a time would want a thread each
set_option Elab.async false

open Sys2Proof

/-! ## The ids go round (R79) -/

/-- A search passes over the ids that are held to the first that is free (R79). -/
theorem searchId_passes {fuel k n : Nat} {s : State} (hk : k ≤ fuel)
    (held : ∀ j < k, idAfter^[j] n ∈ s.lst.insts.map (fun i => i.id))
    (free : idAfter^[k] n ∉ s.lst.insts.map (fun i => i.id)) : searchId fuel n s = idAfter^[k] n := by
  induction k generalizing fuel n with
  | zero =>
    cases fuel with
    | zero => rfl
    | succ fuel => exact if_neg (by simpa [List.any_eq_true] using free)
  | succ k ih =>
    obtain ⟨fuel, rfl⟩ : ∃ f, fuel = f + 1 := ⟨fuel - 1, by omega⟩
    have first : s.lst.insts.any (fun i => i.id == n) = true := by
      simpa [List.any_eq_true] using held 0 (Nat.succ_pos k)
    rw [searchId, if_pos first, Function.iterate_succ_apply]
    exact ih (Nat.le_of_succ_le_succ hk) (fun j hj => held (j + 1) (Nat.succ_lt_succ hj)) free

/-! ## The state -/

/-- 159 DONE recordings that stay in the list, under the last of the ids. -/
def standing : List Inst := (List.range' 65377 159).map doneInst

/-- A full list, whose terminal order names the one recording that goes first and all that are to come. -/
def crowdedState (n m : Nat) : State :=
  { State.reset with
    bkt := { freshBookings with bookings := [longBooking, shortBooking, lateBooking] }
    lst := { insts := standing ++ [doneInst 0], nextId := 1, terminalOrder := List.range' 0 (n + 2), earliest := none }
    pln := { freshPlanner with passState := .pass, snapshot := some (crowdedSnapshot n m) } }

variable {n m k : Nat}

theorem mem_standing {i : Inst} : i ∈ standing ↔ ∃ k, 65377 ≤ k ∧ k < 65536 ∧ i = doneInst k := by
  constructor
  · intro h
    obtain ⟨k, hk, rfl⟩ := List.mem_map.mp h
    rw [List.mem_range'_1] at hk
    exact ⟨k, hk.1, hk.2, rfl⟩
  · rintro ⟨k, lo, hi, rfl⟩
    exact List.mem_map.mpr ⟨k, List.mem_range'_1.mpr ⟨lo, hi⟩, rfl⟩

theorem standing_length : standing.length = 159 := by simp [standing]

theorem standing_ids : (standing.map (fun i => i.id)) = List.range' 65377 159 := by
  simp [standing, doneInst, Function.comp_def]

/-- The list holds DONE recordings alone, under distinct ids. -/
theorem crowdedState_planKept (hm : m ≤ 65536) : PlanKept (crowdedState n m) := by
  have ended : ∀ i ∈ (crowdedState n m).lst.insts, i.state = .done ∧ i.id ≤ 65535 := by
    intro i hi
    obtain hi | hi := List.mem_append.mp hi
    · obtain ⟨k, -, hk, rfl⟩ := mem_standing.mp hi
      exact ⟨rfl, Nat.le_of_lt_succ hk⟩
    · rw [List.mem_singleton.mp hi]
      exact ⟨rfl, Nat.zero_le _⟩
  have unplanned {i : Inst} (hi : i ∈ (crowdedState n m).lst.insts) : i.state ≠ .planned := by simp [(ended i hi).1]
  refine ⟨⟨?_, ?_, Nat.le_refl 1, by simp [crowdedState]⟩, fun i hi => ⟨(ended i hi).2, fun hp => ?_⟩, ?_,
    fun i hi hp => absurd hp (unplanned hi), fun i hi j _ hp => absurd hp (unplanned hi), fun u t => ?_⟩
  · simp [crowdedState, standing_length]
  · simp only [DistinctIds, crowdedState, List.map_append, standing_ids, List.map_cons, List.map_nil, doneInst]
    refine List.nodup_append.mpr ⟨List.nodup_range' .., List.nodup_singleton 0, fun a ha b hb => ?_⟩
    rw [List.mem_range'_1] at ha
    rw [List.mem_singleton] at hb
    omega
  · simp [(ended i hi).1, isPlaceable] at hp
  · rintro sn ⟨⟩
    refine ⟨?_, fun j hj => ?_, fun i hi hp => by simp [(ended i hi).1, isPlaceable] at hp⟩
    · simp [crowdedSnapshot, doneInst, Function.comp_def, List.nodup_range]
    · obtain ⟨k, hk, rfl⟩ := List.mem_map.mp hj
      rw [List.mem_range] at hk
      exact Nat.le_of_lt_succ (hk.trans_le hm)
  · rw [List.filter_eq_nil_iff.mpr (fun i hi => by simp [plannedAt, unplanned hi])]
    exact Nat.zero_le _

/-! ## One creation (R76, R79, R86) -/

/-- The install when `k` recordings have been created: the list holds the last of them beside those that stay. -/
structure Rotated (n k : Nat) (last : Inst) (a : InstallAcc) : Prop where
  insts : a.s.lst.insts = standing ++ [last]
  lastId : last.id = k
  nextId : a.s.lst.nextId = k + 1
  order : a.s.lst.terminalOrder = List.range' k (n + 2 - k)
  bookings : a.s.bkt.bookings = [longBooking, shortBooking, lateBooking]
  clk : a.s.clk = powerOnClock
  ids : a.ids = (List.range k).map (fun j => (creationPid j, j + 1))

/-- No booking is SPENT, so none leaves with its last recording (R47). -/
theorem removeSpent_bookings {s : State} (h : s.bkt.bookings = [longBooking, shortBooking, lateBooking]) (bid : Nat) :
    (removeSpent bid s).bkt.bookings = [longBooking, shortBooking, lateBooking] := by
  unfold removeSpent
  split
  · exact h
  · rw [modBkt_bkt, List.filter_eq_self.mpr]
    · exact h
    · rw [h]
      simp [longBooking, shortBooking, lateBooking, eventBooking]

/-- The recording at the head of the terminal order makes room (R86). -/
theorem makeRoom_rotated {last : Inst} {a : InstallAcc} (h : Rotated n k last a) (hk : k ≤ n + 1) (hn : n + 1 ≤ 65376) :
    (makeRoom a).s.lst.insts = standing ∧ (makeRoom a).s.lst.nextId = k + 1 ∧
      (makeRoom a).s.lst.terminalOrder = List.range' (k + 1) (n + 1 - k) ∧
      (makeRoom a).s.bkt.bookings = [longBooking, shortBooking, lateBooking] ∧ (makeRoom a).s.clk = powerOnClock ∧
      (makeRoom a).ids = a.ids := by
  have others : ∀ i ∈ standing, i.id ≠ k := by
    intro i hi
    obtain ⟨j, lo, -, rfl⟩ := mem_standing.mp hi
    show j ≠ k
    omega
  have order : a.s.lst.terminalOrder = k :: List.range' (k + 1) (n + 1 - k) := by
    rw [h.order, show n + 2 - k = (n + 1 - k) + 1 by omega, List.range'_succ]
  have found : findInst k a.s = some last := by
    rw [findInst, h.insts, List.find?_append, List.find?_eq_none.mpr (by simpa using others)]
    simp [h.lastId]
  have full : ¬ a.s.lst.insts.length < Config.instCap := by simp [h.insts, standing_length]
  have left : makeRoom a = { a with
      s := leaveList last a.s
      conds := a.conds ++ [planCond .soft .outcomeDiscarded (some last.id) (some last.booking)] } := by
    unfold makeRoom
    rw [if_neg full, order]
    simp [found]
  rw [left]
  refine ⟨?_, ?_, ?_, ?_, ?_, rfl⟩
  · rw [leaveList_insts, h.insts, List.filter_append, List.filter_eq_self.mpr (by simpa [h.lastId] using others)]
    simp
  · simpa [leaveList] using h.nextId
  · simp only [leaveList, removeSpent_lst, modLst_lst, order, h.lastId]
    rw [List.filter_cons_of_neg (by simp), List.filter_eq_self.mpr]
    intro j hj
    rw [List.mem_range'_1] at hj
    simpa using (by omega : j ≠ k)
  · exact removeSpent_bookings (by simpa using h.bookings) _
  · simpa [leaveList] using h.clk

/-- A creation takes the first free id from the next one on, and the one place (R76, R79). -/
theorem createOne_rotated {last : Inst} {a : InstallAcc} (h : Rotated n k last a) (hk : k ≤ n + 1) (hn : n + 1 ≤ 65376)
    {cands : List Cand} {c : Creation} {cand : Cand} (found : cands.find? (fun x => x.pid == creationPid k) = some cand)
    (later : 0 < cand.start) (held : c.booking = 1 ∨ c.booking = 2 ∨ c.booking = 3) {iid : Nat}
    (free : searchId 161 (k + 1) (makeRoom a).s = iid) :
    (createOne cands a (k, c)).s.lst.insts = standing ++ [newInst iid c cand] ∧
      (createOne cands a (k, c)).s.lst.nextId = idAfter iid ∧
      (createOne cands a (k, c)).s.lst.terminalOrder = List.range' (k + 1) (n + 1 - k) ∧
      (createOne cands a (k, c)).s.bkt.bookings = [longBooking, shortBooking, lateBooking] ∧
      (createOne cands a (k, c)).s.clk = powerOnClock ∧
      (createOne cands a (k, c)).ids = a.ids ++ [(creationPid k, iid)] := by
  obtain ⟨insts, nextId, order, bookings, clk, ids⟩ := makeRoom_rotated h hk hn
  have booked : bookingHeld c.booking a.s = true := by
    rw [bookingHeld, h.bookings]
    obtain e | e | e := held <;> rw [e] <;> rfl
  have few : liveCount c.booking a.s < Config.perBooking := by
    have none : standing.filter (fun i => i.booking == c.booking && !isTerminal i.state) = [] := by
      refine List.filter_eq_nil_iff.mpr (fun i hi => ?_)
      obtain ⟨j, -, -, rfl⟩ := mem_standing.mp hi
      simp [doneInst, isTerminal]
    have one := List.length_filter_le (fun i => i.booking == c.booking && !isTerminal i.state) [last]
    rw [List.length_singleton] at one
    rw [liveCount, h.insts, List.filter_append, none, List.nil_append]
    exact one.trans_lt (by decide)
  have place : (makeRoom a).s.lst.insts.length < Config.instCap := by simp [insts, standing_length]
  have made : createOne cands a (k, c) = { makeRoom a with
      s := modLst (fun l => { l with insts := insertBy instLt (newInst iid c cand) l.insts, nextId := idAfter iid })
        (makeRoom a).s
      ids := (makeRoom a).ids ++ [(creationPid k, iid)] } := by
    unfold createOne
    simp only [found, booked, few, and_self, if_true, place, nextId, free]
  have behind : insertBy instLt (newInst iid c cand) standing = standing ++ [newInst iid c cand] := by
    refine insertBy_last (fun i hi => ?_)
    obtain ⟨j, -, -, rfl⟩ := mem_standing.mp hi
    simp [instLt, newInst, doneInst, later.ne']
  rw [made]
  exact ⟨by rw [modLst_lst, insts, behind], rfl, order, bookings, clk, by rw [ids]⟩

/-- Before the ids have gone round, the next id is free. -/
theorem createOne_next {last : Inst} {a : InstallAcc} (h : Rotated n k last a) (hk : k ≤ n) (hn : n + 1 ≤ 65376)
    {cands : List Cand} {c : Creation} {cand : Cand} (found : cands.find? (fun x => x.pid == creationPid k) = some cand)
    (later : 0 < cand.start) (held : c.booking = 1 ∨ c.booking = 2 ∨ c.booking = 3) :
    Rotated n (k + 1) (newInst (k + 1) c cand) (createOne cands a (k, c)) := by
  have free : searchId 161 (k + 1) (makeRoom a).s = k + 1 := by
    refine searchId_passes (k := 0) (Nat.zero_le _) nofun ?_
    rw [(makeRoom_rotated h (by omega) hn).1, standing_ids, List.mem_range'_1, Function.iterate_zero_apply]
    omega
  obtain ⟨insts, nextId, order, bookings, clk, ids⟩ := createOne_rotated h (by omega) hn found later held free
  refine ⟨insts, rfl, ?_, ?_, bookings, clk, ?_⟩
  · rw [nextId, idAfter, if_neg (by omega)]
  · rw [order, show n + 2 - (k + 1) = n + 1 - k by omega]
  · rw [ids, h.ids, List.range_succ, List.map_append, List.map_cons, List.map_nil]

/-- All creations but the last, one after another. -/
theorem creations_rotate {cands : List Cand} (hn : n + 1 ≤ 65376) (cs : List Creation)
    (found : ∀ j ≤ n, ∃ cand, cands.find? (fun x => x.pid == creationPid j) = some cand ∧ 0 < cand.start)
    (held : ∀ c ∈ cs, c.booking = 1 ∨ c.booking = 2 ∨ c.booking = 3) {last : Inst} {a : InstallAcc}
    (h : Rotated n k last a) (hk : k + cs.length ≤ n + 1) :
    ∃ last', Rotated n (k + cs.length) last' ((numbered k cs).foldl (createOne cands) a) := by
  induction cs generalizing k last a with
  | nil => exact ⟨last, h⟩
  | cons c cs ih =>
    rw [List.length_cons] at hk
    obtain ⟨cand, hc, later⟩ := found k (by omega)
    have next := createOne_next h (by omega) hn hc later (held c List.mem_cons_self)
    rw [numbered, List.foldl_cons, List.length_cons, Nat.add_comm cs.length, ← Nat.add_assoc]
    exact ih (fun d hd => held d (List.mem_cons_of_mem c hd)) next (by omega)

/-- The last creation finds every id above held, and takes id 1 again. -/
theorem createOne_around {last : Inst} {a : InstallAcc} (h : Rotated n (n + 1) last a) (hn : n + 1 = 65376)
    {cands : List Cand} {c : Creation} {cand : Cand}
    (found : cands.find? (fun x => x.pid == creationPid (n + 1)) = some cand) (later : 0 < cand.start)
    (held : c.booking = 1 ∨ c.booking = 2 ∨ c.booking = 3) :
    (createOne cands a (n + 1, c)).s.lst.insts = standing ++ [newInst 1 c cand] ∧
      (createOne cands a (n + 1, c)).s.bkt.bookings = [longBooking, shortBooking, lateBooking] ∧
      (createOne cands a (n + 1, c)).s.clk = powerOnClock ∧
      (createOne cands a (n + 1, c)).ids =
        (List.range (n + 1)).map (fun j => (creationPid j, j + 1)) ++ [(creationPid (n + 1), 1)] := by
  have tried (j : Nat) : idAfter^[j] (n + 1 + 1) = (n + 1 + j) % 65535 + 1 := by
    rw [idAfter_iterate (by omega)]
    omega
  have free : searchId 161 (n + 1 + 1) (makeRoom a).s = 1 := by
    have ids : (makeRoom a).s.lst.insts.map (fun i => i.id) = List.range' 65377 159 := by
      rw [(makeRoom_rotated h le_rfl hn.le).1, standing_ids]
    rw [searchId_passes (k := 159) (by decide) (fun j hj => ?_) ?_, tried]
    · omega
    · rw [ids, List.mem_range'_1, tried]
      omega
    · rw [ids, List.mem_range'_1, tried]
      omega
  obtain ⟨insts, -, -, bookings, clk, ids⟩ := createOne_rotated h le_rfl hn.le found later held free
  exact ⟨insts, bookings, clk, by rw [ids, h.ids]⟩

end Sys2Proof.Machine

/-! PROOFS. The refutation of O58: the install writes the window of one recording on another that has taken the same
id. -/

namespace Sys2Proof.Machine

-- one theorem after another: many at a time would want a thread each
set_option Elab.async false

open Sys2Proof

variable {n m : Nat}

/-! ## The creations of the install -/

/-- The contenders in the order in which the install is given them: the placed ones, then those left out of
placement. -/
def crowdCands (n : Nat) : List Cand := lateCand n :: longCand :: shortCands n

theorem mem_crowdCands {c : Cand} (h : c ∈ crowdCands n) : 0 < c.start ∧ 65536 ≤ c.pid := by
  obtain rfl | h := List.mem_cons.mp h
  · exact ⟨(by decide : 0 < 100100), Nat.le_add_right ..⟩
  · obtain rfl | h := List.mem_cons.mp h
    · exact ⟨(by decide : 0 < 99000), Nat.le_refl _⟩
    · obtain ⟨k, -, rfl⟩ := List.mem_map.mp h
      exact ⟨(by decide : 0 < 99900), Nat.le_add_right ..⟩

theorem crowdCands_late : (crowdCands n).find? (fun x => x.pid == creationPid (n + 1)) = some (lateCand n) :=
  List.find?_cons_of_pos (by simp [lateCand, eventCand])

theorem crowdCands_found {j : Nat} (hj : j ≤ n) :
    ∃ cand, (crowdCands n).find? (fun x => x.pid == creationPid j) = some cand ∧ 0 < cand.start := by
  have some : ((crowdCands n).find? (fun x => x.pid == creationPid j)).isSome := by
    rw [List.find?_isSome]
    obtain rfl | pos := Nat.eq_zero_or_pos j
    · exact ⟨longCand, by simp [crowdCands], by simp [longCand, eventCand, creationPid]⟩
    · refine ⟨shortCand j, ?_, by simp [shortCand, eventCand]⟩
      have listed : shortCand j ∈ shortCands n := List.mem_map_of_mem (List.mem_range'_1.mpr ⟨pos, by omega⟩)
      simp [crowdCands, listed]
  obtain ⟨cand, hc⟩ := Option.isSome_iff_exists.mp some
  exact ⟨cand, hc, (mem_crowdCands (List.mem_of_find?_eq_some hc)).1⟩

/-- No contender is a recording of the list, so none is refreshed. -/
theorem refreshOne_crowded {c : Cand} (h : c ∈ crowdCands n) : refreshOne (crowdedState n m) c = crowdedState n m := by
  have absent : findInst c.pid (crowdedState n m) = none := by
    refine List.find?_eq_none.mpr (fun i hi => ?_)
    have low : i.id < 65536 := by
      obtain hi | hi := List.mem_append.mp hi
      · obtain ⟨k, -, hk, rfl⟩ := mem_standing.mp hi
        exact hk
      · rw [List.mem_singleton.mp hi]
        exact (by decide : 0 < 65536)
    have high := (mem_crowdCands h).2
    simpa using (by omega : i.id ≠ c.pid)
  unfold refreshOne
  rw [absent]

/-- Expansion asks for creations alone. -/
theorem results_crowded {x : BookingResult} (h : x ∈ (expand (crowdedSnapshot n m)).results) :
    x.removals = [] ∧ x.refreshes = [] ∧ x.spent = false := by
  rw [expand_crowded] at h
  obtain h | h := List.mem_append.mp h
  · obtain rfl | h := List.mem_cons.mp h
    · exact ⟨rfl, rfl, rfl⟩
    · rw [List.eq_of_mem_replicate h]
      exact ⟨rfl, rfl, rfl⟩
  · rw [List.mem_singleton.mp h]
    exact ⟨rfl, rfl, rfl⟩

/-- The ids the creations took: the last has the first one's again. -/
def crowdIds (n : Nat) : List (Nat × Nat) :=
  (List.range (n + 1)).map (fun j => (creationPid j, j + 1)) ++ [(creationPid (n + 1), 1)]

/-- The install with one recording beside those that stay. -/
structure Written (n : Nat) (i : Inst) (a : InstallAcc) : Prop where
  insts : a.s.lst.insts = standing ++ [i]
  bookings : a.s.bkt.bookings = [longBooking, shortBooking, lateBooking]
  clk : a.s.clk = powerOnClock
  ids : a.ids = crowdIds n

theorem applyExpansion_crowded {r : PassResult} (hr : r.expansion = expand (crowdedSnapshot n m)) (hn : n + 1 = 65376)
    (hm : n + 2 ≤ m) :
    Written n (newInst 1 lateCreation (lateCand n)) (applyExpansion r (crowdCands n) (crowdedState n m)) := by
  have stays : (crowdCands n).foldl refreshOne (crowdedState n m) = crowdedState n m :=
    List.foldlRecOn (motive := fun u => u = crowdedState n m) _ _ rfl
      (fun u hu c hc => by rw [hu, refreshOne_crowded hc])
  have removals : ((expand (crowdedSnapshot n m)).results.filter
      (fun x => bookingHeld x.booking (crowdedState n m))).flatMap (fun x => x.removals) = [] :=
    List.flatMap_eq_nil_iff.mpr (fun x hx => (results_crowded (List.mem_of_mem_filter hx)).1)
  have refreshes : ((expand (crowdedSnapshot n m)).results.filter
      (fun x => bookingHeld x.booking (crowdedState n m))).flatMap (fun x => x.refreshes) = [] :=
    List.flatMap_eq_nil_iff.mpr (fun x hx => (results_crowded (List.mem_of_mem_filter hx)).2.1)
  have opening : Rotated n 0 (doneInst 0) { s := crowdedState n m, ids := [], conds := [] } :=
    ⟨rfl, rfl, rfl, rfl, rfl, rfl, rfl⟩
  have booked : ∀ c ∈ longCreation :: List.replicate n shortCreation,
      c.booking = 1 ∨ c.booking = 2 ∨ c.booking = 3 := by
    intro c hc
    obtain rfl | hc := List.mem_cons.mp hc
    · exact .inl rfl
    · rw [List.eq_of_mem_replicate hc]
      exact .inr (.inl rfl)
  obtain ⟨last, round⟩ := creations_rotate hn.le _ (fun j hj => crowdCands_found hj) booked opening (by simp)
  rw [Nat.zero_add, List.length_cons, List.length_replicate] at round
  obtain ⟨insts, bookings, clk, ids⟩ := createOne_around round hn crowdCands_late (by decide : 0 < 100100)
    (c := lateCreation) (.inr (.inr rfl))
  unfold applyExpansion
  dsimp only
  rw [hr, removals, refreshes, List.foldl_nil, List.foldl_nil, stays, granted_crowded hm, crowd, numbered_append,
    List.foldl_append, Nat.zero_add, List.length_cons, List.length_replicate]
  exact ⟨insts, bookings, clk, ids⟩

/-! ## The results of the pass -/

theorem idOfPid_crowdIds {j : Nat} (hj : j ≤ n) : idOfPid (crowdIds n) (creationPid j) = some (j + 1) := by
  have first : (List.range (n + 1)).find? (fun k => creationPid k == creationPid j) = some j := by
    refine List.find?_range_eq_some.mpr ⟨by simp, List.mem_range.mpr (by omega), fun k hk => ?_⟩
    simpa [creationPid] using hk.ne
  rw [idOfPid, if_neg (by simp [creationPid]), crowdIds, List.find?_append, List.find?_map]
  simp only [Function.comp_def, first, Option.map_some, Option.some_or]

theorem idOfPid_crowdIds_last : idOfPid (crowdIds n) (creationPid (n + 1)) = some 1 := by
  have none : (List.range (n + 1)).find? (fun k => creationPid k == creationPid (n + 1)) = none := by
    refine List.find?_eq_none.mpr (fun k hk => ?_)
    rw [List.mem_range] at hk
    simpa [creationPid] using hk.ne
  rw [idOfPid, if_neg (by simp [creationPid]), crowdIds, List.find?_append, List.find?_map]
  simp [none]

theorem findInst_written {i : Inst} {a : InstallAcc} (h : Written n i a) (hi : i.id = 1) : findInst 1 a.s = some i := by
  rw [findInst, h.insts, List.find?_append, List.find?_eq_none.mpr]
  · simp [hi]
  · intro j hj
    obtain ⟨k, lo, -, rfl⟩ := mem_standing.mp hj
    simpa [doneInst] using (by omega : k ≠ 1)

/-- What a placed recording is written as (R107). -/
def writtenAs (x : Placed) (i : Inst) : Inst :=
  { i with state := .planned, window := some x.window, tuner := some x.tuner, verdict := some x.verdict
           planPriority := some x.cand.priority }

/-- A change of the recording with id 1 leaves those that stay. -/
theorem modInst_written {i : Inst} {a : InstallAcc} (h : Written n i a) (hi : i.id = 1) (f : Inst → Inst) :
    (modInst 1 f a.s).lst.insts = standing ++ [f i] := by
  have others : standing.map (fun j => if j.id == 1 then f j else j) = standing := by
    refine (List.map_congr_left (fun j hj => ?_)).trans (List.map_id standing)
    obtain ⟨k, lo, -, rfl⟩ := mem_standing.mp hj
    exact if_neg (by simpa [doneInst] using (by omega : k ≠ 1))
  rw [modInst_insts, h.insts, List.map_append, others]
  simp [hi]

/-- A placed recording that fits is written on the one with id 1, when it has the id and that one is placeable
(R107). -/
theorem writePlaced_written {i : Inst} {k : Merge} {x : Placed} (h : Written n i k.a) (hi : i.id = 1)
    (placeable : isPlaceable i.state = true) (hb : i.booking = 3) (named : idOfPid (crowdIds n) x.cand.pid = some 1)
    (fit : mergeFits [] k.counted x = true) :
    Written n (writtenAs x i) (writePlaced [] k x).a ∧ (writePlaced [] k x).counted = k.counted ++ [placedOcc x] := by
  have booked : bookingHeld i.booking k.a.s = true := by
    rw [bookingHeld, h.bookings, hb]
    rfl
  have written : writePlaced [] k x =
      { a := { k.a with
          s := modInst 1 (writtenAs x) k.a.s
          conds := k.a.conds ++ (if i.verdict = some x.verdict then [] else (verdictCond i.id x).toList) }
        counted := k.counted ++ [placedOcc x] } := by
    unfold writePlaced
    simp only [h.ids, named, Option.bind_some, findInst_written h hi, placeable, booked, Bool.and_self, if_true, fit,
      hi]
    rfl
  rw [written]
  exact ⟨⟨modInst_written h hi _, h.bookings, h.clk, h.ids⟩, rfl⟩

/-- Of the recordings left out of placement none has the id of the one that is PLANNED. -/
theorem writeShort_written {i : Inst} {a : InstallAcc} (h : Written n i a) (hi : i.id = 1) {c : Cand}
    (hc : c ∈ shortCands n) : writeShort a.ids a.s c = a.s := by
  obtain ⟨k, hk, rfl⟩ := List.mem_map.mp hc
  rw [List.mem_range'_1] at hk
  have named : idOfPid a.ids (shortCand k).pid = some (k + 1) := by
    rw [h.ids]
    exact idOfPid_crowdIds (by omega)
  unfold writeShort
  rw [named, Option.bind_some]
  cases hj : findInst (k + 1) a.s with
  | none => rfl
  | some j =>
    have unplanned : j.state ≠ .planned := by
      have mem := List.mem_of_find?_eq_some hj
      rw [h.insts] at mem
      obtain mem | mem := List.mem_append.mp mem
      · obtain ⟨l, -, -, rfl⟩ := mem_standing.mp mem
        exact nofun
      · have one : j.id = 1 := by rw [List.mem_singleton.mp mem, hi]
        have := findInst_id hj
        omega
    exact if_neg (fun p => unplanned p.1)

theorem writeShorts_written {i : Inst} {a : InstallAcc} (h : Written n i a) (hi : i.id = 1) :
    (shortCands n).foldl (writeShort a.ids) a.s = a.s :=
  List.foldlRecOn (motive := fun u => u = a.s) _ _ rfl (fun u hu c hc => by rw [hu, writeShort_written h hi hc])

/-- The recording that takes both windows: that of the late booking, in the window of the long one. -/
def strayInst (n : Nat) : Inst := writtenAs longPlaced (writtenAs (latePlaced n) (newInst 1 lateCreation (lateCand n)))

theorem applyPlan_crowded {a : InstallAcc} (h : Written n (newInst 1 lateCreation (lateCand n)) a) {e : Expansion} :
    Written n (strayInst n) (applyPlan (crowdedSnapshot n m)
      { expansion := e, tooShort := shortCands n, work := workOf [latePlaced n, longPlaced] } a) := by
  have still : ∀ i ∈ a.s.lst.insts, isRunning i.state = false := by
    rw [h.insts]
    intro i hi
    obtain hi | hi := List.mem_append.mp hi
    · obtain ⟨k, -, -, rfl⟩ := mem_standing.mp hi
      rfl
    · rw [List.mem_singleton.mp hi]
      rfl
  have none : a.s.lst.insts.filter (fun i => isRunning i.state) = [] :=
    List.filter_eq_nil_iff.mpr (fun i hi => by simp [still i hi])
  have ids : idsWhere (fun i => isRunning i.state) a.s = [] := by rw [idsWhere, none]; rfl
  obtain ⟨late, counted⟩ := writePlaced_written (k := { a := a, counted := [] }) (x := latePlaced n) h rfl rfl rfl
    idOfPid_crowdIds_last (by rfl)
  obtain ⟨long, -⟩ := writePlaced_written (x := longPlaced) late rfl rfl rfl (idOfPid_crowdIds (Nat.zero_le n))
    (by rw [counted]; rfl)
  have short := writeShorts_written long rfl
  unfold applyPlan
  dsimp only
  rw [ids, List.foldl_nil, none]
  simp only [workOf, List.filter_nil, List.filterMap_nil, List.foldl_nil, List.foldl_cons, short]
  exact ⟨long.insts, long.bookings, long.clk, long.ids⟩

/-! ## The recording with the window of another -/

/-- A PLANNED recording whose window ends at 104000, past the end of its padded span at 101900. -/
def Strayed (i : Inst) : Prop :=
  i.state = .planned ∧ i.window = some { ws := 100005, we := 104000 } ∧ i.start + i.dur + i.postPad = 101900

/-- The list holds one such. -/
def HoldsStray (s : State) : Prop := ∃ i ∈ s.lst.insts, Strayed i

theorem planKept_unstrayed {s : State} (h : PlanKept s) : ¬ HoldsStray s := by
  rintro ⟨i, hi, planned, window, ends⟩
  obtain ⟨-, -, -, well, -⟩ := h
  obtain ⟨-, -, -, -, w, hw, -, -, inside⟩ := well i hi planned
  rw [window, Option.mem_some_iff] at hw
  subst hw
  have : 104000 ≤ i.start + i.dur + i.postPad := inside
  omega

theorem HoldsStray.of_map {s t : State} {f : Inst → Inst} (hf : ∀ i, Strayed i → Strayed (f i))
    (e : t.lst.insts = s.lst.insts.map f) (h : HoldsStray s) : HoldsStray t := by
  obtain ⟨i, hi, stray⟩ := h
  exact ⟨f i, e ▸ List.mem_map_of_mem hi, hf i stray⟩

theorem modInst_holdsStray {f : Inst → Inst} (hf : ∀ i, Strayed i → Strayed (f i)) {iid : Nat} {s : State}
    (h : HoldsStray s) : HoldsStray (modInst iid f s) :=
  h.of_map (fun i hi => by split; exacts [hf i hi, hi]) (modInst_insts ..)

/-- The cut marks are written on recordings that stay PLANNED (R109). -/
theorem applyMarks_holdsStray {p : Snapshot} {r : PassResult} {a : InstallAcc} (h : HoldsStray a.s) :
    HoldsStray (applyMarks p r a).s :=
  h.of_map (fun i hi => by split; exacts [hi, hi]) rfl

theorem applyUpdate_frame (a : InstallAcc) (r : BookingResult) :
    (applyUpdate a r).s.lst = a.s.lst ∧ (applyUpdate a r).s.clk = a.s.clk := by
  unfold applyUpdate
  split
  · exact ⟨rfl, rfl⟩
  · exact ⟨rfl, rfl⟩

theorem applySpent_unspent {r : BookingResult} (h : r.spent = false) (s : State) : applySpent s r = s := by
  unfold applySpent
  split
  · next spent _ => exact absurd spent (by simp [h])
  · rfl

/-- While no booking is spent, the booking side leaves the list and the clock. -/
theorem applyBookings_frame {r : PassResult} {a : InstallAcc} (h : ∀ x ∈ r.expansion.results, x.spent = false) :
    (applyBookings r a).s.lst = a.s.lst ∧ (applyBookings r a).s.clk = a.s.clk := by
  have updates (xs : List BookingResult) :
      (xs.foldl applyUpdate a).s.lst = a.s.lst ∧ (xs.foldl applyUpdate a).s.clk = a.s.clk :=
    List.foldlRecOn (motive := fun u : InstallAcc => u.s.lst = a.s.lst ∧ u.s.clk = a.s.clk) xs _ ⟨rfl, rfl⟩
      (fun u hu x _ => ⟨(applyUpdate_frame u x).1.trans hu.1, (applyUpdate_frame u x).2.trans hu.2⟩)
  have unspent (s : State) : (r.expansion.results.filter (fun x => bookingHeld x.booking a.s)).foldl applySpent s = s :=
    List.foldlRecOn (motive := fun u => u = s) _ _ rfl (fun u hu x hx => by
      rw [hu, applySpent_unspent (h x (List.mem_of_mem_filter hx))])
  unfold applyBookings
  dsimp only
  rw [unspent]
  exact updates _

/-- The results of a pass, but for the booking side and their conditions. -/
def marked (p : Snapshot) (cands : List Cand) (s : State) : InstallAcc :=
  applyMarks p (planPass p) (applyPlan p (planPass p) (applyExpansion (planPass p) cands s))

theorem renewing_frame {p : Snapshot} {cands : List Cand}
    (unspent : ∀ x ∈ (planPass p).expansion.results, x.spent = false)
    (hc : (planPass p).work.placed.map (fun x => x.cand) ++ (planPass p).work.lost.map (fun x => x.cand) ++
      (planPass p).tooShort = cands) (s : State) :
    (renewing p s).lst = (marked p cands s).s.lst ∧ (renewing p s).clk = (marked p cands s).s.clk := by
  have made : installed p s = applyBookings (planPass p) (marked p cands s) := by rw [← hc]; rfl
  obtain ⟨lst, clk⟩ := applyBookings_frame unspent (a := marked p cands s)
  rw [← made] at lst clk
  exact ⟨(submitFree_lst _ _).trans lst, (submitFree_clk _ _).trans clk⟩

/-- The results of the pass leave it in the list, with no request made. -/
theorem renewing_crowded (hn : n + 1 = 65376) (hm : n + 2 ≤ m) :
    HoldsStray (renewing (crowdedSnapshot n m) (crowdedState n m)) ∧
      (renewing (crowdedSnapshot n m) (crowdedState n m)).clk = powerOnClock := by
  have pass := planPass_crowded (n := n) (m := m) (by omega) hm
  have plan := applyPlan_crowded (m := m) (applyExpansion_crowded (r := planPass (crowdedSnapshot n m))
    (by rw [pass]) hn hm) (e := expand (crowdedSnapshot n m))
  rw [← pass] at plan
  have unspent : ∀ x ∈ (planPass (crowdedSnapshot n m)).expansion.results, x.spent = false := by
    rw [pass]
    exact fun x hx => (results_crowded hx).2.2
  obtain ⟨lst, clk⟩ := renewing_frame unspent (cands := crowdCands n) (by rw [pass]; rfl) (crowdedState n m)
  have stray : Strayed (strayInst n) := ⟨rfl, rfl, rfl⟩
  have made : HoldsStray (marked (crowdedSnapshot n m) (crowdCands n) (crowdedState n m)).s :=
    applyMarks_holdsStray ⟨strayInst n, by simp [plan.insts], stray⟩
  refine ⟨?_, clk.trans plan.clk⟩
  unfold HoldsStray
  rw [lst]
  exact made

/-! ## The hand-off -/

/-- With the clock unset no request is delivered, and the stray recording stays. -/
structure Unset (s : State) : Prop where
  stray : HoldsStray s
  unset : s.clk.cstate = .unset
  dues : ∀ d ∈ s.clk.dues, d.delivered = false

theorem Unset.modInst {s : State} (h : Unset s) {f : Inst → Inst} (hf : ∀ i, Strayed i → Strayed (f i)) (iid : Nat) :
    Unset (modInst iid f s) := ⟨modInst_holdsStray hf h.stray, h.unset, h.dues⟩

theorem Unset.withdrawDues {s : State} (h : Unset s) (ks : List DueKind) : Unset (withdrawDues ks s) :=
  ⟨h.stray, h.unset, fun d hd => h.dues d (List.mem_of_mem_filter hd)⟩

theorem Unset.withdrawDue {s : State} (h : Unset s) (k : DueKind) : Unset (withdrawDue k s) :=
  ⟨h.stray, h.unset, fun d hd => h.dues d (List.mem_of_mem_filter hd)⟩

theorem Unset.requestDue {s : State} (h : Unset s) (k : DueKind) (t : Nat) : Unset (requestDue k t s) := by
  refine ⟨h.stray, h.unset, fun d hd => ?_⟩
  obtain hd | hd := List.mem_append.mp hd
  · exact h.dues d (List.mem_of_mem_filter hd)
  · rw [List.mem_singleton.mp hd, h.unset]
    rfl

theorem Unset.ensureDue {s : State} (h : Unset s) (k : DueKind) (t : Nat) : Unset (ensureDue k t s) := by
  unfold Machine.ensureDue
  split
  · split
    · exact h
    · exact h.requestDue k t
  · exact h.requestDue k t

/-- What the hand-off writes on a recording: neither state, window nor core (R140, R151). -/
theorem syncInst_unset (s : State) (iid : Nat) : Keeps Unset s (syncInst s iid) := by
  intro h
  have move (m : Nat) : Unset (modInst iid (fun j => { j with stopAt := some (.at m) }) s) := by
    refine .modInst h ?_ _
    exact fun _ hi => hi
  have close (m : Nat) : Unset (modInst iid (fun j => { j with runEnd := some m }) s) := by
    refine .modInst h ?_ _
    exact fun _ hi => hi
  have release : Unset (modInst iid (fun j => { j with startHeld := false }) s) := by
    refine .modInst h ?_ _
    exact fun _ hi => hi
  unfold syncInst
  split
  · exact h
  · split
    · exact (release.withdrawDues _).ensureDue _ _
    · exact (release.withdrawDues _).ensureDue _ _
    · refine .ensureDue (.modInst ((h.withdrawDue _).ensureDue _ _) ?_ _) _ _
      exact fun _ hi => hi
    case h_4 | h_5 =>
      split
      · split
        · exact h
        · exact (move _).requestDue _ _
      · exact h
    case h_6 =>
      split
      · split
        · exact h
        · dsimp only
          split
          · exact (close _).requestDue _ _
          · exact close _
      · exact h
    all_goals exact h

theorem syncClaim_unset (before s : State) (c : Claim) : Keeps Unset s (syncClaim before s c) := by
  intro h
  unfold syncClaim
  dsimp only
  split
  · exact h.withdrawDue _
  · split
    · exact h
    · exact h.requestDue _ _

/-- No request is taken at once. -/
theorem takeFresh_unset {s : State} (h : Unset s) (before : List DueReq) (k : DueKind) (act : State → State) :
    takeFresh before k act s = s := by
  unfold takeFresh
  split
  · rfl
  · rename_i d hd
    simp [h.dues d (List.mem_of_find?_eq_some hd)]

theorem takeFreshInst_unset (before : List DueReq) (s : State) (iid : Nat) :
    Keeps Unset s (takeFreshInst before s iid) := by
  intro h
  unfold takeFreshInst
  rw [takeFresh_unset h, takeFresh_unset h, takeFresh_unset h, takeFresh_unset h]
  exact h

theorem handOff_unset (before s : State) : Keeps Unset s (handOff before s) :=
  (Keeps.foldl syncInst_unset _ s).trans ((Keeps.foldl (syncClaim_unset before) _ _).trans
    ((Keeps.foldl (fun _ (_ : Claim) h => (takeFresh_unset h ..).symm ▸ h) _ _).trans
      (.foldl (takeFreshInst_unset _) _ _)))

/-! ## The whole install -/

theorem handing_crowded (hn : n + 1 = 65376) (hm : n + 2 ≤ m) :
    HoldsStray (handing (crowdedSnapshot n m) (crowdedState n m)) := by
  obtain ⟨stray, clk⟩ := renewing_crowded hn hm
  have posted (b : Bool) : Unset (postPlanChanged b (renewing (crowdedSnapshot n m) (crowdedState n m))) := by
    have same : (postPlanChanged b (renewing (crowdedSnapshot n m) (crowdedState n m))).lst =
        (renewing (crowdedSnapshot n m) (crowdedState n m)).lst := by simp [postPlanChanged, apply_ite State.lst]
    have time : (postPlanChanged b (renewing (crowdedSnapshot n m) (crowdedState n m))).clk = powerOnClock := by
      simp [postPlanChanged, apply_ite State.clk, clk]
    refine ⟨?_, by rw [time]; rfl, fun d hd => ?_⟩
    · unfold HoldsStray
      rw [same]
      exact stray
    · rw [time] at hd
      exact absurd hd List.not_mem_nil
  have handed := handOff_unset (crowdedState n m) _ (posted (planChanged (crowdedState n m)
    (renewing (crowdedSnapshot n m) (crowdedState n m))
    ((installed (crowdedSnapshot n m) (crowdedState n m)).ids.map (fun x => x.2))))
  have host := handing_wsv (crowdedSnapshot n m) (crowdedState n m)
  unfold handing at host ⊢
  rw [(retryStarts_calm _ _).host] at host
  rw [retryStarts_asleep (by rw [hostAwake, host]; rfl)]
  exact handed.stray

theorem installPass_lst (p : Snapshot) (s : State) : (installPass p s).lst = (handing p s).lst := by
  obtain ⟨rs, -, e⟩ := answerAllHeld_replies (handing p s)
  rw [installPass_eq, endPass_frame, e]

theorem execInstall_crowded (hn : n + 1 = 65376) (hm : n + 2 ≤ m) :
    ∃ t, exec .install (crowdedState n m) = .next t ∧ HoldsStray t := by
  refine ⟨settleOutputs (crowdedState n m) (installPass (crowdedSnapshot n m) (crowdedState n m)), rfl, ?_⟩
  unfold HoldsStray
  rw [settleOutputs_insts, installPass_lst]
  exact handing_crowded hn hm

/-- Refutes O58: an install that creates 65,377 recordings gives the last of them the id of the first, which is
discarded by then (R79, R86). The placed windows of both are written on the one recording that is left, and the second of
them ends 2,100 seconds past its padded span. No part of `PlanKept` bounds the recordings of a snapshot, so it holds
before. -/
theorem not_stepsKeepThePlan : ¬ Obligations.StepsKeepThePlan := by
  intro keeps
  obtain ⟨n, hn⟩ : ∃ n, n + 1 = 65376 := ⟨65375, rfl⟩
  obtain ⟨m, hm⟩ : ∃ m, m = 65536 := ⟨65536, rfl⟩
  obtain ⟨t, run, stray⟩ := execInstall_crowded (m := m) hn (by omega)
  have before : PlanKept { crowdedState n m with pending := [.install] } := crowdedState_planKept hm.le
  exact planKept_unstrayed (keeps _ t before run) stray

end Sys2Proof.Machine

/-! PROOFS. The start attempt on a tuner that is not free (R144): the branches of the chain, and what a start that
waits, a start and a cut leave at the end of the event. -/

namespace Sys2Proof.Machine

-- one theorem after another: many at a time would want a thread each
set_option Elab.async false

open Sys2Proof

/-! ## The end of an event in which only inner parts of recordings have changed -/

section Outputs

variable {f : Inst → Inst} {s x : State}

theorem filter_map_of_state (p : InstState → Bool) (hs : ∀ i, (f i).state = i.state) (is : List Inst) :
    (is.map f).filter (fun i => p i.state) = (is.filter (fun i => p i.state)).map f := by
  rw [List.filter_map]
  exact congrArg (List.map f) (List.filter_congr (fun i _ => congrArg p (hs i)))

/-- The number of running recordings, the earliest planned window start and the action set come out the same when
states, ids and windows stand (R82). -/
theorem summaries_of_map (e : x.lst.insts = s.lst.insts.map f) (hs : ∀ i, (f i).state = i.state)
    (hid : ∀ i, (f i).id = i.id) (hw : ∀ i, (f i).window = i.window) :
    runningCount x = runningCount s ∧ earliestPlanned x = earliestPlanned s ∧ actionIds x = actionIds s := by
  refine ⟨?_, ?_, ?_⟩
  · rw [runningCount, e, filter_map_of_state isRunning hs, List.length_map]
    rfl
  · rw [earliestPlanned, plannedInsts, e, filter_map_of_state (fun st => st == .planned) hs, List.foldl_map]
    simp only [winStart, hw]
    rfl
  · rw [actionIds, idsWhere, e, filter_map_of_state (fun st => st == .starting || st == .stopping) hs, List.map_map]
    simp only [Function.comp_def, hid]
    rfl

/-- With the summaries as they were, the outputs stand (R191, R204). -/
theorem settleOutputs_unmoved (hS : Settled s) (hr : runningCount x = runningCount s)
    (he : earliestPlanned x = earliestPlanned s) (ha : actionIds x = actionIds s) (hl : x.lnk = s.lnk)
    (hw : x.wsv = s.wsv) : (settleOutputs s x).lnk = s.lnk ∧ (settleOutputs s x).wsv = s.wsv := by
  obtain ⟨earliest, action, -, -, attn, -⟩ := hS
  have unchanged : (runningCount s != runningCount (handSummaries (placeTerminals x)) ||
      s.lst.earliest != (handSummaries (placeTerminals x)).lst.earliest) = false := by
    have count : runningCount (handSummaries (placeTerminals x)) = runningCount x := rfl
    have first : (handSummaries (placeTerminals x)).lst.earliest = earliestPlanned x := rfl
    rw [count, first, hr, he, earliest, bne_self_eq_false, bne_self_eq_false]
    rfl
  have quiet (u : State) : retestStandby false u = u := if_neg (fun h => Bool.false_ne_true h.1)
  have handed : (handSummaries (placeTerminals x)).lnk = s.lnk := by
    have set : (handSummaries (placeTerminals x)).lnk = { x.lnk with actionSet := actionIds x } := rfl
    rw [set, ha, hl, ← action]
  unfold settleOutputs
  dsimp only
  rw [unchanged, quiet]
  refine ⟨?_, ?_⟩
  · rw [beginPass_lnk, setAttention, modLnk_lnk, syncWake_lnk, handed]
    exact congrArg (fun b => { s.lnk with attn := b }) attn.symm
  · rw [beginPass_wsv, setAttention_wsv, syncWake_wsv]
    exact hw

end Outputs

/-! ## The branches of the attempt (R144) -/

section Branches

variable {n : Nat} {t : Tuner} {late : Bool} {i : Inst} {s : State}

theorem mem_recordingOn {j : Inst} (h : j ∈ recordingOn t s) : j ∈ s.lst.insts :=
  List.mem_of_mem_filter ((mem_sortBy _ _ _).mp h)

/-- With no mark that names the recording there is no handover (R143). -/
theorem handovers_unmarked (hc : ∀ j ∈ s.lst.insts, j.cutBy ≠ some n) (hy : ∀ c ∈ s.run.claims, c.yieldTo ≠ some n) :
    handovers t n s = s := by
  have cuts : (recordingOn t s).filter (fun j => j.cutBy == some n) = [] :=
    List.filter_eq_nil_iff.mpr (fun j hj => by simpa using hc j (mem_recordingOn hj))
  have yields : s.run.claims.filter (fun c => c.tuner == t && c.yieldTo == some n) = [] :=
    List.filter_eq_nil_iff.mpr (fun c hk => by simp [hy c hk])
  rw [handovers, cuts, List.foldl_nil, yields, List.foldl_nil]

theorem obstacleInsts_eq : obstacleInsts t i s = obstacles t i s :=
  List.filter_congr (fun j _ => by simp [bne, Bool.beq_eq_decide_eq, Config.tunerCap])

theorem obstacleClaims_eq : obstacleClaims t i s = claimObstacles t i s :=
  List.filter_congr (fun c _ => by simp [bne, Bool.beq_eq_decide_eq])

/-- Every obstacle is STOPPING, and no claim is among them (R144). -/
abbrev AllStopping (t : Tuner) (i : Inst) (s : State) : Prop :=
  (∀ j ∈ obstacles t i s, j.state = .stopping) ∧ claimObstacles t i s = []

theorem allStopping_iff : ((obstacleInsts t i s).all (fun j => j.state == .stopping) &&
    (obstacleClaims t i s).isEmpty) = true ↔ AllStopping t i s := by
  rw [obstacleInsts_eq, obstacleClaims_eq]
  simp

theorem cuttable_iff {j : Inst} : cuttable s.clk.count i j = true ↔ Cuttable i j s := by
  simp [cuttable, Cuttable, and_assoc]

/-- Every obstacle yields to the recording: a cuttable one, or a claim of lower priority (R144). -/
abbrev AllYield (t : Tuner) (i : Inst) (s : State) : Prop :=
  (∀ j ∈ obstacles t i s, Cuttable i j s) ∧ ∀ c ∈ claimObstacles t i s, c.priority < planPrio i

theorem allYield_iff : ((obstacleInsts t i s).all (cuttable (now s) i) &&
    (obstacleClaims t i s).all (fun c => decide (c.priority < planPrio i))) = true ↔ AllYield t i s := by
  rw [obstacleInsts_eq, obstacleClaims_eq, Bool.and_eq_true, List.all_eq_true, List.all_eq_true]
  exact and_congr (forall₂_congr (fun j _ => cuttable_iff)) (forall₂_congr (fun c _ => decide_eq_true_iff))

theorem blockedStart_stopping (h : AllStopping t i s) : blockedStart t false late i s = waitForTuner false i.id s :=
  if_pos (allStopping_iff.mpr h)

theorem blockedStart_swaps (h : ¬ AllStopping t i s) (free : freeFor (otherTuner t) i s = true) :
    blockedStart t false late i s = setDirty (submit (tunerCond (otherTuner t) .soft .tunerSwapped i)
      (startOn (otherTuner t) false late i.id s)) :=
  (if_neg (fun e => h (allStopping_iff.mp e))).trans (if_pos free)

theorem blockedStart_blocked (h : ¬ AllStopping t i s) (free : freeFor (otherTuner t) i s = false)
    (keep : ¬ AllYield t i s) : blockedStart t false late i s = waitForTuner false i.id s :=
  (if_neg (fun e => h (allStopping_iff.mp e))).trans
    ((if_neg (by simp [free])).trans (if_neg (fun e => keep (allYield_iff.mp e))))

/-- An obstacle is active on the tuner. -/
theorem mem_obstacles {j : Inst} (h : j ∈ obstacles t i s) :
    j.id ∈ (tunerRun t s).active ∧ findInst j.id s = some j := by
  obtain ⟨k, hk, found⟩ := List.mem_filterMap.mp (List.mem_of_mem_filter h)
  obtain rfl := findInst_id found
  exact ⟨hk, found⟩

/-- The state in which the obstacles have been cut and revoked. -/
def cleared (t : Tuner) (i : Inst) (s : State) : State :=
  (claimObstacles t i s).foldl (fun acc c => revokeClaim c.id i.id acc)
    ((obstacles t i s).foldl (fun acc j => cutOverrun t j acc) s)

theorem blockedStart_clears (h : ¬ AllStopping t i s) (free : freeFor (otherTuner t) i s = false)
    (yields : AllYield t i s) : blockedStart t false late i s =
      if freeFor t i (cleared t i s) then startOn t false late i.id (cleared t i s)
      else waitForTuner false i.id (cleared t i s) := by
  rw [cleared, ← obstacleInsts_eq, ← obstacleClaims_eq]
  exact (if_neg (fun e => h (allStopping_iff.mp e))).trans
    ((if_neg (by simp [free])).trans (if_pos (allYield_iff.mpr yields)))

end Branches

/-! ## The event (R142 to R144) -/

section Event

variable {n : Nat} {i : Inst} {w : Window} {t : Tuner} {s : State}

/-- A window start leads to the attempt, and with its tuner not free, and no handover, to the chain of R144. -/
theorem execWindowStart_blocked (attempts : Attempts n i w t s) (busy : freeFor t i s = false)
    (hc : ∀ j ∈ s.lst.insts, j.cutBy ≠ some n) (hy : ∀ c ∈ s.run.claims, c.yieldTo ≠ some n) :
    exec (.windowStart n) s = .next (settle s (blockedStart t false (decide (w.ws < s.clk.count)) i
      (withdrawDue (.windowStart n) s))) := by
  obtain ⟨-, -, -, due, hi, planned, -, hw, ht, -, early, awake, -⟩ := attempts
  have found : findInst n (withdrawDue (.windowStart n) s) = some i := hi
  have limit : ¬ heldLimit i ≤ now (withdrawDue (.windowStart n) s) := by
    rw [heldLimit, hw]
    exact Nat.not_le.mpr early
  have host : hostAwake (withdrawDue (.windowStart n) s) = true := beq_iff_eq.mpr awake
  have first : winStart i = w.ws := by rw [winStart, hw]; rfl
  have attempt : takeWindowStart n (withdrawDue (.windowStart n) s) =
      startAttempt false (decide (w.ws < s.clk.count)) n (withdrawDue (.windowStart n) s) := by
    rw [takeWindowStart, found]
    dsimp only
    rw [if_pos planned, if_neg limit, if_pos host, first]
    rfl
  refine congrArg Host.Outcome.next ((onDue_taken (takeDue_delivered due)).trans (congrArg (settle s) ?_))
  refine attempt.trans ?_
  rw [startAttempt, found]
  dsimp only
  rw [ht]
  dsimp only
  have none : handovers t n (withdrawDue (.windowStart n) s) = withdrawDue (.windowStart n) s :=
    handovers_unmarked hc hy
  rw [if_neg Bool.false_ne_true, none]
  refine if_neg ?_
  rw [Bool.not_eq_true]
  exact busy

/-! ## A start that waits -/

/-- What the statement says of a start that waits. -/
abbrev HasWaited (n limit : Nat) (s u : State) : Prop :=
  u.lst.insts = changedAt n waiting s ∧ (heldDue (.heldLimit n) u).map (fun d => d.time) = some limit ∧
    u.run = s.run ∧ u.cnd = s.cnd ∧ u.pln = s.pln ∧ u.lnk = s.lnk ∧ u.wsv = s.wsv ∧ OtherPartsKept s u

theorem waitForTuner_eq (hi : findInst i.id s = some i) :
    waitForTuner false i.id s = ensureDue (.heldLimit i.id) (heldLimit i) (modInst i.id waiting s) := by
  rw [waitForTuner, hi]
  rfl

theorem waitForTuner_insts (hi : findInst i.id s = some i) :
    (waitForTuner false i.id s).lst.insts = changedAt i.id waiting s := by
  rw [waitForTuner_eq hi, ensureDue_lst, modInst_lst_eq]

theorem waitForTuner_limit (hi : findInst i.id s = some i) :
    (heldDue (.heldLimit i.id) (waitForTuner false i.id s)).map (fun d => d.time) = some (heldLimit i) := by
  rw [waitForTuner_eq hi, heldDue_ensureDue_time]

theorem ensureDue_delays (k : DueKind) (m : Nat) (u : State) : (ensureDue k m u).clk.delays = u.clk.delays := by
  unfold ensureDue
  repeat' split
  all_goals rfl

theorem waitForTuner_delays (hi : findInst i.id s = some i) :
    (waitForTuner false i.id s).clk.delays = s.clk.delays := by
  rw [waitForTuner_eq hi, ensureDue_delays]
  rfl

/-- At the end of the event nothing but the start held and its limit is new. -/
theorem settle_waits (hS : Settled s) (hi : findInst i.id s = some i) (k : DueKind) :
    HasWaited i.id (heldLimit i) s (settle s (waitForTuner false i.id (withdrawDue k s))) := by
  have found : findInst i.id (withdrawDue k s) = some i := hi
  let x := waitForTuner false i.id (withdrawDue k s)
  have run : x.run = s.run := waitForTuner_run ..
  have lnk : x.lnk = s.lnk := waitForTuner_lnk ..
  have wsv : x.wsv = s.wsv := waitForTuner_wsv ..
  have time : timeOf x.clk = timeOf s.clk := waitForTuner_time ..
  obtain ⟨count, cstate, offset⟩ := time_of_timeOf time
  have insts : x.lst.insts = changedAt i.id waiting s := waitForTuner_insts found
  have inner : ∀ j : Inst, (if j.id = i.id then waiting j else j).state = j.state ∧
      (if j.id = i.id then waiting j else j).id = j.id ∧ (if j.id = i.id then waiting j else j).window = j.window := by
    intro j
    split
    · exact ⟨rfl, rfl, rfl⟩
    · exact ⟨rfl, rfl, rfl⟩
  obtain ⟨running, planned, action⟩ := summaries_of_map insts (fun j => (inner j).1) (fun j => (inner j).2.1)
    (fun j => (inner j).2.2)
  obtain ⟨lnk', wsv'⟩ := settleOutputs_unmoved hS running planned action lnk wsv
  have settles : settle s x = settleOutputs s x := congrArg (settleOutputs s) (retryStarts_same_run s x run)
  show HasWaited i.id (heldLimit i) s (settle s x)
  rw [settles]
  refine ⟨?_, ?_, ?_, ?_, ?_, lnk', wsv', ?_, ?_, ?_, ?_, ?_, ?_, ?_, ?_⟩
  · rw [settleOutputs_insts, insts]
  · rw [settleOutputs_heldDue (k := .heldLimit i.id) _ _ nofun]
    exact waitForTuner_limit found
  · rw [settleOutputs_run, run]
  · rw [settleOutputs_cnd]
    exact waitForTuner_cnd ..
  · exact settleOutputs_same_pln hS (waitForTuner_pln ..) cstate
  · rw [settleOutputs_gst]
    exact waitForTuner_gst ..
  · rw [settleOutputs_bkt]
    exact waitForTuner_bkt ..
  · rw [settleOutputs_run, run]
  · rw [settleOutputs_count, count]
  · rw [settleOutputs_cstate, cstate]
  · rw [settleOutputs_offset, offset]
  · rw [lnk']
  · rw [wsv']

end Event

/-! ## A start -/

section Start

variable {t : Tuner} {late : Bool} {i : Inst} {log : CondLog} {s v x : State}

/-- A start leaves the other tuner as it was (R138). -/
theorem startOn_other (hi : findInst i.id s = some i) :
    tunerRun (otherTuner t) (startOn t false late i.id s) = tunerRun (otherTuner t) s := by
  have joined : tunerRun (otherTuner t) (joinedState t false i s) = tunerRun (otherTuner t) s := by cases t <;> rfl
  have state : tunerRun (otherTuner t) (startState t false i s) = tunerRun (otherTuner t) s := by
    obtain ⟨ds, e⟩ := startState_clk (t := t) (resume := false) (i := i) (s := s)
    rw [← joined, e]
    cases t <;> rfl
  rw [startOn_eq hi]
  split
  · rw [tunerRun_of_run (submit_run _ _), state]
  · exact state

theorem startedAs_first (t : Tuner) (m : Nat) : startedAs false t m = started t m := rfl

/-- The recording that starts, from an event that had changed neither list nor run records nor replies. -/
structure StartsFrom (t : Tuner) (i : Inst) (log : CondLog) (s x : State) : Prop where
  starts : Starts t false i log s x
  other : tunerRun (otherTuner t) x = tunerRun (otherTuner t) s

theorem StartsFrom.insts (e : StartsFrom t i log s x) : x.lst.insts = changedAt i.id (started t (winEnd i)) s := by
  rw [e.starts.lst, modInst_lst_eq, startedAs_first]
  rfl

theorem StartsFrom.nobodyWaits (e : StartsFrom t i log v x) (hN : NobodyWaits v) : NobodyWaits x := by
  intro j hj
  rw [e.insts] at hj
  obtain ⟨k, hk, rfl⟩ := List.mem_map.mp hj
  split
  · exact ⟨nofun, fun h => nomatch h.1⟩
  · exact hN k hk

theorem StartsFrom.settle_eq (e : StartsFrom t i log v x) (hN : NobodyWaits v) (before : State) :
    settle before x = settleOutputs before x :=
  congrArg (settleOutputs before) (retryStarts_nobody (e.nobodyWaits hN) before)

/-- At the end of the event the recording has started. -/
theorem StartsFrom.hasStarted (e : StartsFrom t i log v x) (hi : findInst i.id v = some i)
    (runs : ∀ y, tunerRun y v = tunerRun y s) (tx : v.lnk.tx = s.lnk.tx) (before : State) :
    HasStarted i.id t i.mux (winEnd i) s (settleOutputs before x) := by
  have action : i.id ∈ (settleOutputs before x).lnk.actionSet := by
    rw [settleOutputs_actionSet, actionIds, mem_idsWhere]
    refine ⟨started t (winEnd i) i, ?_, rfl, rfl⟩
    rw [e.insts]
    exact List.mem_map.mpr ⟨i, mem_of_findInst hi, if_pos rfl⟩
  obtain ⟨-, -, -, -, attn, -⟩ := settleOutputs_settled before x
  refine ⟨?_, ?_, ?_, ?_, action, ?_, ?_⟩
  · rw [tunerRun_of_run (settleOutputs_run before x), e.starts.run, runs]
  · rw [tunerRun_of_run (settleOutputs_run before x), e.other, runs]
  · rw [settleOutputs_heldDelay, e.starts.confirm]
  · rw [settleOutputs_heldDue (k := .stopMoment i.id) _ _ nofun, e.starts.stop]
    rfl
  · rw [attn, attnOf, List.isEmpty_eq_false_iff.mpr (List.ne_nil_of_mem action)]
    simp
  · rw [settleOutputs_tx, e.starts.tx, tx]

theorem Starts.setDirty {resume : Bool} (e : Starts t resume i log s x) : Starts t resume i log s (setDirty x) :=
  ⟨e.lst, e.run, e.claims, e.gst, e.wsv, e.bkt, e.cnd, e.tx, e.count, e.confirm, e.stop, e.limit⟩

/-- A start that is not late (R143). -/
theorem startsFrom_startOn (hi : findInst i.id v = some i) (early : ¬ (late = true ∧ i.start < v.clk.count)) :
    StartsFrom t i v.cnd v (startOn t false late i.id v) := by
  have e := startOn_starts (t := t) (resume := false) (late := late) hi
  rw [if_neg early] at e
  exact ⟨e, startOn_other hi⟩

theorem startOn_heldDue_none {m : Nat} (hi : findInst i.id v = some i) (h : heldDue (.yieldWarning m) v = none) :
    heldDue (.yieldWarning m) (startOn t false late i.id v) = none := by
  have other : DueKind.yieldWarning m ≠ .stopMoment i.id := nofun
  have joined : heldDue (.yieldWarning m) (joinedState t false i v) = none := by
    have delayed (k : DelayKind) (l : Nat) (u : State) (d : DueKind) : heldDue d (startDelay k l u) = heldDue d u := rfl
    rw [joinedState, delayed, heldDue_requestDue_other other]
    refine heldDue_none_of_sublist ?_ h
    rw [joinActive_clk]
    exact withdrawDues_sublist _ v
  have core : DueKind.yieldWarning m ≠ .coreEnd i.id := nofun
  have state : heldDue (.yieldWarning m) (startState t false i v) = none := (startState_heldDue core).trans joined
  rw [startOn_eq hi]
  split
  · rw [heldDue_of_clk (submit_clk _ _), state]
  · exact state

theorem startOn_notice {m : Notice} (hi : findInst i.id v = some i) (h : m ∈ v.lnk.notices) :
    m ∈ (startOn t false late i.id v).lnk.notices := by
  have state : m ∈ (startState t false i v).lnk.notices := by
    obtain ⟨ds, e⟩ := startState_clk (t := t) (resume := false) (i := i) (s := v)
    rw [e]
    cases t <;> exact h
  rw [startOn_eq hi]
  split
  · exact submit_notice _ state
  · exact state

end Start

/-! ## A swap, a revocation and a cut -/

section Chain

variable {t : Tuner} {late : Bool} {i : Inst} {s v : State}

/-- A start on the other tuner, in an event that has taken its request (R144). -/
theorem settle_swapped (hN : NobodyWaits s) (hi : findInst i.id s = some i)
    (early : ¬ (late = true ∧ i.start < s.clk.count)) (c : Condition) {u : State}
    (hu : u = settle s (setDirty (submit c (startOn t false late i.id (withdrawDue (.windowStart i.id) s))))) :
    u.lst.insts = changedAt i.id (started t (winEnd i)) s ∧ HasStarted i.id t i.mux (winEnd i) s u ∧
      u.cnd = (submit c s).cnd ∧ PassAsked s u ∧ OtherPartsKept s u := by
  let v := withdrawDue (.windowStart i.id) s
  have found : findInst i.id v = some i := hi
  let y := startOn t false late i.id v
  have base : StartsFrom t i v.cnd v y := startsFrom_startOn found early
  have other : tunerRun (otherTuner t) (setDirty (submit c y)) = tunerRun (otherTuner t) v := by
    rw [← base.other]
    exact tunerRun_of_run ((setDirty_run _).trans (submit_run c y)) _
  have e : StartsFrom t i (submit c v).cnd v (setDirty (submit c y)) := ⟨(base.starts.submit c).setDirty, other⟩
  have quiet : Quiet v (setDirty (submit c y)) :=
    (startOn_quiet t false late i.id v).trans ((submit_quiet c y).trans (setDirty_quiet _))
  obtain ⟨count, cstate, offset⟩ := time_of_timeOf quiet.time
  obtain ⟨ns, o, lnk⟩ := (startOn_calm t false late i.id v).notices.trans
    ((submit_noticesOnly c y).trans (setDirty_calm _).notices)
  rw [e.settle_eq hN s] at hu
  subst hu
  refine ⟨?_, e.hasStarted found (fun _ => rfl) rfl s, ?_, settleOutputs_asks ?_, ?_, ?_, ?_, ?_, ?_, ?_, ?_, ?_⟩
  · rw [settleOutputs_insts, e.insts]
    rfl
  · rw [settleOutputs_cnd, e.starts.cnd]
    exact submit_cnd_congr c rfl rfl
  · rw [setDirty_pln, submit_pln, startOn_pln]
    rfl
  · rw [settleOutputs_gst, e.starts.gst]
    rfl
  · rw [settleOutputs_bkt, e.starts.bkt]
    rfl
  · rw [settleOutputs_run, e.starts.claims]
    rfl
  · rw [settleOutputs_count, count]
    rfl
  · rw [settleOutputs_cstate, cstate]
    rfl
  · rw [settleOutputs_offset, offset]
    rfl
  · rw [settleOutputs_held, lnk]
    rfl
  · rw [settleOutputs_wsv, e.starts.wsv]
    rfl

theorem revokeClaim_tunerRun (c n : Nat) (y : Tuner) (s : State) : tunerRun y (revokeClaim c n s) = tunerRun y s := by
  rw [← tunerRun_of_run (postNotice_run (.claimRevoked c n) s) y]
  cases y <;> rfl

theorem revokeClaim_claims (c n : Nat) (s : State) :
    (revokeClaim c n s).run.claims = s.run.claims.filter (fun d => d.id != c) := by
  rw [revokeClaim, removeClaim, setDirty_run]
  show (postNotice _ s).run.claims.filter _ = _
  rw [postNotice_run]

/-- A claim that was alone in the way is revoked, and the tuner is free (R155, R156). -/
theorem freeFor_revoked {c : Claim} {n : Nat} (none : obstacles t i s = []) (few : (tunerRun t s).active.length < 4)
    (one : claimObstacles t i s = [c]) : freeFor t i (revokeClaim c.id n s) = true := by
  have active : activeOn t (revokeClaim c.id n s) = activeOn t s := by
    rw [activeOn, activeOn, revokeClaim_tunerRun]
    exact List.filterMap_congr (fun k _ => findInst_of_lst (revokeClaim_lst ..) k)
  rw [freeFor, active, revokeClaim_tunerRun, revokeClaim_claims]
  simp only [Bool.and_eq_true, List.all_eq_true, decide_eq_true_eq]
  refine ⟨⟨fun j hj => ?_, few⟩, fun d hd => ?_⟩
  · have clear := List.filter_eq_nil_iff.mp none j hj
    simp only [ne_eq, Bool.or_eq_true, decide_eq_true_eq, not_or, not_not] at clear
    exact beq_iff_eq.mpr clear.1
  · obtain ⟨held, differ⟩ := List.mem_filter.mp hd
    by_contra blocks
    have among : d ∈ claimObstacles t i s := by
      refine List.mem_filter.mpr ⟨held, ?_⟩
      simpa using blocks
    rw [one, List.mem_singleton] at among
    simp [among] at differ

/-- With one claim in the way, of lower priority, the chain revokes it and starts (R144). -/
theorem blockedStart_revokes {c : Claim} (taken : freeFor (otherTuner t) i s = false) (none : obstacles t i s = [])
    (few : (tunerRun t s).active.length < 4) (one : claimObstacles t i s = [c]) (lower : c.priority < planPrio i) :
    blockedStart t false late i s = startOn t false late i.id (revokeClaim c.id i.id s) := by
  have moving : ¬ AllStopping t i s := fun h => nomatch one.symm.trans h.2
  have yields : AllYield t i s := by
    refine ⟨fun k hk => ?_, fun d hk => ?_⟩
    · exact absurd (none ▸ hk) List.not_mem_nil
    · rw [one, List.mem_singleton] at hk
      exact hk ▸ lower
  have revoked : cleared t i s = revokeClaim c.id i.id s := by
    rw [cleared, none, one]
    rfl
  rw [blockedStart_clears moving taken yields, revoked, freeFor_revoked none few one, if_pos rfl]

/-- The start when the one claim in the way has been revoked (R156). -/
theorem settle_revoked (hN : NobodyWaits s) (hi : findInst i.id s = some i)
    (early : ¬ (late = true ∧ i.start < s.clk.count)) (c : Claim) {u : State}
    (hu : u = settle s (startOn t false late i.id (revokeClaim c.id i.id (withdrawDue (.windowStart i.id) s)))) :
    u.lst.insts = changedAt i.id (started t (winEnd i)) s ∧ HasStarted i.id t i.mux (winEnd i) s u ∧
      u.run.claims = s.run.claims.filter (fun x => x.id != c.id) ∧ heldDue (.yieldWarning c.id) u = none ∧
      (s.lnk.notices.length < 48 →
        ({ body := .claimRevoked c.id i.id, time := s.clk.count } : Notice) ∈ u.lnk.notices) ∧
      PassAsked s u ∧ u.cnd = s.cnd ∧ u.bkt = s.bkt ∧ u.gst = s.gst := by
  let v := revokeClaim c.id i.id (withdrawDue (.windowStart i.id) s)
  have lst : v.lst = s.lst := revokeClaim_lst ..
  have found : findInst i.id v = some i := (findInst_of_lst lst i.id).trans hi
  have count : v.clk.count = s.clk.count := (time_of_timeOf (revokeClaim_time ..)).1
  have runs (y : Tuner) : tunerRun y v = tunerRun y s := revokeClaim_tunerRun ..
  have waits : NobodyWaits v := by
    intro j hj
    rw [lst] at hj
    exact hN j hj
  have tx : v.lnk.tx = s.lnk.tx := by
    obtain ⟨ns, o, lnk⟩ := (revokeClaim_calm c.id i.id (withdrawDue (.windowStart i.id) s)).notices
    exact congrArg (fun l => l.tx) lnk
  have e : StartsFrom t i v.cnd v (startOn t false late i.id v) := startsFrom_startOn found (by rwa [count])
  rw [e.settle_eq waits s] at hu
  subst hu
  refine ⟨?_, e.hasStarted found runs tx s, ?_, ?_, fun room => ?_, settleOutputs_asks ?_, ?_, ?_, ?_⟩
  · rw [settleOutputs_insts, e.insts, changedAt, lst]
    rfl
  · rw [settleOutputs_run, e.starts.claims]
    exact revokeClaim_claims ..
  · rw [settleOutputs_heldDue (k := .yieldWarning c.id) _ _ nofun]
    exact startOn_heldDue_none found (heldDue_withdrawDue_same _ _)
  · refine settleOutputs_notice _ _ (startOn_notice found ?_)
    obtain ⟨-, e⟩ | ⟨full, -⟩ := postNotice_cases (.claimRevoked c.id i.id) (withdrawDue (.windowStart i.id) s)
    · show _ ∈ (removeClaim c.id (postNotice (.claimRevoked c.id i.id) (withdrawDue (.windowStart i.id) s))).lnk.notices
      rw [removeClaim_lnk, e]
      exact List.mem_append_right _ (List.mem_singleton_self _)
    · exact absurd room (Nat.not_lt.mpr full)
  · rw [startOn_pln]
    exact (setDirty_pln _).trans (congrArg (dirtied true) (postNotice_pln (.claimRevoked c.id i.id) _))
  · rw [settleOutputs_cnd, e.starts.cnd]
    exact revokeClaim_cnd ..
  · rw [settleOutputs_bkt, e.starts.bkt]
    exact revokeClaim_bkt ..
  · rw [settleOutputs_gst, e.starts.gst]
    exact revokeClaim_gst ..

/-- A recording that has been cut stands in the way as it did (R148). -/
theorem freeFor_cut {j : Inst} (hj : findInst j.id s = some j) (gap : NoGapOn j s) (hr : j.state = .recording)
    (mux : j.mux ≠ i.mux) (active : j.id ∈ (tunerRun t s).active) : freeFor t i (cutOverrun t j s) = false := by
  have e := enterStopping_stops (reason := .overrunCut) hj gap hr
  have run : (tunerRun t (cutOverrun t j s)).active = (tunerRun t s).active := by
    rw [cutOverrun, tunerRun_of_run (submit_run _ _), e.active]
  have found : findInst j.id (cutOverrun t j s) = some (stopped .overrunCut s.clk.count j) := by
    rw [cutOverrun, findInst_of_lst (submit_lst _ _), findInst_of_lst e.moved.lst,
      findInst_modInst_same j.id (stopped .overrunCut s.clk.count) (fun _ => rfl), hj]
    rfl
  have among : stopped .overrunCut s.clk.count j ∈ activeOn t (cutOverrun t j s) :=
    List.mem_filterMap.mpr ⟨j.id, by rwa [run], found⟩
  rw [← Bool.not_eq_true]
  intro free
  simp only [freeFor, Bool.and_eq_true, List.all_eq_true, beq_iff_eq] at free
  have shared := free.1.1 (stopped .overrunCut s.clk.count j) among
  exact mux shared

/-- With one recording in the way, which may be cut, the chain cuts it and waits (R144). -/
theorem blockedStart_cuts {j : Inst} (taken : freeFor (otherTuner t) i s = false) (one : obstacles t i s = [j])
    (none : claimObstacles t i s = []) (cuts : Cuttable i j s) (gap : NoGapOn j s) :
    blockedStart t false late i s = waitForTuner false i.id (cutOverrun t j s) := by
  have only : j ∈ obstacles t i s := one ▸ List.mem_singleton_self j
  obtain ⟨active, hj⟩ := mem_obstacles only
  have ⟨hr, mux, _⟩ := cuts
  have moving : ¬ AllStopping t i s := fun h => nomatch hr.symm.trans (h.1 j only)
  have yields : AllYield t i s := by
    refine ⟨fun k hk => ?_, fun c hk => ?_⟩
    · rw [one, List.mem_singleton] at hk
      exact hk ▸ cuts
    · exact absurd (none ▸ hk) List.not_mem_nil
  have cut : cleared t i s = cutOverrun t j s := by
    rw [cleared, one, none]
    rfl
  rw [blockedStart_clears moving taken yields, cut, freeFor_cut hj gap hr mux active, if_neg Bool.false_ne_true]

/-- The start waits for the recording that it has cut (R144, R148). -/
theorem settle_cut {j : Inst} (hi : findInst i.id s = some i) (hj : findInst j.id s = some j) (differ : j.id ≠ i.id)
    (gap : NoGapOn j s) (hr : j.state = .recording) {u : State}
    (hu : u = settle s (waitForTuner false i.id (cutOverrun t j (withdrawDue (.windowStart i.id) s)))) :
    u.lst.insts = s.lst.insts.map (fun k => if k.id = j.id then stopped .overrunCut s.clk.count k
        else if k.id = i.id then waiting k else k) ∧
      heldDelay (.stopConfirm j.id) u = some { kind := .stopConfirm j.id, left := 30 * Config.unitsPerSecond } ∧
      (heldDue (.heldLimit i.id) u).map (fun d => d.time) = some (heldLimit i) ∧
      (∀ x, (tunerRun x u).active = (tunerRun x s).active) ∧
      u.cnd = (submit (tunerCond t .deferred .overrunCut j) s).cnd ∧
      (j.overrun ≠ none → PassAsked s u) ∧ u.lnk.tx = s.lnk.tx ∧ OtherPartsKept s u := by
  let v := withdrawDue (.windowStart i.id) s
  let y := enterStopping .overrunCut j.id v
  let z := cutOverrun t j v
  have e : Stops j .overrunCut v y := enterStopping_stops (s := v) hj gap hr
  have cut : z = submit (tunerCond t .deferred .overrunCut j) y := rfl
  have lst : z.lst = (modInst j.id (stopped .overrunCut s.clk.count) v).lst := by
    rw [cut, submit_lst, e.moved.lst]
    rfl
  have run : z.run = y.run := by rw [cut, submit_run]
  have clk : z.clk = y.clk := by rw [cut, submit_clk]
  have found : findInst i.id z = some i := by
    rw [findInst_of_lst lst, findInst_modInst_other differ.symm (stopped .overrunCut s.clk.count) (fun _ => rfl)]
    exact hi
  let x := waitForTuner false i.id z
  have active (d : Tuner) : (tunerRun d x).active = (tunerRun d s).active := by
    rw [tunerRun_of_run ((waitForTuner_run ..).trans run), e.active]
    rfl
  have claims : x.run.claims = s.run.claims := by
    rw [waitForTuner_run, run, e.moved.claims]
    rfl
  obtain ⟨count, cstate, offset⟩ := time_of_timeOf ((waitForTuner_time false i.id z).trans
    ((congrArg timeOf clk).trans e.moved.time))
  obtain ⟨ns, o, lnk⟩ := e.moved.notices.trans (submit_noticesOnly (tunerCond t .deferred .overrunCut j) y)
  have settles : settle s x = settleOutputs s x :=
    congrArg (settleOutputs s) (retryStarts_same_waits (active .a) (active .b) claims)
  replace hu : u = settleOutputs s x := hu.trans settles
  subst hu
  refine ⟨?_, ?_, ?_, fun d => ?_, ?_, fun overruns => settleOutputs_asks ?_, ?_, ?_, ?_, ?_, ?_, ?_, ?_, ?_, ?_⟩
  · have both (k : Inst) : (if (if k.id = j.id then stopped .overrunCut s.clk.count k else k).id = i.id then
        waiting (if k.id = j.id then stopped .overrunCut s.clk.count k else k)
        else if k.id = j.id then stopped .overrunCut s.clk.count k else k) =
        if k.id = j.id then stopped .overrunCut s.clk.count k else if k.id = i.id then waiting k else k := by
      by_cases same : k.id = j.id
      · have other : ¬ (stopped .overrunCut s.clk.count k).id = i.id := fun h => differ (same.symm.trans h)
        rw [if_pos same, if_neg other, if_pos same]
      · rw [if_neg same, if_neg same]
    rw [settleOutputs_insts, waitForTuner_insts found, changedAt, lst, modInst_lst_eq]
    dsimp only
    rw [changedAt, List.map_map]
    exact List.map_congr_left (fun k _ => both k)
  · rw [settleOutputs_heldDelay, heldDelay_of_delays (waitForTuner_delays found),
      heldDelay_of_delays (congrArg (fun k => k.delays) clk), e.stop]
  · rw [settleOutputs_heldDue (k := .heldLimit i.id) _ _ nofun]
    exact waitForTuner_limit found
  · rw [tunerRun_of_run (settleOutputs_run s x), active]
  · rw [settleOutputs_cnd, waitForTuner_cnd, cut]
    exact submit_cnd_congr _ e.moved.cnd (time_of_timeOf e.moved.time).1
  · rw [waitForTuner_pln, cut, submit_pln, e.pln, Option.isSome_iff_ne_none.mpr overruns]
    rfl
  · rw [settleOutputs_tx, waitForTuner_lnk, cut, lnk]
    rfl
  · rw [settleOutputs_gst, waitForTuner_gst, cut, submit_gst, e.moved.gst]
    rfl
  · rw [settleOutputs_bkt, waitForTuner_bkt, cut, submit_bkt, e.bkt]
    rfl
  · rw [settleOutputs_run, claims]
  · rw [settleOutputs_count, count]
    rfl
  · rw [settleOutputs_cstate, cstate]
    rfl
  · rw [settleOutputs_offset, offset]
    rfl
  · rw [settleOutputs_held, waitForTuner_lnk, cut, lnk]
    rfl
  · rw [settleOutputs_wsv, waitForTuner_wsv, cut, submit_wsv, e.moved.wsv]
    rfl

end Chain

/-! ## The chain of R144 -/

/-- Settles O24, branch by branch of `blockedStart`. -/
theorem busyTunerStartWaitsSwapsOrCuts : Obligations.BusyTunerStartWaitsSwapsOrCuts := by
  intro s n i w t attempts busy hc hy
  have run := execWindowStart_blocked attempts busy hc hy
  obtain ⟨hS, -, -, -, hi, planned, -, hw, -, hg, -, -, hN⟩ := attempts
  obtain rfl := findInst_id hi
  have stop : winEnd i = w.we := by rw [winEnd, hw]; rfl
  have limit : heldLimit i = min (w.we - 60) (i.start + i.dur) := by rw [heldLimit, hw]; rfl
  have early (h : s.clk.count ≤ w.ws ∨ s.clk.count ≤ i.start) :
      ¬ (decide (w.ws < s.clk.count) = true ∧ i.start < s.clk.count) := by
    rw [decide_eq_true_eq]
    omega
  have waited := settle_waits hS hi (.windowStart i.id)
  rw [limit] at waited
  let v := withdrawDue (.windowStart i.id) s
  refine ⟨fun stopping => ?_, fun moving free soon => ?_, fun j taken one none yields => ?_,
    fun c taken none few one lower soon => ?_, fun moving taken keep => ?_⟩
  · rw [blockedStart_stopping (s := v) stopping] at run
    exact ⟨_, run, waited⟩
  · rw [blockedStart_swaps (s := v) moving free] at run
    refine ⟨_, run, ?_⟩
    rw [← stop]
    exact settle_swapped hN hi (early soon) _ rfl
  · have only : j ∈ obstacles t i s := one ▸ List.mem_singleton_self j
    obtain ⟨-, hj⟩ := mem_obstacles only
    have differ : j.id ≠ i.id := by
      intro same
      rw [same, hi] at hj
      have recording : j.state = .recording := yields.1
      rw [← Option.some.inj hj, planned] at recording
      exact nomatch recording
    rw [blockedStart_cuts (s := v) taken one none yields (fun x _ => hg x)] at run
    refine ⟨_, run, ?_⟩
    rw [← limit]
    exact settle_cut hi hj differ (fun x _ => hg x) yields.1 rfl
  · rw [blockedStart_revokes (s := v) taken none few one lower] at run
    refine ⟨_, run, ?_⟩
    rw [← stop]
    exact settle_revoked hN hi (early soon) c rfl
  · have keeps : ¬ AllYield t i v := by
      rintro ⟨cuts, lower⟩
      obtain ⟨j, hj, stands⟩ | ⟨c, hk, higher⟩ := keep
      · exact stands (cuts j hj)
      · exact absurd (lower c hk) (Nat.not_lt.mpr higher)
    rw [blockedStart_blocked (s := v) moving taken keeps] at run
    exact ⟨_, run, waited⟩

end Sys2Proof.Machine

/-! PROOFS. What Run Control's shared operations do to the tuner run records, the claims and the Wake Supervisor: the run
records keep their ranges, claims go or change their marks alone, and the Wake Supervisor stands (R138, R154, R158). -/

namespace Sys2Proof.Machine

-- one theorem after another: many at a time would want a thread each
set_option Elab.async false

open Sys2Proof

/-! ## The two invariants, part by part -/

/-- Run Control's settings in range (R139). -/
abbrev SettingsKept (r : RunControl) : Prop :=
  1 ≤ r.gapTol ∧ r.gapTol ≤ 255 ∧ 10 ≤ r.abandonLimit ∧ r.abandonLimit ≤ 900 ∧ r.overrunLimit ≤ 14400

theorem tunersKept_iff {s : State} : TunersKept s ↔ (∀ t, TunerKept (tunerRun t s)) ∧ SettingsKept s.run := by
  constructor
  · rintro ⟨a, b, settings⟩
    exact ⟨fun t => by cases t; exacts [a, b], settings⟩
  · rintro ⟨h, settings⟩
    exact ⟨h .a, h .b, settings⟩

/-- The claims held: ids 1 and 2, none twice, each on a multiplex and with a priority up to 7 (R154). -/
abbrev ClaimsKept (cs : List Claim) : Prop :=
  (∀ c ∈ cs, (c.id = 1 ∨ c.id = 2) ∧ 1 ≤ c.mux ∧ c.priority ≤ 7) ∧ (cs.map (fun c => c.id)).Nodup

/-- The Wake Supervisor by itself (R180 to R187). -/
abbrev WakeKept (w : WakeSup) : Prop :=
  (w.wakeOut = true ↔ w.host = .waking) ∧ (w.silentFloor ≠ none ↔ w.host = .silent) ∧
  (w.standbyWanted = true → w.host = .awake) ∧ (w.host = .waking → 1 ≤ w.attempts) ∧ w.attempts ≤ 3 ∧
  30 ≤ w.wakeLead ∧ w.wakeLead ≤ 900 ∧ (∀ n ∈ w.keepCode, n ≤ 7)

theorem hostKept_iff {s : State} :
    HostKept s ↔ WakeKept s.wsv ∧ ClaimsKept s.run.claims ∧ (s.run.claims ≠ [] → s.wsv.host = .awake) := by
  simp only [HostKept, WakeKept, ClaimsKept, and_assoc]

/-- A claim but for its yield mark. -/
def unmarked (c : Claim) : Claim := { c with yieldTo := none }

theorem claimsKept_unmarked {cs : List Claim} : ClaimsKept (cs.map unmarked) ↔ ClaimsKept cs := by
  simp [ClaimsKept, unmarked, Function.comp_def]

theorem ClaimsKept.sublist {cs ds : List Claim} (h : ds.Sublist cs) (kept : ClaimsKept cs) : ClaimsKept ds :=
  ⟨fun c hc => kept.1 c (h.subset hc), kept.2.sublist (h.map _)⟩

/-! ## From one state to another -/

/-- From `s` to `t` the run records keep their ranges, of the claims some may have gone and marks may have changed, and the
Wake Supervisor stands. -/
structure Drives (s t : State) : Prop where
  tuners : Keeps TunersKept s t
  claims : (t.run.claims.map unmarked).Sublist (s.run.claims.map unmarked)
  wsv : t.wsv = s.wsv

/-- What holds of the tuners and of the host in `s` holds in `t` (R138, R139, R154, R155, R158, R180 to R187). -/
structure KeepsRun (s t : State) : Prop where
  tuners : Keeps TunersKept s t
  host : Keeps HostKept s t

section Drives

variable {s t u : State}

theorem tunersKept_of_run (h : t.run = s.run) : Keeps TunersKept s t := by
  intro hs
  rw [TunersKept, h]
  exact hs

/-- An operation that leaves Run Control and the Wake Supervisor alone. -/
theorem Drives.same (hr : t.run = s.run := by simp) (hw : t.wsv = s.wsv := by simp) : Drives s t :=
  ⟨tunersKept_of_run hr, by rw [hr], hw⟩

theorem Drives.refl (s : State) : Drives s s := .same rfl rfl

theorem Drives.trans (h : Drives s t) (k : Drives t u) : Drives s u :=
  ⟨h.tuners.trans k.tuners, k.claims.trans h.claims, k.wsv.trans h.wsv⟩

theorem Drives.ite {p : Prop} [Decidable p] (ht : Drives s t) (hu : Drives s u) : Drives s (if p then t else u) := by
  split
  · exact ht
  · exact hu

/-- A fold over anything that carries a state. -/
theorem Drives.foldl_of {α β : Type} (p : β → State) {f : β → α → β} (h : ∀ b x, Drives (p b) (p (f b x)))
    (xs : List α) (b : β) : Drives (p b) (p (xs.foldl f b)) := by
  induction xs generalizing b with
  | nil => exact .refl (p b)
  | cons x xs ih => exact (h b x).trans (ih (f b x))

theorem Drives.foldl {α : Type} {f : State → α → State} (h : ∀ u x, Drives u (f u x)) (xs : List α) (s : State) :
    Drives s (xs.foldl f s) := .foldl_of id h xs s

theorem Drives.noClaims (h : Drives s t) (none : s.run.claims = []) : t.run.claims = [] := by
  have fewer := h.claims
  rw [none, List.map_nil, List.sublist_nil, List.map_eq_nil_iff] at fewer
  exact fewer

theorem Drives.keeps (h : Drives s t) : KeepsRun s t := by
  refine ⟨h.tuners, fun hs => ?_⟩
  obtain ⟨wake, claims, awake⟩ := hostKept_iff.mp hs
  refine hostKept_iff.mpr ⟨h.wsv ▸ wake, ?_, fun held => ?_⟩
  · exact claimsKept_unmarked.mp (ClaimsKept.sublist h.claims (claimsKept_unmarked.mpr claims))
  · rw [h.wsv]
    exact awake (fun none => held (h.noClaims none))

end Drives

theorem submit_drives (c : Condition) (s : State) : Drives s (submit c s) := .same

theorem postNotice_drives (b : NoticeBody) (s : State) : Drives s (postNotice b s) := .same

theorem setDirty_drives (s : State) : Drives s (setDirty s) := .same

theorem setDirtyIf_drives (b : Bool) (s : State) : Drives s (setDirtyIf b s) := .same

theorem withdrawDue_drives (k : DueKind) (s : State) : Drives s (withdrawDue k s) := .same

theorem withdrawDues_drives (ks : List DueKind) (s : State) : Drives s (withdrawDues ks s) := .same

theorem requestDue_drives (k : DueKind) (m : Nat) (s : State) : Drives s (requestDue k m s) := .same

theorem ensureDue_drives (k : DueKind) (m : Nat) (s : State) : Drives s (ensureDue k m s) := .same

theorem startDelay_drives (k : DelayKind) (n : Nat) (s : State) : Drives s (startDelay k n s) := .same

theorem modInst_drives (iid : Nat) (f : Inst → Inst) (s : State) : Drives s (modInst iid f s) := .same

/-! ## One run record, the claims -/

theorem modTuner_run_claims (t : Tuner) (f : TunerRun → TunerRun) (s : State) :
    (modTuner t f s).run.claims = s.run.claims := by
  cases t <;> rfl

theorem modTuner_run_settings (t : Tuner) (f : TunerRun → TunerRun) (s : State) :
    (modTuner t f s).run.gapTol = s.run.gapTol ∧ (modTuner t f s).run.abandonLimit = s.run.abandonLimit ∧
      (modTuner t f s).run.overrunLimit = s.run.overrunLimit := by
  cases t <;> exact ⟨rfl, rfl, rfl⟩

/-- One run record rewritten within its ranges. -/
theorem modTuner_drives {t : Tuner} {f : TunerRun → TunerRun} {s : State}
    (h : TunerKept (tunerRun t s) → TunerKept (f (tunerRun t s))) : Drives s (modTuner t f s) := by
  refine ⟨fun hs => ?_, ?_, modTuner_wsv t f s⟩
  · obtain ⟨kept, settings⟩ := tunersKept_iff.mp hs
    obtain ⟨tol, limit, overrun⟩ := modTuner_run_settings t f s
    refine tunersKept_iff.mpr ⟨fun x => ?_, ?_⟩
    · by_cases same : x = t
      · rw [same, tunerRun_modTuner_same]
        exact h (kept t)
      · rw [tunerRun_modTuner_other same]
        exact kept x
    · rw [SettingsKept, tol, limit, overrun]
      exact settings
  · rw [modTuner_run_claims]

/-- Claims that go, or whose marks change. -/
theorem modClaims_drives {g : List Claim → List Claim} {s : State}
    (h : ((g s.run.claims).map unmarked).Sublist (s.run.claims.map unmarked)) :
    Drives s (modRun (fun r => { r with claims := g r.claims }) s) := ⟨id, h, rfl⟩

theorem removeClaim_drives (cid : Nat) (s : State) : Drives s (removeClaim cid s) :=
  (modClaims_drives (g := fun cs => cs.filter (fun c => c.id != cid)) (List.filter_sublist.map _)).trans
    ((withdrawDue_drives _ _).trans (setDirty_drives _))

theorem revokeClaim_drives (cid iid : Nat) (s : State) : Drives s (revokeClaim cid iid s) :=
  Drives.trans (t := postNotice (.claimRevoked cid iid) s) .same (removeClaim_drives cid _)

theorem dropClaims_drives (s : State) : Drives s (dropClaims s) :=
  .ite (.refl s) ((modClaims_drives (g := fun _ => []) (List.nil_sublist _)).trans .same)

theorem dropClaims_none (s : State) : (dropClaims s).run.claims = [] := by
  unfold dropClaims
  split
  · exact List.isEmpty_iff.mp ‹_›
  · rw [setDirty_run]
    rfl

/-! ## The active recordings (R138) -/

theorem dropActive_kept (iid : Nat) {r : TunerRun} (h : TunerKept r) : TunerKept (dropActive iid r) := by
  obtain ⟨few, idle, drop, off⟩ := h
  unfold dropActive
  split
  · rename_i held
    have busy : r.mux ≠ none := fun none => by
      rw [idle.mpr none] at held
      simp at held
    refine ⟨(List.length_filter_le _ _).trans few, ?_, drop, off⟩
    dsimp only
    cases r.active.filter (fun k => k != iid) with
    | nil => simp
    | cons k ks => simpa using busy
  · exact ⟨few, idle, drop, off⟩

theorem leaveActive_drives (iid : Nat) (s : State) : Drives s (leaveActive iid s) :=
  (modTuner_drives (dropActive_kept iid)).trans (modTuner_drives (dropActive_kept iid))

/-- A recording joins a tuner on which fewer than four are active. -/
theorem joinActive_drives {t : Tuner} {s : State} (room : (tunerRun t s).active.length < Config.tunerCap) (i : Inst) :
    Drives s (joinActive t i s) := by
  refine modTuner_drives (fun ⟨_, _, drop, off⟩ => ⟨?_, by simp, drop, off⟩)
  simpa using room

theorem freeFor_room {t : Tuner} {i : Inst} {s : State} (h : freeFor t i s = true) :
    (tunerRun t s).active.length < Config.tunerCap := by
  simp only [freeFor, Bool.and_eq_true, decide_eq_true_eq] at h
  exact h.1.2

/-! ## The lock monitors (R157 to R161) -/

/-- Charging a gap notes the recording charged, and nothing else of Run Control (R159). -/
theorem chargeGap_run (t : Tuner) (upTo iid : Nat) (s : State) :
    ∃ cs, (chargeGap t upTo iid s).run = (modTuner t (fun r => { r with charged := cs }) s).run := by
  have unchanged : ∃ cs, s.run = (modTuner t (fun r => { r with charged := cs }) s).run :=
    ⟨(tunerRun t s).charged, by cases t <;> rfl⟩
  unfold chargeGap
  split
  · split
    · exact unchanged
    · dsimp only
      split
      · exact unchanged
      · exact ⟨(tunerRun t s).charged.filter (fun k => k != iid) ++ [iid], by cases t <;> rfl⟩
  · exact unchanged

theorem modTuner_run_congr {t : Tuner} {f : TunerRun → TunerRun} {s u : State} (h : u.run = s.run) :
    (modTuner t f u).run = (modTuner t f s).run := by
  cases t <;> simp [modTuner, h]

theorem modTuner_run_charged (t : Tuner) (cs ds : List Nat) (s : State) :
    (modTuner t (fun r => { r with charged := cs }) (modTuner t (fun r => { r with charged := ds }) s)).run =
      (modTuner t (fun r => { r with charged := cs }) s).run := by
  cases t <;> rfl

theorem chargeGaps_run (t : Tuner) (upTo : Nat) (is : List Inst) (s : State) :
    ∃ cs, (is.foldl (fun u i => chargeGap t upTo i.id u) s).run =
      (modTuner t (fun r => { r with charged := cs }) s).run := by
  induction is generalizing s with
  | nil => exact ⟨(tunerRun t s).charged, by cases t <;> rfl⟩
  | cons i is ih =>
    obtain ⟨ds, one⟩ := chargeGap_run t upTo i.id s
    obtain ⟨cs, rest⟩ := ih (chargeGap t upTo i.id s)
    exact ⟨cs, rest.trans ((modTuner_run_congr one).trans (modTuner_run_charged t cs ds s))⟩

/-- Closing a gap forgets the drop time and who was charged, and changes nothing else of Run Control (R159). -/
theorem closeGap_run (t : Tuner) (s : State) :
    (closeGap t s).run = (modTuner t (fun r => { r with drop := none, charged := [] }) s).run := by
  obtain ⟨cs, charged⟩ := chargeGaps_run t (monTime s) (recordingOn t s) s
  unfold closeGap
  simp only [submit_run, advanceGap_run, withdrawDue_run]
  exact (modTuner_run_congr (u := bumpFree _) charged).trans (by cases t <;> rfl)

theorem chargeGap_drives (t : Tuner) (upTo iid : Nat) (s : State) : Drives s (chargeGap t upTo iid s) := by
  obtain ⟨cs, e⟩ := chargeGap_run t upTo iid s
  exact (modTuner_drives (f := fun r => { r with charged := cs }) id).trans (.same e (by simp))

/-- A gap that is closed leaves its monitor in another state (R158, R160, R161). -/
theorem closeGap_drives {t : Tuner} {f : TunerRun → TunerRun} {s : State}
    (h : TunerKept (tunerRun t s) → TunerKept (f { tunerRun t s with drop := none, charged := [] })) :
    Drives s (modTuner t f (closeGap t s)) := by
  have d : Drives s (modTuner t (fun r => f { r with drop := none, charged := [] }) s) := modTuner_drives h
  refine d.trans (.same ?_ (by simp))
  rw [modTuner_run_congr (closeGap_run t s)]
  cases t <;> rfl

theorem monitorOff_drives (t : Tuner) (s : State) : Drives s (monitorOff t s) := by
  have off {r : TunerRun} : TunerKept r →
      TunerKept { r with mon := .off, tol := 0, drop := none, grace := none, charged := [] } :=
    fun ⟨few, idle, _, _⟩ => ⟨few, idle, by simp, fun _ => rfl⟩
  have turned : Drives s (modTuner t (fun r => { r with mon := .off, tol := 0, drop := none, grace := none, charged := [] })
      (if (tunerRun t s).mon = .gap then closeGap t s else s)) := by
    split
    · exact closeGap_drives off
    · exact modTuner_drives off
  exact turned.trans (.same rfl rfl)

theorem monitorCheckOf_drives (i : Inst) (s : State) : Drives s (monitorCheckOf i s) := by
  unfold monitorCheckOf
  split
  · exact .ite (.refl s) (.ite (.refl s) (monitorOff_drives _ s))
  · exact .refl s

theorem chargeLeaving_drives (iid : Nat) (s : State) : Drives s (chargeLeaving iid s) := by
  unfold chargeLeaving
  repeat' split
  · exact .refl s
  · exact chargeGap_drives _ _ iid s
  all_goals exact .refl s

/-! ## The ends of a recording (R83, R141, R148, R149) -/

theorem withdrawInst_drives (iid : Nat) (s : State) : Drives s (withdrawInst iid s) := .same

/-- A recording leaves its tuner and its monitor, whatever becomes of its record. -/
theorem leaves_drives (i : Inst) (iid : Nat) (f : Inst → Inst) (s : State) :
    Drives s (monitorCheckOf i (leaveActive iid (modInst iid f (withdrawInst iid (chargeLeaving iid s))))) :=
  (chargeLeaving_drives iid s).trans (Drives.trans .same ((leaveActive_drives iid _).trans (monitorCheckOf_drives i _)))

theorem terminate_drives (iid : Nat) (fin : InstState) (c : Cause) (r : Option Nat) (s : State) :
    Drives s (terminate iid fin c r s) := by
  unfold terminate
  split
  · exact .refl s
  · rename_i i _
    refine (leaves_drives i iid (finished fin c r (now s)) s).trans ?_
    dsimp only
    repeat' split
    all_goals exact .same

theorem missInst_drives (c : Cause) (iid : Nat) (s : State) : Drives s (missInst c iid s) := by
  unfold missInst
  split
  · exact .refl s
  · exact (terminate_drives _ _ _ _ s).trans (submit_drives _ _)

theorem endStopping_drives (c : Cause) (i : Inst) (s : State) : Drives s (endStopping c i s) :=
  .ite (terminate_drives _ _ _ _ s) (terminate_drives _ _ _ _ s)

theorem enterStopping_drives (reason : StopReason) (iid : Nat) (s : State) : Drives s (enterStopping reason iid s) := by
  unfold enterStopping
  split
  · exact .refl s
  · refine .ite ((chargeLeaving_drives iid s).trans ?_) (.refl s)
    exact (withdrawDues_drives _ _).trans ((modInst_drives iid _ _).trans
      ((startDelay_drives _ _ _).trans ((monitorCheckOf_drives _ _).trans (setDirtyIf_drives _ _))))

theorem cutOverrun_drives (t : Tuner) (i : Inst) (s : State) : Drives s (cutOverrun t i s) :=
  (enterStopping_drives _ _ s).trans (submit_drives _ _)

/-! ## Starting (R142 to R144, R163) -/

theorem startOn_drives {t : Tuner} {s : State} (room : (tunerRun t s).active.length < Config.tunerCap)
    (resume late : Bool) (iid : Nat) : Drives s (startOn t resume late iid s) := by
  unfold startOn
  split
  · exact .refl s
  · rename_i i _
    have joined (f : Inst → Inst) (ks : List DueKind) :
        Drives s (joinActive t i (modInst iid f (withdrawDues ks s))) := by
      refine ((withdrawDues_drives ks s).trans (modInst_drives iid f _)).trans (joinActive_drives ?_ i)
      cases t <;> exact room
    have begun (f : Inst → Inst) (ks : List DueKind) (k : DueKind) (m : Nat) (d : DelayKind) (n : Nat) :=
      (joined f ks).trans ((requestDue_drives k m _).trans (startDelay_drives d n _))
    have timed (p : Prop) [Decidable p] (k : DueKind) (m : Nat) (u : State) :
        Drives u (if p then ensureDue k m u else withdrawDue k u) :=
      .ite (ensureDue_drives k m u) (withdrawDue_drives k u)
    exact .ite (((begun _ _ _ _ _ _).trans (timed _ _ _ _)).trans (submit_drives _ _))
      ((begun _ _ _ _ _ _).trans (timed _ _ _ _))

theorem waitForTuner_drives (resume : Bool) (iid : Nat) (s : State) : Drives s (waitForTuner resume iid s) := .same

theorem handovers_drives (t : Tuner) (iid : Nat) (s : State) : Drives s (handovers t iid s) :=
  (Drives.foldl (fun u j => cutOverrun_drives t j u) _ s).trans
    (.foldl (fun u (c : Claim) => revokeClaim_drives c.id iid u) _ _)

/-- R144: wait, swap to a free tuner, cut and start or wait, wait. -/
theorem blockedStart_drives (t : Tuner) (resume late : Bool) (i : Inst) (s : State) :
    Drives s (blockedStart t resume late i s) := by
  have cleared : Drives s ((obstacleClaims t i s).foldl (fun u c => revokeClaim c.id i.id u)
      ((obstacleInsts t i s).foldl (fun u j => cutOverrun t j u) s)) :=
    (Drives.foldl (fun u j => cutOverrun_drives t j u) _ s).trans
      (.foldl (fun u (c : Claim) => revokeClaim_drives c.id i.id u) _ _)
  unfold blockedStart
  dsimp only
  repeat' split
  · exact waitForTuner_drives _ _ s
  · exact (startOn_drives (freeFor_room ‹_›) _ _ _).trans ((submit_drives _ _).trans (setDirty_drives _))
  · exact cleared.trans (startOn_drives (freeFor_room ‹_›) _ _ _)
  · exact cleared.trans (waitForTuner_drives _ _ _)
  · exact waitForTuner_drives _ _ s

theorem startAttempt_drives (resume late : Bool) (iid : Nat) (s : State) : Drives s (startAttempt resume late iid s) := by
  unfold startAttempt
  split
  · exact .refl s
  · split
    · exact .refl s
    · rename_i t _
      have handed := Drives.ite (p := resume = true) (.refl s) (handovers_drives t iid s)
      dsimp only
      generalize (if resume = true then s else handovers t iid s) = u at handed ⊢
      split
      · exact handed.trans (startOn_drives (freeFor_room ‹_›) _ _ _)
      · exact handed.trans (blockedStart_drives _ _ _ _ _)

/-! ## Interruption, resume and the waiting starts (R144, R162, R163) -/

theorem interruptInst_drives (iid : Nat) (s : State) : Drives s (interruptInst iid s) := by
  unfold interruptInst
  split
  · exact .refl s
  · split
    · exact (leaves_drives _ iid _ s).trans (setDirtyIf_drives _ _)
    · exact (leaves_drives _ iid _ s).trans (setDirtyIf_drives _ _)
    · exact endStopping_drives _ _ s
    · exact .refl s

/-- A failure of the host, but that the claims go first (R162). -/
theorem interruptHost_rest (s : State) : Drives (dropClaims s) (interruptHost s) :=
  (Drives.foldl (fun u iid => interruptInst_drives iid u) _ _).trans
    ((monitorOff_drives .a _).trans (monitorOff_drives .b _))

theorem interruptHost_drives (s : State) : Drives s (interruptHost s) :=
  (dropClaims_drives s).trans (interruptHost_rest s)

theorem interruptHost_none (s : State) : (interruptHost s).run.claims = [] :=
  (interruptHost_rest s).noClaims (dropClaims_none s)

theorem judgeResume_drives (iid : Nat) (s : State) : Drives s (judgeResume iid s) := by
  unfold judgeResume
  split
  · exact .refl s
  · exact .ite (.ite (terminate_drives _ _ _ _ s)
      (.ite ((terminate_drives _ _ _ _ s).trans (submit_drives _ _)) (startAttempt_drives _ _ _ s))) (.refl s)

theorem retryHeld_drives (iid : Nat) (s : State) : Drives s (retryHeld iid s) := by
  unfold retryHeld
  split
  · exact .refl s
  · exact .ite (startAttempt_drives _ _ _ s) (.refl s)

theorem takeHeld_drives (iid : Nat) (s : State) : Drives s (takeHeld iid s) := by
  unfold takeHeld
  split
  · exact .refl s
  · exact .ite (.ite (startAttempt_drives _ _ _ s) (missInst_drives _ _ s)) (.refl s)

theorem takeUpWork_drives (s : State) : Drives s (takeUpWork s) :=
  (Drives.foldl (fun u iid => judgeResume_drives iid u) _ s).trans (.foldl (fun u iid => takeHeld_drives iid u) _ _)

theorem retryWaiting_drives (s : State) : Drives s (retryWaiting s) :=
  (Drives.foldl (fun u iid => judgeResume_drives iid u) _ s).trans (.foldl (fun u iid => retryHeld_drives iid u) _ _)

theorem retryRounds_drives (fuel : Nat) (before s : State) : Drives s (retryRounds fuel before s) := by
  induction fuel generalizing before s with
  | zero => exact .refl s
  | succ fuel ih => exact .ite ((retryWaiting_drives s).trans (ih s _)) (.refl s)

theorem retryStarts_drives (before s : State) : Drives s (retryStarts before s) := retryRounds_drives _ before s

theorem fixOverrun_drives (iid : Nat) (s : State) : Drives s (fixOverrun iid s) := by
  unfold fixOverrun
  split
  · exact .refl s
  · split
    · exact .refl s
    · have fixed (f : Inst → Inst) : Drives s (withdrawDue (.overrunCap iid) (modInst iid f s)) :=
        (modInst_drives iid f s).trans (withdrawDue_drives _ _)
      exact .ite ((fixed _).trans ((enterStopping_drives _ _ _).trans (setDirty_drives _)))
        ((fixed _).trans ((requestDue_drives _ _ _).trans (setDirty_drives _)))

theorem handStatus_drives (k : EventKey) (st : Option RunStatus) (s : State) : Drives s (handStatus k st s) :=
  .ite (.refl s) (.foldl (fun u iid => fixOverrun_drives iid u) _ s)

end Sys2Proof.Machine

/-! PROOFS. The messages and the events of the part keep the ranges of Run Control and of the Wake Supervisor: those that reach
a tuner, a claim or the host by the operations of their own chapters, all others because they leave them alone (R138,
R139, R154, R155, R158, R180 to R187). -/

namespace Sys2Proof.Machine

-- one theorem after another: many at a time would want a thread each
set_option Elab.async false

open Sys2Proof

/-! ## From one state to another -/

section KeepsRun

variable {s t u : State}

theorem KeepsRun.refl (s : State) : KeepsRun s s := (Drives.refl s).keeps

theorem KeepsRun.trans (h : KeepsRun s t) (k : KeepsRun t u) : KeepsRun s u :=
  ⟨h.tuners.trans k.tuners, h.host.trans k.host⟩

theorem KeepsRun.ite {p : Prop} [Decidable p] (ht : KeepsRun s t) (hu : KeepsRun s u) :
    KeepsRun s (if p then t else u) := by
  split
  · exact ht
  · exact hu

theorem KeepsRun.foldl {α : Type} {f : State → α → State} (h : ∀ u x, KeepsRun u (f u x)) (xs : List α) (s : State) :
    KeepsRun s (xs.foldl f s) :=
  ⟨.foldl (fun u x => (h u x).tuners) xs s, .foldl (fun u x => (h u x).host) xs s⟩

/-- An operation that leaves Run Control and the Wake Supervisor alone. -/
theorem KeepsRun.same (hr : t.run = s.run := by simp) (hw : t.wsv = s.wsv := by simp) : KeepsRun s t :=
  (Drives.same hr hw).keeps

/-- The Wake Supervisor is rewritten within its ranges, AWAKE or without claims. -/
theorem modWsv_keeps {f : WakeSup → WakeSup} {s : State} (wake : WakeKept s.wsv → WakeKept (f s.wsv))
    (awake : s.wsv.host = .awake → (f s.wsv).host = .awake) : KeepsRun s (modWsv f s) := by
  refine ⟨tunersKept_of_run (modWsv_run f s), fun hs => ?_⟩
  obtain ⟨kept, claims, held⟩ := hostKept_iff.mp hs
  exact hostKept_iff.mpr ⟨wake kept, claims, fun h => awake (held h)⟩

theorem hostKept_noClaims (wake : WakeKept s.wsv) (none : s.run.claims = []) : HostKept s := by
  refine hostKept_iff.mpr ⟨wake, ?_, fun held => absurd none held⟩
  rw [none]
  exact ⟨nofun, List.nodup_nil⟩

theorem claims_of_not_awake (hs : HostKept s) (h : s.wsv.host ≠ .awake) : s.run.claims = [] := by
  by_contra held
  exact h ((hostKept_iff.mp hs).2.2 held)

end KeepsRun

/-! ## The end of an event, frames (R144, R191) -/

theorem retestStandby_keeps (b : Bool) (s : State) : KeepsRun s (retestStandby b s) := by
  refine .ite ?_ (.refl s)
  refine (postNotice_drives _ s).keeps.trans (modWsv_keeps ?_ id)
  rintro ⟨out, floor, -, rest⟩
  exact ⟨out, floor, nofun, rest⟩

theorem settleOutputs_keeps (before s : State) : KeepsRun s (settleOutputs before s) := by
  have summaries : KeepsRun s (syncWake (handSummaries (placeTerminals s))) := .same
  have ended (u : State) : KeepsRun u (beginPass (setAttention u)) := .same
  exact (summaries.trans (retestStandby_keeps _ _)).trans (ended _)

theorem settle_keeps (before s : State) : KeepsRun s (settle before s) :=
  (retryStarts_drives before s).keeps.trans (settleOutputs_keeps before _)

theorem onFrame_keeps {act : State → State} (h : ∀ u, KeepsRun u (act u)) (kind tag : Byte) (p : List Byte) (s : State) :
    KeepsRun s (onFrame kind tag p act s) := by
  have taken : KeepsRun s (frameInHand (frameArrived kind tag p (frameCheck kind tag p) s)) := .same
  exact .ite (.refl s) (.ite .same (taken.trans (h _)))

theorem onMessage_keeps {α : Type} {act : α → State → State} (h : ∀ m u, KeepsRun u (act m u)) (pr : Parser α)
    (kind tag : Byte) (p : List Byte) (s : State) : KeepsRun s (onMessage kind tag pr p act s) := by
  refine onFrame_keeps (fun u => ?_) kind tag p s
  split
  · exact h _ u
  · exact .same

theorem onDue_keeps {act : State → State} (h : ∀ u, KeepsRun u (act u)) (k : DueKind) (s : State) :
    KeepsRun s (onDue k act s) := by
  unfold onDue
  obtain ⟨-, e⟩ | ⟨-, e⟩ := takeDue_cases k s
  · rw [e]
    exact (withdrawDue_drives k s).keeps.trans ((h _).trans (settle_keeps s _))
  · rw [e]
    exact .refl s

theorem takeDelay_drives {k : DelayKind} {s t : State} (h : takeDelay k s = some t) : Drives s t := by
  rw [(takeDelay_keeps h).1]
  exact .same rfl rfl

theorem onDelay_keeps {act : State → State} (h : ∀ u, KeepsRun u (act u)) (k : DelayKind) (s : State) :
    KeepsRun s (onDelay k act s) := by
  unfold onDelay
  split
  · exact .refl s
  · exact (takeDelay_drives ‹_›).keeps.trans ((h _).trans (settle_keeps s _))

theorem answerOk_drives (kind tag : Byte) (b : ReplyBody) (s : State) : Drives s (answerOk kind tag b s) := .same

/-! ## The Booking Table (chapter 3) -/

theorem addBooking_drives (kind tag : Byte) (dup : Option Booking) (part : BookingPart) (c : CommonMsg) (s : State) :
    Drives s (addBooking kind tag dup part c s) := by
  unfold addBooking
  repeat' split
  all_goals exact .same

theorem bookEvent_drives (tag : Byte) (m : EventKey × CommonMsg) (s : State) : Drives s (bookEvent tag m s) := by
  unfold bookEvent
  refine .ite .same ?_
  split
  · exact .same
  · exact addBooking_drives _ _ _ _ _ s

theorem bookSeries_drives (tag : Byte) (m : BookSeriesMsg) (s : State) : Drives s (bookSeries tag m s) :=
  .ite .same (addBooking_drives _ _ _ _ _ s)

theorem bookManual_drives (tag : Byte) (m : ManualPart × CommonMsg) (s : State) : Drives s (bookManual tag m s) :=
  .ite .same (addBooking_drives _ _ _ _ _ s)

theorem bookChange_drives (tag : Byte) (m : Nat × List ChangeField) (s : State) : Drives s (bookChange tag m s) := by
  unfold bookChange
  repeat' split
  all_goals exact .same

theorem moveBooking_drives (kind tag : Byte) (st : BookingState) (bid : Nat) (s : State) :
    Drives s (moveBooking kind tag st bid s) := by
  unfold moveBooking setBookingState
  repeat' split
  all_goals exact .same

theorem deleteInst_drives (iid : Nat) (s : State) : Drives s (deleteInst iid s) := by
  unfold deleteInst
  split
  · exact .refl s
  · split
    case h_5 => exact enterStopping_drives _ _ s
    case h_1 | h_2 | h_3 | h_4 | h_6 => exact terminate_drives _ _ _ _ s
    all_goals exact .refl s

theorem bookDelete_drives (tag : Byte) (bid : Nat) (s : State) : Drives s (bookDelete tag bid s) := by
  have dropped : Drives s (setDirty (dropBooking bid s)) := .trans (t := dropBooking bid s) (.same rfl rfl) .same
  have deleted := dropped.trans (.foldl (fun u iid => deleteInst_drives iid u) (idsOfBooking bid (fun _ => true) s) _)
  exact .ite (deleted.trans (answerOk_drives _ _ _ _)) .same

theorem bookGet_drives (tag : Byte) (bid : Nat) (s : State) : Drives s (bookGet tag bid s) := by
  unfold bookGet
  split
  all_goals exact .same

theorem bookList_drives (tag : Byte) (n : Nat) (s : State) : Drives s (bookList tag n s) := .ite .same .same

theorem historyAdd_drives (tag : Byte) (e : HistEntry) (s : State) : Drives s (historyAdd tag e s) := .ite .same .same

theorem dropEntries_drives (tag : Byte) (p : HistEntry → Bool) (s : State) : Drives s (dropEntries tag p s) :=
  .same (by simp [dropEntries]) (by simp [dropEntries])

theorem historyDrop_drives (tag : Byte) (m : HistDropMsg) (s : State) : Drives s (historyDrop tag m s) := by
  cases m with
  | pair e => exact .ite .same (dropEntries_drives _ _ s)
  | series r => exact .ite .same (dropEntries_drives _ _ s)

theorem historyGet_drives (tag : Byte) (m : Nat × Option Ref) (s : State) : Drives s (historyGet tag m s) :=
  .ite .same .same

/-! ## The Clock Unit and the Guide Store (chapters 1 and 2) -/

theorem timeSetWork_keeps (m : TimeSetMsg) (s : State) : KeepsRun s (timeSetWork m s) := by
  have written : KeepsRun s (setDirtyIf (timeSetDirty m s.clk (setCount m.time s.clk))
      (submitFree (timeSetConds m s.clk (setCount m.time s.clk)) (modClk (fun _ => clockAfter m s.clk) s))) := .same
  exact written.trans (retestStandby_keeps true _)

theorem timeSet_keeps (tag : Byte) (m : TimeSetMsg) (s : State) : KeepsRun s (timeSet tag m s) := by
  have taken : KeepsRun s (takeTimeSet tag m s) := by
    rw [takeTimeSet_eq]
    exact (timeSetWork_keeps m s).trans (.same rfl rfl)
  unfold timeSet
  repeat' split
  · exact .same
  · exact taken
  · exact taken

theorem takeRec_drives (k : EventKey) (s : State) : Drives s (takeRec k s) := .same rfl rfl

theorem placeRec_drives (r : GuideRec) (s : State) : Drives s (placeRec r s) := .same rfl rfl

theorem timeGet_drives (tag : Byte) (s : State) : Drives s (timeGet tag s) := answerOk_drives _ _ _ s

theorem removeRec_drives (r : GuideRec) (s : State) : Drives s (removeRec r s) :=
  (takeRec_drives r.key s).trans ((setDirtyIf_drives _ _).trans (handStatus_drives _ _ _))

theorem replaceEntry_drives (e : GuideEntry) (old : GuideRec) (s : State) : Drives s (replaceEntry e old s) := by
  have placed (r : GuideRec) (b : Bool) : Drives s (setDirtyIf b (placeRec r (takeRec e.key s))) :=
    ((takeRec_drives e.key s).trans (placeRec_drives r _)).trans (setDirtyIf_drives b _)
  exact .ite (placed _ _) ((placed _ _).trans (handStatus_drives _ _ _))

theorem insertEntry_drives (e : GuideEntry) (s : State) : Drives s (insertEntry e s) :=
  (placeRec_drives _ s).trans (setDirtyIf_drives _ _)

theorem putEntry_drives (t : Nat) (sc : State × PutCounts) (e : GuideEntry) : Drives sc.1 (putEntry t sc e).1 := by
  unfold putEntry
  dsimp only
  repeat' split
  · exact .refl _
  · exact replaceEntry_drives _ _ _
  · exact insertEntry_drives _ _
  · exact .refl _
  · exact (takeRec_drives _ _).trans ((setDirtyIf_drives _ _).trans (insertEntry_drives _ _))
  · exact .refl _

theorem guidePut_drives (tag : Byte) (es : List GuideEntry) (s : State) : Drives s (guidePut tag es s) :=
  (Drives.foldl_of Prod.fst (fun sc e => putEntry_drives (now s) sc e) es (s, ⟨0, 0, 0, 0⟩)).trans
    (answerOk_drives _ _ _ _)

theorem dropKey_drives (sc : State × Nat × Nat) (k : EventKey) : Drives sc.1 (dropKey sc k).1 := by
  unfold dropKey
  split
  · exact removeRec_drives _ _
  · exact .refl _

theorem removeRecs_drives (xs : List GuideRec) (s : State) : Drives s (xs.foldl (fun u r => removeRec r u) s) :=
  .foldl (fun u r => removeRec_drives r u) xs s

theorem guideDrop_drives (tag : Byte) (m : GuideDropMsg) (s : State) : Drives s (guideDrop tag m s) := by
  cases m with
  | keys ks =>
    exact (Drives.foldl_of Prod.fst (fun sc k => dropKey_drives sc k) ks (s, 0, 0)).trans (answerOk_drives _ _ _ _)
  | service n => exact .ite .same ((removeRecs_drives _ s).trans (answerOk_drives _ _ _ _))

theorem eventStatus_drives (tag : Byte) (m : EventKey × Nat) (s : State) : Drives s (eventStatus tag m s) := by
  unfold eventStatus
  split
  · exact .same
  · split
    · exact .same
    · have written (recs : List GuideRec) : Drives s (setRecs recs s) := .same rfl rfl
      exact Drives.trans (.ite (written _) ((written _).trans (handStatus_drives _ _ _))) (answerOk_drives _ _ _ _)

theorem guideGet_drives (tag : Byte) (p : List Byte) (s : State) : Drives s (guideGet tag p s) := by
  unfold guideGet guideSummary guideGetKey
  repeat' split
  all_goals exact .same

theorem handRollover_drives (s : State) : Drives s (handRollover s) := by
  have bumped : Drives s (bumpFree s) := .same rfl rfl
  have passed (u : State) : Drives u (beginPass u) := .same
  exact .ite (.same (by simp) (by simp)) (.ite ((bumped.trans (removeRecs_drives _ _)).trans (setDirty_drives _))
    (((bumped.trans (setDirty_drives _)).trans (passed _)).trans (removeRecs_drives _ _)))

/-! ## Reading and taking (chapters 5 to 7) -/

theorem instanceGet_drives (tag : Byte) (iid : Nat) (s : State) : Drives s (instanceGet tag iid s) := by
  unfold instanceGet
  split
  all_goals exact .same

theorem holdOr_drives {ans : State → State} (h : ∀ u, Drives u (ans u)) (kind tag : Byte) (q : Query) (s : State) :
    Drives s (holdOr kind tag q ans s) := by
  unfold holdOr
  split
  · exact h s
  · exact .ite .same .same

theorem planGet_drives (tag : Byte) (m : Nat × Nat × Nat) (s : State) : Drives s (planGet tag m s) :=
  .ite .same (.ite .same (holdOr_drives (fun _ => .ite .same .same) _ _ _ s))

theorem clashGet_drives (tag : Byte) (k : Nat) (s : State) : Drives s (clashGet tag k s) :=
  .ite .same (.ite .same (holdOr_drives (fun _ => .ite .same .same) _ _ _ s))

theorem leaveList_drives (i : Inst) (s : State) : Drives s (leaveList i s) := .same (by simp [leaveList]) (by simp [leaveList])

theorem outcomeTake_drives (tag : Byte) (iid : Nat) (s : State) : Drives s (outcomeTake tag iid s) := by
  unfold outcomeTake
  split
  · exact .same
  · exact .ite ((leaveList_drives _ s).trans (answerOk_drives _ _ _ _)) .same

/-! ## Run Control: the recordings (R141 to R153, R163) -/

theorem takeWindowStart_drives (iid : Nat) (s : State) : Drives s (takeWindowStart iid s) := by
  unfold takeWindowStart
  split
  · exact .refl s
  · exact .ite (.ite (missInst_drives _ _ s) (.ite (startAttempt_drives _ _ _ s)
      ((modInst_drives _ _ s).trans (requestDue_drives _ _ _)))) (.refl s)

theorem takeCoreEnd_drives (iid : Nat) (s : State) : Drives s (takeCoreEnd iid s) := by
  unfold takeCoreEnd
  split
  · exact .refl s
  · have overruns (i : Inst) : Drives s (enterOverrun i s) :=
      (modInst_drives _ _ s).trans ((withdrawDue_drives _ _).trans ((requestDue_drives _ _ _).trans (setDirty_drives _)))
    split
    · exact missInst_drives _ _ s
    · exact missInst_drives _ _ s
    · exact .ite (.refl s) (missInst_drives _ _ s)
    · exact .ite (overruns _) (.refl s)
    · exact .ite (overruns _) (.refl s)
    all_goals exact .refl s

theorem takeHeldLimit_drives (iid : Nat) (s : State) : Drives s (takeHeldLimit iid s) := by
  unfold takeHeldLimit
  split
  · exact .refl s
  · exact .ite (missInst_drives _ _ s) (.refl s)

theorem takeOverrunCap_drives (iid : Nat) (s : State) : Drives s (takeOverrunCap iid s) := by
  unfold takeOverrunCap
  split
  · exact .refl s
  · split
    · exact (modInst_drives _ _ s).trans (setDirty_drives _)
    · exact enterStopping_drives _ _ s

theorem failStart_drives (c : Cause) (r : Option Nat) (i : Inst) (s : State) : Drives s (failStart c r i s) :=
  (terminate_drives _ _ _ _ s).trans (submit_drives _ _)

theorem takeStartTimeout_drives (iid : Nat) (s : State) : Drives s (takeStartTimeout iid s) := by
  unfold takeStartTimeout
  split
  · exact .refl s
  · exact .ite (failStart_drives _ _ _ s) (.refl s)

theorem takeStopTimeout_drives (iid : Nat) (s : State) : Drives s (takeStopTimeout iid s) := by
  unfold takeStopTimeout
  split
  · exact .refl s
  · exact .ite ((endStopping_drives _ _ s).trans (submit_drives _ _)) (.refl s)

theorem armMonitor_drives (t : Tuner) (s : State) : Drives s (armMonitor t s) :=
  .ite ((modTuner_drives id).trans (requestDue_drives _ _ _)) (.refl s)

theorem takeStarted_drives (i : Inst) (s : State) : Drives s (takeStarted i s) := by
  have opened (f : Inst → Inst) : Drives s (modInst i.id f (cancelDelay (.startConfirm i.id) s)) := .same
  have armed (u : State) : Drives u (match i.tuner with | some t => armMonitor t u | none => u) := by
    split
    · exact armMonitor_drives _ u
    · exact .refl u
  exact .ite (((opened _).trans (armed _)).trans (enterStopping_drives _ _ _)) ((opened _).trans (armed _))

theorem takeHostStop_drives (i : Inst) (s : State) : Drives s (takeHostStop i s) :=
  .ite ((terminate_drives _ _ _ _ s).trans (submit_drives _ _)) (terminate_drives _ _ _ _ s)

theorem recReport_drives (tag : Byte) (m : Nat × Report) (s : State) : Drives s (recReport tag m s) := by
  have answered (u : State) : Drives u (answerReport tag m.1 u) := answerOk_drives _ _ _ u
  unfold recReport
  refine .ite .same ?_
  split
  · exact .same
  · refine .ite .same ?_
    split
    · exact (takeStarted_drives _ s).trans (answered _)
    · exact (failStart_drives _ _ _ s).trans (answered _)
    · exact (endStopping_drives _ _ s).trans (answered _)
    · exact (takeHostStop_drives _ s).trans (answered _)
    · exact .same

theorem takeWindowClose_drives (iid : Nat) (s : State) : Drives s (takeWindowClose iid s) := by
  unfold takeWindowClose
  split
  · exact .refl s
  · exact .ite (terminate_drives _ _ _ _ s) (.refl s)

/-! ## Run Control: the claims (R154 to R156) -/

/-- Other claims while the host is AWAKE. -/
theorem modClaims_keeps {g : List Claim → List Claim} {s : State} (awake : s.wsv.host = .awake)
    (h : ClaimsKept s.run.claims → ClaimsKept (g s.run.claims)) :
    KeepsRun s (modRun (fun r => { r with claims := g r.claims }) s) := by
  refine ⟨id, fun hs => ?_⟩
  obtain ⟨wake, claims, -⟩ := hostKept_iff.mp hs
  exact hostKept_iff.mpr ⟨wake, h claims, fun _ => awake⟩

theorem freeClaim_fresh {n : Nat} {s : State} (h : freeClaim s = some n) :
    (n = 1 ∨ n = 2) ∧ ∀ c ∈ s.run.claims, c.id ≠ n := by
  refine ⟨by simpa using List.mem_of_find?_eq_some h, ?_⟩
  simpa [freeClaim] using List.find?_some h

theorem ClaimsKept.insert {c : Claim} {cs : List Claim} (kept : ClaimsKept cs)
    (hc : (c.id = 1 ∨ c.id = 2) ∧ 1 ≤ c.mux ∧ c.priority ≤ 7) (fresh : ∀ d ∈ cs, d.id ≠ c.id) :
    ClaimsKept (insertBy claimLt c cs) := by
  refine ⟨fun d hd => ?_, ?_⟩
  · obtain rfl | hd := (mem_insertBy ..).mp hd
    · exact hc
    · exact kept.1 d hd
  · refine (((insertBy_perm claimLt c cs).map _).nodup_iff).mpr (List.nodup_cons.mpr ⟨?_, kept.2⟩)
    rintro held
    obtain ⟨d, hd, same⟩ := List.mem_map.mp held
    exact fresh d hd same

theorem newClaim_keeps {s : State} (awake : s.wsv.host = .awake) {m : ClaimMsg} (mux : m.mux ≠ 0) (tag : Byte)
    (t : Tuner) : KeepsRun s (newClaim tag t m s) := by
  unfold newClaim
  split
  · exact .same
  · rename_i n free
    obtain ⟨range, fresh⟩ := freeClaim_fresh free
    let c : Claim := { id := n, tuner := t, mux := m.mux, priority := min 7 m.priority, yieldTo := none }
    have taken := modClaims_keeps (g := insertBy claimLt c) awake
      (fun kept => kept.insert ⟨range, Nat.one_le_iff_ne_zero.mpr mux, Nat.min_le_left _ _⟩ fresh)
    exact taken.trans (.same rfl rfl)

theorem ClaimsKept.change {n mux prio : Nat} {t : Tuner} {cs : List Claim} (kept : ClaimsKept cs) (h : 1 ≤ mux)
    (hp : prio ≤ 7) : ClaimsKept (cs.map (fun c =>
      if c.id == n then { c with tuner := t, mux := mux, priority := prio, yieldTo := none } else c)) := by
  refine ⟨fun d hd => ?_, ?_⟩
  · obtain ⟨c, hc, rfl⟩ := List.mem_map.mp hd
    split
    · exact ⟨(kept.1 c hc).1, h, hp⟩
    · exact kept.1 c hc
  · rw [List.map_map]
    refine (List.map_congr_left (fun c _ => ?_)) ▸ kept.2
    dsimp only [Function.comp]
    split <;> rfl

theorem changeClaim_keeps {s : State} (awake : s.wsv.host = .awake) {m : ClaimMsg} (mux : m.mux ≠ 0) (tag : Byte)
    (n : Nat) (old : Claim) (t : Tuner) : KeepsRun s (changeClaim tag n old t m s) := by
  have changed := modClaims_keeps awake
    (fun kept => kept.change (n := n) (t := t) (Nat.one_le_iff_ne_zero.mpr mux) (Nat.min_le_left 7 m.priority))
  have written := changed.trans ((withdrawDue_drives (.yieldWarning n) _).trans (setDirty_drives _)).keeps
  have answered (u : State) : KeepsRun u (answer 0x39 tag .ok (decide (7 < m.priority)) (.claim n t) u) := .same
  exact (KeepsRun.ite written (.refl s)).trans (answered _)

theorem viewClaim_keeps (tag : Byte) (m : ClaimMsg) (s : State) : KeepsRun s (viewClaim tag m s) := by
  unfold viewClaim
  split
  · exact .same
  · split
    · exact .same
    · rename_i mux
      split
      · exact .same
      · rename_i awake
        have awake : s.wsv.host = .awake := by simpa [hostAwake] using awake
        split
        · exact .ite .same (newClaim_keeps awake mux tag _)
        · split
          · exact .same
          · exact .ite .same (changeClaim_keeps awake mux tag _ _ _)

theorem viewRelease_drives (tag : Byte) (n : Nat) (s : State) : Drives s (viewRelease tag n s) :=
  .ite ((removeClaim_drives n s).trans (answerOk_drives _ _ _ _)) .same

theorem takeYieldWarning_drives (n : Nat) (s : State) : Drives s (takeYieldWarning n s) := by
  unfold takeYieldWarning
  repeat' split
  all_goals exact .same

/-! ## Run Control: the lock monitors (R157 to R160) -/

theorem takeGraceEnd_drives (t : Tuner) (s : State) : Drives s (takeGraceEnd t s) :=
  .ite (modTuner_drives id) ((modTuner_drives (fun ⟨few, idle, _, _⟩ => ⟨few, idle, by simp, nofun⟩)).trans
    (startDelay_drives _ _ _))

theorem monitorTick_drives (t : Tuner) (locked : Bool) (s : State) : Drives s (monitorTick t locked s) := by
  unfold monitorTick
  split
  case h_3 => exact modTuner_drives (fun ⟨few, idle, _, _⟩ => ⟨few, idle, nofun, nofun⟩)
  case h_4 => exact modTuner_drives (fun ⟨few, idle, _, _⟩ => ⟨few, idle, by simp, fun _ => rfl⟩)
  case h_5 dropping =>
    refine .ite ((modTuner_drives ?_).trans (requestDue_drives _ _ _)) (modTuner_drives id)
    exact fun ⟨few, idle, drop, _⟩ => ⟨few, idle, fun _ => drop (.inl dropping), nofun⟩
  case h_7 => exact closeGap_drives (fun ⟨few, idle, _, _⟩ => ⟨few, idle, by simp, fun _ => rfl⟩)
  all_goals exact .refl s

theorem takeTick_drives (t : Tuner) (locked : Bool) (s : State) : Drives s (takeTick t locked s) :=
  ((modTuner_drives id).trans (monitorTick_drives t locked _)).trans (.ite (.refl _) (startDelay_drives _ _ _))

theorem takeAbandon_drives (t : Tuner) (s : State) : Drives s (takeAbandon t s) := by
  have closed : Drives s (modTuner t (fun r => { r with mon := .watching }) (closeGap t s)) :=
    closeGap_drives (fun ⟨few, idle, _, _⟩ => ⟨few, idle, by simp, fun _ => rfl⟩)
  have stops (xs : List Inst) (u : State) : Drives u (xs.foldl (fun v i => enterStopping .abandoned i.id v) u) :=
    .foldl (fun v (i : Inst) => enterStopping_drives .abandoned i.id v) xs u
  exact .ite ((closed.trans (submit_drives _ _)).trans
    ((stops _ _).trans ((monitorOff_drives t _).trans (setDirty_drives _)))) (.refl s)

/-! ## The Wake Supervisor (chapter 10) -/

/-- A failure of the host: the Wake Supervisor begins a wake, and the claims go (R162, R183). -/
theorem takeKeepalive_keeps (s : State) : KeepsRun s (takeKeepalive s) := by
  unfold takeKeepalive
  split
  · rename_i awake
    let c := wakeCond (if runningCount s = 0 then .soft else .hard) .hostHung none
    let v := modWsv (fun w => { w with
      host := .waking, attempts := 1, wakeOut := true, reason := .none, standbyWanted := false })
      (startWakeTimeout (beginPulse (submit c s)))
    have run : v.run = s.run := submit_run c s
    have wsv : v.wsv = { s.wsv with
        host := .waking, attempts := 1, wakeOut := true, reason := .none, standbyWanted := false, resetOut := true } := by
      simp [v, startWakeTimeout, beginPulse]
    have lost : Drives v (interruptHost v) := interruptHost_drives v
    refine ⟨(tunersKept_of_run run).trans lost.tuners, fun hs => hostKept_noClaims ?_ (interruptHost_none v)⟩
    obtain ⟨⟨-, floor, -, -, -, lead, lead', code⟩, -, -⟩ := hostKept_iff.mp hs
    have none : s.wsv.silentFloor = none := by simpa [awake] using floor
    rw [lost.wsv, wsv]
    exact ⟨by simp, by simp [none], nofun, by simp, by simp, lead, lead', code⟩
  · exact .refl s

theorem takeWakeDue_keeps (s : State) : KeepsRun s (takeWakeDue s) := by
  have woken (asleep : s.wsv.host ≠ .awake) (r : WakeReason) : KeepsRun s (startWakeTimeout (modWsv (fun w => { w with
      host := .waking, attempts := 1, wakeOut := true, silentFloor := none, reason := r }) s)) := by
    refine (modWsv_keeps ?_ (fun awake => absurd awake asleep)).trans (startDelay_drives _ _ _).keeps
    rintro ⟨-, -, wanted, -, -, lead, lead', code⟩
    exact ⟨by simp, by simp, fun h => absurd (wanted h) asleep, by simp, by simp, lead, lead', code⟩
  unfold takeWakeDue
  split
  · exact woken (by simp [*]) _
  · exact woken (by simp [*]) _
  all_goals exact .refl s

theorem takeWakeTimeout_keeps (s : State) : KeepsRun s (takeWakeTimeout s) := by
  unfold takeWakeTimeout
  split
  · rename_i waking
    split
    · rename_i few
      have counted : KeepsRun s (modWsv (fun w => { w with attempts := w.attempts + 1 }) s) := by
        refine modWsv_keeps ?_ id
        rintro ⟨out, floor, wanted, -, -, lead⟩
        exact ⟨out, floor, wanted, by simp, few, lead⟩
      have pulsed (u : State) : KeepsRun u (modWsv (fun w => { w with resetOut := true }) u) := modWsv_keeps id id
      exact counted.trans ((pulsed _).trans ((startDelay_drives _ _ _).trans (startDelay_drives _ _ _)).keeps)
    · have silent : KeepsRun s (modWsv (fun w => { w with
          host := .silent, wakeOut := false, silentFloor := some (now s) }) s) := by
        refine modWsv_keeps ?_ (fun awake => by simp [waking] at awake)
        rintro ⟨-, -, wanted, -, three, lead⟩
        exact ⟨by simp, by simp, fun h => by simp [waking] at wanted; simp [wanted] at h, nofun, three, lead⟩
      exact silent.trans (submit_drives _ _).keeps
  · exact .refl s

theorem helloAwake_keeps (s : State) : KeepsRun s (helloAwake s) := by
  have awake : KeepsRun s (modWsv (fun w => { w with
      host := .awake, wakeOut := false, resetOut := false, silentFloor := none, standbyWanted := false }) s) := by
    refine modWsv_keeps ?_ (fun _ => rfl)
    rintro ⟨-, -, -, -, three, lead⟩
    exact ⟨by simp, by simp, nofun, nofun, three, lead⟩
  exact awake.trans (.same (by simp [helloAwake]) (by simp [helloAwake]))

theorem helloAwake_host (s : State) : (helloAwake s).wsv.host = .awake := by simp [helloAwake]

theorem helloWork_drives (previous : HostState) (n : Nat) (s : State) : Drives s (helloWork previous n s) := by
  unfold helloWork
  split
  · exact ((submit_drives _ s).trans (interruptHost_drives _)).trans (takeUpWork_drives _)
  all_goals exact (dropClaims_drives s).trans (takeUpWork_drives _)

theorem hello_keeps (tag : Byte) (s : State) : KeepsRun s (hello tag s) := by
  have worked : Drives (helloAwake s)
      (retryStarts s (helloWork s.wsv.host (runningCount s) (helloAwake s))) :=
    (helloWork_drives _ _ _).trans (retryStarts_drives s _)
  have replied (b : ReplyBody) := worked.trans (answerOk_drives 0x01 tag b _)
  have done (u : State) (h : u.wsv.host = .awake) : KeepsRun u (helloDone u) := by
    refine modWsv_keeps ?_ id
    rintro ⟨out, floor, wanted, -, -, lead⟩
    exact ⟨out, floor, wanted, fun waking => by simp [h] at waking, by simp, lead⟩
  unfold hello
  refine (helloAwake_keeps s).trans ((replied _).keeps.trans (done _ ?_))
  exact (congrArg (fun w => w.host) (replied _).wsv).trans (helloAwake_host s)

/-- An accepted STANDBY: the host leaves AWAKE, and the claims go (R155, R190). -/
theorem acceptStandby_keeps {s : State} (awake : s.wsv.host = .awake) : KeepsRun s (acceptStandby s) := by
  let v := cancelDelay .keepalive (modWsv (fun w => { w with host := .standby, standbyWanted := false }) s)
  have dropped : Drives v (dropClaims v) := dropClaims_drives v
  refine ⟨Keeps.trans (t := v) (tunersKept_of_run rfl) dropped.tuners, fun hs => hostKept_noClaims ?_ (dropClaims_none v)⟩
  obtain ⟨⟨out, floor, -, -, three, lead⟩, -, -⟩ := hostKept_iff.mp hs
  have low : s.wsv.wakeOut = false := by simpa [awake] using out
  have none : s.wsv.silentFloor = none := by simpa [awake] using floor
  rw [show (acceptStandby s).wsv = v.wsv from dropped.wsv]
  exact ⟨by simp [v, low], by simp [v, none], nofun, nofun, three, lead⟩

theorem standby_keeps (tag : Byte) (s : State) : KeepsRun s (standby tag s) := by
  unfold standby
  split
  · rename_i awake
    have awake : s.wsv.host = .awake := by simpa [hostAwake] using awake
    refine .ite ((acceptStandby_keeps awake).trans (answerOk_drives _ _ _ _).keeps) ?_
    have wanted : KeepsRun s (modWsv (fun w => { w with standbyWanted := true }) s) := by
      refine modWsv_keeps ?_ id
      rintro ⟨out, floor, -, rest⟩
      exact ⟨out, floor, fun _ => awake, rest⟩
    exact wanted.trans (.same rfl rfl)
  · exact .same

theorem causeClear_keeps (tag : Byte) (s : State) : KeepsRun s (causeClear tag s) :=
  (modWsv_keeps (f := fun w => { w with causes := noCauses }) id id).trans (answerOk_drives _ _ _ _).keeps

theorem resetPart_drives (tag : Byte) (n : Nat) (s : State) : Drives s (resetPart tag n s) := by
  unfold resetPart
  split
  all_goals exact .same

/-! ## The Condition Log and the Link Port (chapters 9 and 11) -/

theorem condRead_drives (tag : Byte) (n : Nat) (s : State) : Drives s (condRead tag n s) := by
  unfold condRead
  split
  all_goals exact .same

theorem condClear_drives (tag : Byte) (m : Nat × Bool) (s : State) : Drives s (condClear tag m s) := by
  unfold condClear
  repeat' split
  all_goals exact .same

theorem condConfig_drives (tag : Byte) (m : CondConfigMsg) (s : State) : Drives s (condConfig tag m s) := by
  unfold condConfig
  repeat' split
  all_goals exact .same

theorem noticeFetch_drives (tag : Byte) (s : State) : Drives s (noticeFetch tag s) := .same rfl rfl

theorem actionsGet_drives (tag : Byte) (s : State) : Drives s (actionsGet tag s) := answerOk_drives _ _ _ s

theorem retimeAbandon_drives (t : Tuner) (s : State) : Drives s (retimeAbandon t s) := by
  unfold retimeAbandon
  refine .ite ?_ (.refl s)
  split
  · exact .refl s
  · rename_i d _
    dsimp only
    obtain ⟨-, e⟩ | ⟨-, e⟩ := takeDue_cases (.abandon t) (requestDue (.abandon t) (d / 10 + s.run.abandonLimit) s)
    · rw [e]
      exact ((requestDue_drives _ _ s).trans (withdrawDue_drives _ _)).trans (takeAbandon_drives t _)
    · rw [e]
      exact requestDue_drives _ _ s

theorem keepCodeOf_le (v n : Nat) (h : n ∈ keepCodeOf v) : n ≤ 7 := by
  unfold keepCodeOf at h
  split at h
  · cases h
  · simp only [Option.mem_some_iff] at h
    omega

/-- One setting of Run Control is written within its range (R139, R206). -/
theorem modSettings_keeps {f : RunControl → RunControl} {s : State} (tuners : ∀ t, tunerRun t (modRun f s) = tunerRun t s)
    (claims : (f s.run).claims = s.run.claims) (h : SettingsKept s.run → SettingsKept (f s.run)) :
    KeepsRun s (modRun f s) := by
  refine ⟨fun hs => ?_, fun hs => ?_⟩
  · obtain ⟨kept, settings⟩ := tunersKept_iff.mp hs
    exact tunersKept_iff.mpr ⟨fun t => by rw [tuners]; exact kept t, h settings⟩
  · rw [hostKept_iff, modRun_run, claims]
    exact hostKept_iff.mp hs

theorem settingClamp_le (n v : Nat) : settingClamp n v ≤ 14400 := by
  unfold settingClamp
  split
  case h_5 =>
    rw [keepCodeNum_keepCodeOf]
    split <;> omega
  all_goals omega

theorem writeSetting_keeps (n v : Nat) (s : State) : KeepsRun s (writeSetting n (settingClamp n v) s) := by
  have lead (w : Nat) (h : 30 ≤ w ∧ w ≤ 900) : KeepsRun s (writeWakeLead w s) := by
    have written : KeepsRun s (modWsv (fun x => { x with wakeLead := w }) s) := by
      refine modWsv_keeps ?_ id
      rintro ⟨out, floor, wanted, one, three, -, -, code⟩
      exact ⟨out, floor, wanted, one, three, h.1, h.2, code⟩
    exact (written.trans (withdrawDue_drives _ _).keeps).trans (retestStandby_keeps _ _)
  have code (w : Nat) : KeepsRun s (writeKeepCode w s) := by
    have written : KeepsRun s (modWsv (fun x => { x with keepCode := keepCodeOf w }) s) := by
      refine modWsv_keeps ?_ id
      rintro ⟨out, floor, wanted, one, three, least, most, -⟩
      exact ⟨out, floor, wanted, one, three, least, most, keepCodeOf_le w⟩
    exact written.trans (.same (by simp [writeKeepCode]) (by simp [writeKeepCode]))
  have same (u : RunControl) (t : Tuner) (h : u.tunerA = s.run.tunerA ∧ u.tunerB = s.run.tunerB) :
      tunerRun t { s with run := u } = tunerRun t s := by cases t; exacts [h.1, h.2]
  unfold writeSetting
  split
  case h_4 => exact lead _ (by simp [settingClamp])
  case h_5 => exact code _
  case h_6 =>
    exact modSettings_keeps (fun t => same _ t ⟨rfl, rfl⟩) rfl
      (fun ⟨_, _, rest⟩ => ⟨by simp [settingClamp], by simp [settingClamp], rest⟩)
  case h_7 =>
    have written := modSettings_keeps (s := s) (f := fun r => { r with abandonLimit := settingClamp 7 v })
      (fun t => same _ t ⟨rfl, rfl⟩) rfl
      (fun ⟨least, most, _, _, overrun⟩ => ⟨least, most, by simp [settingClamp], by simp [settingClamp], overrun⟩)
    exact written.trans ((retimeAbandon_drives .a _).trans (retimeAbandon_drives .b _)).keeps
  case h_8 =>
    exact modSettings_keeps (fun t => same _ t ⟨rfl, rfl⟩) rfl
      (fun ⟨least, most, least', most', _⟩ => ⟨least, most, least', most', settingClamp_le n v⟩)
  all_goals exact .same

theorem configSet_keeps (tag : Byte) (items : List (Nat × Nat)) (s : State) : KeepsRun s (configSet tag items s) := by
  have written : KeepsRun s (items.foldl (fun u x => writeSetting x.1 (settingClamp x.1 x.2) u) s) :=
    .foldl (fun u (x : Nat × Nat) => writeSetting_keeps x.1 x.2 u) items s
  have answered (u : State) (c : Bool) (b : ReplyBody) : KeepsRun u (answer 0x0A tag .ok c b u) := .same
  exact .ite .same (.ite .same (written.trans (answered _ _ _)))

theorem configGet_drives (tag : Byte) (ns : List Nat) (s : State) : Drives s (configGet tag ns s) :=
  .ite .same (.ite .same .same)

end Sys2Proof.Machine

/-! PROOFS. Every step keeps the ranges of Run Control and of the Wake Supervisor (R138, R139, R154, R155, R158, R180 to R187):
the install hands on by Run Control's operations, a reset starts both blocks afresh, and every other command has been
followed already. -/

namespace Sys2Proof.Machine

-- one theorem after another: many at a time would want a thread each
set_option Elab.async false

open Sys2Proof

/-! ## What an install writes (R64, R75 to R77, R107 to R110) -/

theorem removeInst_drives (iid : Nat) (s : State) : Drives s (removeInst iid s) := by
  unfold removeInst
  split
  · exact .refl s
  · exact .ite ((withdrawInst_drives iid s).trans (leaveList_drives _ _)) (.refl s)

theorem makeRoom_drives (a : InstallAcc) : Drives a.s (makeRoom a).s := by
  unfold makeRoom
  repeat' split
  · exact .refl _
  · exact .refl _
  · exact leaveList_drives _ _

theorem createOne_drives (cands : List Cand) (a : InstallAcc) (kc : Nat × Creation) :
    Drives a.s (createOne cands a kc).s := by
  unfold createOne
  dsimp only
  repeat' split
  · exact .refl _
  · exact (makeRoom_drives a).trans (.same rfl rfl)
  · exact makeRoom_drives a
  · exact .refl _

theorem refreshOne_drives (s : State) (c : Cand) : Drives s (refreshOne s c) := by
  unfold refreshOne rewriteInst
  repeat' split
  all_goals exact .same

theorem refreshRunning_drives (s : State) (r : Refresh) : Drives s (refreshRunning s r) := by
  unfold refreshRunning
  repeat' split
  all_goals exact .same

theorem applyExpansion_drives (r : PassResult) (cands : List Cand) (s : State) :
    Drives s (applyExpansion r cands s).s :=
  (Drives.foldl (fun u iid => removeInst_drives iid u) _ s).trans
    ((Drives.foldl refreshOne_drives _ _).trans ((Drives.foldl refreshRunning_drives _ _).trans
      (Drives.foldl_of InstallAcc.s (createOne_drives cands) _ ⟨_, [], []⟩)))

theorem writeRunning_drives (p : Snapshot) (w : Work) (s : State) (iid : Nat) : Drives s (writeRunning p w s iid) := by
  unfold writeRunning
  repeat' split
  all_goals exact .same

theorem writePlaced_drives (since : List Occ) (m : Merge) (x : Placed) : Drives m.a.s (writePlaced since m x).a.s := by
  unfold writePlaced
  repeat' split
  all_goals exact .same

theorem writeLost_drives (a : InstallAcc) (x : LostCand) : Drives a.s (writeLost a x).s := by
  unfold writeLost
  repeat' split
  all_goals exact .same

theorem writeShort_drives (ids : List (Nat × Nat)) (s : State) (c : Cand) : Drives s (writeShort ids s c) := by
  unfold writeShort
  repeat' split
  all_goals exact .same

theorem applyPlan_drives (p : Snapshot) (r : PassResult) (a : InstallAcc) : Drives a.s (applyPlan p r a).s :=
  (Drives.foldl (writeRunning_drives p r.work) _ a.s).trans
    ((Drives.foldl_of (fun m : Merge => m.a.s) (writePlaced_drives _) _ ⟨{ a with s := _ }, _⟩).trans
      ((Drives.foldl_of InstallAcc.s writeLost_drives _ _).trans (.foldl (writeShort_drives _) _ _)))

/-- The yield marks are replaced, and no claim else (R109). -/
theorem writeYields_drives (p : Snapshot) (w : Work) (ids : List (Nat × Nat)) (s : State) :
    Drives s (writeYields p w ids s) := by
  unfold writeYields
  refine modClaims_drives (g := fun cs => cs.map _) ?_
  rw [List.map_map]
  exact List.Sublist.refl _

theorem applyMarks_drives (p : Snapshot) (r : PassResult) (a : InstallAcc) : Drives a.s (applyMarks p r a).s :=
  Drives.trans (t := writeCuts p r.work a.ids a.s) (.same rfl rfl) (writeYields_drives _ _ _ _)

theorem applyUpdate_drives (a : InstallAcc) (r : BookingResult) : Drives a.s (applyUpdate a r).s := by
  unfold applyUpdate
  split
  · exact .same rfl rfl
  · exact .refl _

theorem applySpent_drives (s : State) (r : BookingResult) : Drives s (applySpent s r) := by
  unfold applySpent
  repeat' split
  all_goals exact .same

theorem applyBookings_drives (r : PassResult) (a : InstallAcc) : Drives a.s (applyBookings r a).s :=
  (Drives.foldl_of InstallAcc.s applyUpdate_drives _ a).trans (.foldl applySpent_drives _ _)

/-! ## The hand-off to Run Control (R111, R140, R151, R156) -/

theorem syncInst_drives (s : State) (iid : Nat) : Drives s (syncInst s iid) := by
  unfold syncInst syncPlanned
  dsimp only
  repeat' split
  all_goals exact .same

theorem syncClaim_drives (before s : State) (c : Claim) : Drives s (syncClaim before s c) := by
  unfold syncClaim
  dsimp only
  repeat' split
  all_goals exact .same

theorem takeFresh_drives {act : State → State} (h : ∀ u, Drives u (act u)) (before : List DueReq) (k : DueKind)
    (s : State) : Drives s (takeFresh before k act s) := by
  unfold takeFresh
  split
  · exact .refl s
  · refine .ite ?_ (.refl s)
    obtain ⟨-, e⟩ | ⟨-, e⟩ := takeDue_cases k s
    · rw [e]
      exact (withdrawDue_drives k s).trans (h _)
    · rw [e]
      exact .refl s

theorem takeFreshInst_drives (before : List DueReq) (s : State) (iid : Nat) : Drives s (takeFreshInst before s iid) :=
  (takeFresh_drives (takeWindowStart_drives iid) _ _ s).trans ((takeFresh_drives (takeCoreEnd_drives iid) _ _ _).trans
    ((takeFresh_drives (enterStopping_drives _ iid) _ _ _).trans (takeFresh_drives (takeWindowClose_drives iid) _ _ _)))

theorem handOff_drives (before s : State) : Drives s (handOff before s) :=
  (Drives.foldl syncInst_drives _ s).trans ((Drives.foldl (syncClaim_drives before) _ _).trans
    ((Drives.foldl (fun u (c : Claim) => takeFresh_drives (takeYieldWarning_drives c.id) _ _ u) _ _).trans
      (.foldl (takeFreshInst_drives _) _ _)))

theorem installPass_drives (p : Snapshot) (s : State) : Drives s (installPass p s) := by
  have submitted (cs : List Condition) (u : State) : Drives u (submitFree cs u) := .same
  have results : Drives s (resulting p s) :=
    (applyExpansion_drives _ _ s).trans ((applyPlan_drives p _ _).trans ((applyMarks_drives p _ _).trans
      ((applyBookings_drives _ _).trans (submitted _ _))))
  have renewed : Drives (resulting p s) (renewing p s) := .same rfl rfl
  have posted (b : Bool) (u : State) : Drives u (postPlanChanged b u) := .ite (postNotice_drives _ u) (.refl u)
  have handed : Drives (renewing p s) (handing p s) :=
    (posted _ _).trans ((handOff_drives s _).trans (retryStarts_drives s _))
  have answered (u : State) : Drives u (answerAllHeld u) := by
    obtain ⟨rs, -, e⟩ := answerAllHeld_replies u
    rw [e]
    exact .same rfl rfl
  have ended (u : State) : Drives u (endPass u) := by
    rw [endPass_frame]
    exact .same rfl rfl
  rw [installPass_eq]
  exact ((results.trans renewed).trans handed).trans ((answered _).trans (ended _))

/-! ## The resets, the rollover, the offset change and the install -/

section Events

variable {s t : State} {kind tag : Byte} {p : List Byte}

/-- A command that answers a state in which the ranges are kept. -/
theorem KeepsRun.answers {u : State} (k : KeepsRun s u) (h : (.next u : Host.Outcome State Fault Refusal) = .next t) :
    KeepsRun s t := by
  cases h
  exact k

theorem execInstall_keeps (h : execInstall s = .next t) : KeepsRun s t := by
  unfold execInstall at h
  split at h
  · exact ((installPass_drives _ s).keeps.trans (settleOutputs_keeps s _)).answers h
  · exact (KeepsRun.refl s).answers h

theorem execPowerOn_keeps (h : execPowerOn s = .next t) : KeepsRun s t := by
  cases h
  have fresh : TunersKept State.reset ∧ HostKept State.reset := by decide
  exact ⟨fun _ => fresh.1, fun _ => fresh.2⟩

/-- The Wake Supervisor after a WARM or COLD reset is AWAKE, with its settings in range (R194). -/
theorem resetWake_kept {k : ResetKind} {keep : Option Nat} {lead : Nat} {causes : Causes} (h : 30 ≤ lead ∧ lead ≤ 900)
    (code : ∀ n ∈ keep, n ≤ 7) : WakeKept (resetWake k keep lead causes) :=
  ⟨by simp [resetWake], by simp [resetWake], nofun, nofun, Nat.zero_le _, h.1, h.2, code⟩

theorem idleTuner_kept : TunerKept idleTuner := by decide

theorem execWarmReset_keeps (h : execWarmReset s = .next t) : KeepsRun s t := by
  unfold execWarmReset at h
  split at h
  · cases h
    have run : (warmReset s).run = warmRun s.run := by simp [warmReset]
    have wsv : (warmReset s).wsv = resetWake .warm s.wsv.keepCode s.wsv.wakeLead s.wsv.causes := by simp [warmReset]
    refine ⟨fun ⟨_, _, settings⟩ => ?_, fun hs => hostKept_noClaims ?_ (by rw [run]; rfl)⟩
    · rw [TunersKept, run]
      exact ⟨idleTuner_kept, idleTuner_kept, settings⟩
    · obtain ⟨⟨-, -, -, -, -, least, most, code⟩, -, -⟩ := hostKept_iff.mp hs
      rw [wsv]
      exact resetWake_kept ⟨least, most⟩ code
  · exact (KeepsRun.refl s).answers h

theorem execColdReset_keeps (h : execColdReset s = .next t) : KeepsRun s t := by
  unfold execColdReset at h
  split at h
  · cases h
    have run : (coldReset s).run = freshRun := by simp [coldReset]
    have wsv : (coldReset s).wsv = resetWake .cold (some 4) 120 s.wsv.causes := by simp [coldReset]
    refine ⟨fun _ => ?_, fun _ => hostKept_noClaims ?_ (by rw [run]; rfl)⟩
    · rw [TunersKept, run]
      decide
    · rw [wsv]
      exact resetWake_kept (by decide) (by decide)
  · exact (KeepsRun.refl s).answers h

theorem execDayRollover_keeps (h : execDayRollover s = .next t) : KeepsRun s t := by
  unfold execDayRollover at h
  split at h
  · exact (KeepsRun.refl s).answers h
  · cases h
    exact KeepsRun.trans (t := modClk rolloverTaken s) .same ((handRollover_drives _).keeps.trans (settle_keeps s _))

theorem execOffsetChange_keeps (h : execOffsetChange s = .next t) : KeepsRun s t := by
  unfold execOffsetChange at h
  split at h
  · cases h
    have applied (f : Clock → Clock) : Drives s (modClk f s) := .same
    have logged (c : Condition) (q : Prop) [Decidable q] (u : State) : Drives u (if q then u else submit c u) :=
      .ite (.refl u) (submit_drives c u)
    exact (((applied _).trans (logged _ _ _)).trans (setDirty_drives _)).keeps.trans (settle_keeps s _)
  · exact (KeepsRun.refl s).answers h

/-! ## The events of the line (R196 to R201) -/

/-- GUIDE_PUT judges the clock before its payload (log entry 13). -/
theorem execGuidePut_keeps (h : execGuidePut tag p s = .next t) : KeepsRun s t := by
  cases h
  refine (onFrame_keeps (fun u => .ite ?_ .same) _ _ _ _).trans (settle_keeps s _)
  split
  · exact .same
  · exact .ite .same (guidePut_drives tag _ u).keeps

theorem execBadCheck_keeps {check : BitVec 16} (h : execBadCheck kind tag p check s = .next t) : KeepsRun s t := by
  unfold execBadCheck answerBadCheck at h
  dsimp only at h
  repeat' split at h
  all_goals
    cases h
    exact .same

theorem execBadKind_keeps (h : execBadKind kind tag p s = .next t) : KeepsRun s t := by
  unfold execBadKind at h
  split at h
  · exact (KeepsRun.refl s).answers h
  · exact (onFrame_keeps (fun u => .same (t := answerBadKind kind tag u) rfl rfl) _ _ _ _).answers h

theorem execFrameDiscardedInHand_keeps (h : execFrameDiscardedInHand kind tag p s = .next t) : KeepsRun s t := by
  unfold execFrameDiscardedInHand at h
  split at h
  all_goals
    cases h
    exact .same

theorem execLineFramingError_keeps {bs : List Byte} (h : execLineFramingError bs s = .next t) : KeepsRun s t := by
  unfold execLineFramingError at h
  split at h
  all_goals
    cases h
    exact .same

theorem interByteEnd_drives (s : State) : Drives s (interByteEnd s) := by
  unfold interByteEnd
  dsimp only
  cases h : takeDelay .interByte (startDelay .interByte Config.interByteUnits s) with
  | none => exact .same rfl rfl
  | some u => exact (startDelay_drives _ _ s).trans (takeDelay_drives h)

theorem execInterByteTimeout_keeps {bs : List Byte} (h : execInterByteTimeout bs s = .next t) : KeepsRun s t := by
  unfold execInterByteTimeout at h
  repeat' split at h
  · exact (KeepsRun.refl s).answers h
  · exact (KeepsRun.refl s).answers h
  · cases h
    have hunts (f : Link → Link) : Drives s (modLnk f s) := .same rfl rfl
    exact ((hunts _).trans (interByteEnd_drives _)).keeps

theorem execReplySent_keeps (h : execReplySent s = .next t) : KeepsRun s t := by
  unfold execReplySent at h
  split at h
  all_goals
    cases h
    exact .same

theorem execFrameLengthExceeds512_keeps {high low : Byte} (h : execFrameLengthExceeds512 high low s = .next t) :
    KeepsRun s t := by
  unfold execFrameLengthExceeds512 at h
  split at h
  all_goals
    cases h
    exact .same

end Events

/-! ## Every command -/

section Commands

variable {α : Type} {s t : State} {pr : Parser α} {kind tag : Byte} {p : List Byte}

/-- A message, and the end of its event. -/
theorem KeepsRun.settledMessage {act : α → State → State} (k : ∀ m u, KeepsRun u (act m u))
    (h : (.next (settle s (onMessage kind tag pr p act s)) : Host.Outcome State Fault Refusal) = .next t) :
    KeepsRun s t := ((onMessage_keeps k pr kind tag p s).trans (settle_keeps s _)).answers h

/-- A message of another block. -/
theorem Drives.settledMessage {act : α → State → State} (k : ∀ m u, Drives u (act m u))
    (h : (.next (settle s (onMessage kind tag pr p act s)) : Host.Outcome State Fault Refusal) = .next t) :
    KeepsRun s t := .settledMessage (fun m u => (k m u).keeps) h

/-- A message that settles nothing. -/
theorem KeepsRun.message {act : α → State → State} (k : ∀ m u, KeepsRun u (act m u))
    (h : (.next (onMessage kind tag pr p act s) : Host.Outcome State Fault Refusal) = .next t) : KeepsRun s t :=
  (onMessage_keeps k pr kind tag p s).answers h

theorem Drives.message {act : α → State → State} (k : ∀ m u, Drives u (act m u))
    (h : (.next (onMessage kind tag pr p act s) : Host.Outcome State Fault Refusal) = .next t) : KeepsRun s t :=
  .message (fun m u => (k m u).keeps) h

theorem Drives.due {act : State → State} (k : ∀ u, Drives u (act u)) {d : DueKind}
    (h : (.next (onDue d act s) : Host.Outcome State Fault Refusal) = .next t) : KeepsRun s t :=
  (onDue_keeps (fun u => (k u).keeps) d s).answers h

theorem Drives.delay {act : State → State} (k : ∀ u, Drives u (act u)) {d : DelayKind}
    (h : (.next (onDelay d act s) : Host.Outcome State Fault Refusal) = .next t) : KeepsRun s t :=
  (onDelay_keeps (fun u => (k u).keeps) d s).answers h

end Commands

/-- One command keeps the ranges: a reset starts both blocks afresh, and every other command reaches them by their own
operations alone. -/
theorem exec_keepsRun (c : Instr) {s t : State} (h : exec c s = .next t) : KeepsRun s t := by
  cases c with
  | powerOn => exact execPowerOn_keeps h
  | warmReset => exact execWarmReset_keeps h
  | coldReset => exact execColdReset_keeps h
  | crystalSecond => exact KeepsRun.answers .same h
  | dayRollover => exact execDayRollover_keeps h
  | offsetChange => exact execOffsetChange_keeps h
  | timeSet tag p => exact .settledMessage (timeSet_keeps tag) h
  | timeGet tag p => exact Drives.message (fun _ u => timeGet_drives tag u) h
  | guidePut tag p => exact execGuidePut_keeps h
  | guideDropKeys tag p => exact Drives.settledMessage (guideDrop_drives tag) h
  | guideDropService tag p => exact Drives.settledMessage (guideDrop_drives tag) h
  | eventStatus tag p => exact Drives.settledMessage (eventStatus_drives tag) h
  | guideGetEvent tag p => exact (onFrame_keeps (fun u => (guideGet_drives tag p u).keeps) _ _ _ s).answers h
  | guideGetSummary tag p => exact (onFrame_keeps (fun u => (guideGet_drives tag p u).keeps) _ _ _ s).answers h
  | bookEvent tag p => exact Drives.settledMessage (bookEvent_drives tag) h
  | bookSeries tag p => exact Drives.settledMessage (bookSeries_drives tag) h
  | bookManual tag p => exact Drives.settledMessage (bookManual_drives tag) h
  | bookChange tag p => exact Drives.settledMessage (bookChange_drives tag) h
  | bookSuspend tag p => exact Drives.settledMessage (moveBooking_drives _ tag _) h
  | bookResume tag p => exact Drives.settledMessage (moveBooking_drives _ tag _) h
  | bookDelete tag p => exact Drives.settledMessage (bookDelete_drives tag) h
  | bookGet tag p => exact Drives.message (bookGet_drives tag) h
  | bookList tag p => exact Drives.message (bookList_drives tag) h
  | historyAdd tag p => exact Drives.settledMessage (historyAdd_drives tag) h
  | historyDropPair tag p => exact Drives.settledMessage (historyDrop_drives tag) h
  | historyDropSeries tag p => exact Drives.settledMessage (historyDrop_drives tag) h
  | historyGet tag p => exact Drives.message (historyGet_drives tag) h
  | instanceGet tag p => exact Drives.message (instanceGet_drives tag) h
  | planGet tag p => exact Drives.message (planGet_drives tag) h
  | outcomeTake tag p => exact Drives.settledMessage (outcomeTake_drives tag) h
  | clashGet tag p => exact Drives.message (clashGet_drives tag) h
  | install => exact execInstall_keeps h
  | windowStart n => exact Drives.due (takeWindowStart_drives n) h
  | coreEnd n => exact Drives.due (takeCoreEnd_drives n) h
  | heldStartLimit n => exact Drives.due (takeHeldLimit_drives n) h
  | stopMoment n => exact Drives.due (enterStopping_drives _ n) h
  | overrunCap n => exact Drives.due (takeOverrunCap_drives n) h
  | startConfirmTimeout n => exact Drives.delay (takeStartTimeout_drives n) h
  | stopConfirmTimeout n => exact Drives.delay (takeStopTimeout_drives n) h
  | recReportStarted tag p => exact Drives.settledMessage (recReport_drives tag) h
  | recReportStartFailed tag p => exact Drives.settledMessage (recReport_drives tag) h
  | recReportStopped tag p => exact Drives.settledMessage (recReport_drives tag) h
  | viewClaimNew tag p => exact .settledMessage (viewClaim_keeps tag) h
  | viewClaimChange tag p => exact .settledMessage (viewClaim_keeps tag) h
  | viewRelease tag p => exact Drives.settledMessage (viewRelease_drives tag) h
  | yieldWarning n => exact Drives.due (takeYieldWarning_drives n) h
  | lockGraceEnd u => exact Drives.due (takeGraceEnd_drives u) h
  | lockMonitorTick u locked => exact Drives.delay (takeTick_drives u locked) h
  | lockAbandon u => exact Drives.due (takeAbandon_drives u) h
  | windowClose n => exact Drives.due (takeWindowClose_drives n) h
  | keepaliveExpiry => exact (onDelay_keeps takeKeepalive_keeps _ s).answers h
  | wakeDue => exact (onDue_keeps takeWakeDue_keeps _ s).answers h
  | wakeTimeout => exact (onDelay_keeps takeWakeTimeout_keeps _ s).answers h
  | resetPulseEnd => exact (onDelay_keeps (fun u => modWsv_keeps id id) _ s).answers h
  | hello tag p =>
    exact ((onMessage_keeps (fun _ u => hello_keeps tag u) _ _ _ _ s).trans (settleOutputs_keeps s _)).answers h
  | standby tag p => exact .settledMessage (fun _ u => standby_keeps tag u) h
  | causeClear tag p => exact .message (fun _ u => causeClear_keeps tag u) h
  | resetPart tag p => exact Drives.message (resetPart_drives tag) h
  | condRead tag p => exact Drives.message (condRead_drives tag) h
  | condClear tag p => exact Drives.message (condClear_drives tag) h
  | condConfig tag p => exact Drives.message (condConfig_drives tag) h
  | noticeFetch tag p => exact Drives.settledMessage (fun _ u => noticeFetch_drives tag u) h
  | actionsGet tag p => exact Drives.message (fun _ u => actionsGet_drives tag u) h
  | configSet tag p => exact .settledMessage (configSet_keeps tag) h
  | configGet tag p => exact (onFrame_keeps (fun u => (configGet_drives tag _ u).keeps) _ _ _ s).answers h
  | badCheck kind tag p check => exact execBadCheck_keeps h
  | badKind kind tag p => exact execBadKind_keeps h
  | frameDiscardedInHand kind tag p => exact execFrameDiscardedInHand_keeps h
  | lineFramingError bs => exact execLineFramingError_keeps h
  | interByteTimeout bs => exact execInterByteTimeout_keeps h
  | replySent => exact execReplySent_keeps h
  | frameLengthExceeds512 high low => exact execFrameLengthExceeds512_keeps h

/-- A step takes a command off the queue, which neither block holds, and the command keeps the ranges. -/
theorem step_keepsRun {s t : State} (h : step s = .next t) : KeepsRun s t := by
  unfold step at h
  split at h
  · exact (KeepsRun.refl s).answers h
  · rename_i c rest _
    exact KeepsRun.trans (t := { s with pending := rest }) (.same rfl rfl) (exec_keepsRun c h)

/-- Settles O59: every command keeps the run records and the settings in range. -/
theorem stepsKeepTheTuners : Obligations.StepsKeepTheTuners := fun _ _ hs h => (step_keepsRun h).tuners hs

/-- Settles O60: every command keeps the Wake Supervisor and the claims consistent. -/
theorem stepsKeepTheHost : Obligations.StepsKeepTheHost := fun _ _ hs h => (step_keepsRun h).host hs

end Sys2Proof.Machine

/-! PROOFS. The end of an event in which a recording runs, and the stop moments and overrun caps (R148, R151, R153,
R191). -/

namespace Sys2Proof.Machine

-- one theorem after another: many at a time would want a thread each
set_option Elab.async false

open Sys2Proof

/-! ## The end of an event while a recording runs (R190, R191) -/

section Running

variable {s u : State}

/-- The standby test fails while a recording runs (R190). -/
theorem standbyTest_running (h : ∃ j ∈ s.lst.insts, isRunning j.state = true) : standbyTest s = false := by
  obtain ⟨j, hj, hr⟩ := h
  have some_running : runningCount s ≠ 0 :=
    List.length_pos_iff.mpr (List.ne_nil_of_mem (List.mem_filter.mpr ⟨hj, hr⟩)) |>.ne'
  rw [standbyTest, beq_eq_false_iff_ne.mpr some_running, Bool.false_and]

/-- No retest clears the wish for standby while a recording runs (R191). -/
theorem retestStandby_running (h : ∃ j ∈ s.lst.insts, isRunning j.state = true) (b : Bool) : retestStandby b s = s :=
  if_neg (fun test => Bool.false_ne_true ((standbyTest_running h).symm.trans test.2.2.2))

/-- While a recording runs, the end of an event writes only the action set and the attention output of the link, and
nothing of the host (R82, R191, R204). -/
theorem settleOutputs_running (before : State) (h : ∃ j ∈ u.lst.insts, isRunning j.state = true) :
    (settleOutputs before u).lnk =
      { u.lnk with actionSet := actionIds u, attn := !u.lnk.notices.isEmpty || !(actionIds u).isEmpty } ∧
    (settleOutputs before u).wsv = u.wsv := by
  have runs : ∃ j ∈ (syncWake (handSummaries (placeTerminals u))).lst.insts, isRunning j.state = true := by
    rw [syncWake_lst]
    exact h
  unfold settleOutputs
  dsimp only
  rw [retestStandby_running runs, beginPass_lnk, beginPass_wsv, setAttention_wsv, setAttention, modLnk_lnk, syncWake_lnk,
    syncWake_wsv]
  exact ⟨rfl, rfl⟩

end Running

/-! ## Entering STOPPING, written out (R148) -/

section Stopping

variable {i : Inst} {reason : StopReason} {k : Nat} {s : State}

/-- The recording that enters STOPPING, before the monitor check and the dirty flag. -/
def stoppingState (i : Inst) (reason : StopReason) (s : State) : State :=
  startDelay (.stopConfirm i.id) (secs Config.confirmSecs)
    (modInst i.id (stopped reason s.clk.count) (withdrawDues [.stopMoment i.id, .overrunCap i.id, .coreEnd i.id] s))

theorem enterStopping_eq (hi : findInst k s = some i) (h : NoGapOn i s) (hr : i.state = .recording) :
    enterStopping reason k s = setDirtyIf i.overrun.isSome (monitorCheckOf i (stoppingState i reason s)) := by
  obtain rfl := findInst_id hi
  unfold enterStopping
  rw [hi]
  dsimp only
  rw [if_pos hr, chargeLeaving_noGapOn hi h]
  rfl

/-- The stop tells nobody (R148). -/
theorem enterStopping_noticeless (hi : findInst k s = some i) (h : NoGapOn i s) (hr : i.state = .recording) :
    (enterStopping reason k s).lnk = s.lnk := by
  rw [enterStopping_eq hi h hr, setDirtyIf_lnk, (monitorCheckOf_rest (s := stoppingState i reason s) h).rest]
  rfl

/-- Its stop moment, its cap and its core end are withdrawn (R148). -/
theorem enterStopping_withdraws (hi : findInst k s = some i) (h : NoGapOn i s) (hr : i.state = .recording) {d : DueKind}
    (hd : d ∈ [DueKind.stopMoment i.id, .overrunCap i.id, .coreEnd i.id]) :
    heldDue d (enterStopping reason k s) = none := by
  have check := (monitorCheckOf_rest (s := stoppingState i reason s) h).dues
  rw [enterStopping_eq hi h hr, heldDue_of_clk (setDirtyIf_clk _ _)]
  exact heldDue_none_of_sublist check (heldDue_withdrawDues_mem hd s)

/-- Only a RECORDING one can enter STOPPING (R148). -/
theorem enterStopping_stands (hi : findInst k s = some i) (hr : i.state ≠ .recording) : enterStopping reason k s = s := by
  unfold enterStopping
  rw [hi]
  exact if_neg hr

end Stopping

/-! ## The parts that an event leaves -/

/-- An event has left the parts of the state that no start, miss or stop of a recording writes. -/
structure KeepsParts (s x : State) : Prop where
  gst : x.gst = s.gst
  bkt : x.bkt = s.bkt
  claims : x.run.claims = s.run.claims
  time : x.clk.count = s.clk.count ∧ x.clk.cstate = s.clk.cstate ∧ x.clk.offset = s.clk.offset
  held : x.lnk.held = s.lnk.held
  wsv : x.wsv = s.wsv

theorem KeepsParts.trans {s v x : State} (h : KeepsParts s v) (g : KeepsParts v x) : KeepsParts s x := by
  obtain ⟨count, cstate, offset⟩ := h.time
  obtain ⟨count', cstate', offset'⟩ := g.time
  exact ⟨g.gst.trans h.gst, g.bkt.trans h.bkt, g.claims.trans h.claims,
    ⟨count'.trans count, cstate'.trans cstate, offset'.trans offset⟩, g.held.trans h.held, g.wsv.trans h.wsv⟩

theorem Begun.parts {s v : State} (b : Begun s v) : KeepsParts s v :=
  ⟨b.gst, b.bkt, congrArg (fun r => r.claims) b.run, b.time, b.link.2.1, b.wsv⟩

theorem Stops.parts {i : Inst} {reason : StopReason} {s x : State} (e : Stops i reason s x) : KeepsParts s x := by
  obtain ⟨ns, o, lnk⟩ := e.moved.notices
  exact ⟨e.moved.gst, e.bkt, e.moved.claims, time_of_timeOf e.moved.time, by rw [lnk], e.moved.wsv⟩

theorem KeepsParts.others {s x : State} (h : KeepsParts s x) (before : State) :
    OtherPartsKept s (settleOutputs before x) := by
  obtain ⟨count, cstate, offset⟩ := h.time
  refine ⟨?_, ?_, ?_, ?_, ?_, ?_, ?_, ?_⟩
  · rw [settleOutputs_gst, h.gst]
  · rw [settleOutputs_bkt, h.bkt]
  · rw [settleOutputs_run, h.claims]
  · rw [settleOutputs_count, count]
  · rw [settleOutputs_cstate, cstate]
  · rw [settleOutputs_offset, offset]
  · rw [settleOutputs_held, h.held]
  · rw [settleOutputs_wsv, h.wsv]

/-- The attention output is up when an action is asked for (R204). -/
theorem settleOutputs_attn {k : Nat} {x : State} (before : State) (h : k ∈ actionIds x) :
    (settleOutputs before x).lnk.attn = true := by
  have asked : k ∈ (settleOutputs before x).lnk.actionSet := by rwa [settleOutputs_actionSet]
  obtain ⟨-, -, -, -, attn, -⟩ := settleOutputs_settled before x
  rw [attn, attnOf, List.isEmpty_eq_false_iff.mpr (List.ne_nil_of_mem asked)]
  exact Bool.or_true _

/-! ## An event that ends in a stop -/

section Stopped

variable {i : Inst} {s v : State}

/-- What a stop leaves at the end of its event. -/
structure HasStopped (i : Inst) (reason : StopReason) (s u : State) : Prop where
  insts : u.lst.insts = changedAt i.id (stopped reason s.clk.count) s
  confirm : heldDelay (.stopConfirm i.id) u = some { kind := .stopConfirm i.id, left := 30 * Config.unitsPerSecond }
  moment : heldDue (.stopMoment i.id) u = none
  cap : heldDue (.overrunCap i.id) u = none
  action : i.id ∈ u.lnk.actionSet
  attn : u.lnk.attn = true
  rests : i.overrun = none → u.pln = s.pln
  asks : i.overrun ≠ none → PassAsked s u
  active : ∀ t, (tunerRun t u).active = (tunerRun t s).active
  cnd : u.cnd = s.cnd
  tx : u.lnk.tx = s.lnk.tx
  notices : u.lnk.notices = s.lnk.notices
  others : OtherPartsKept s u

/-- A stop in an event that had only begun (R148). -/
theorem settle_stopped {reason : StopReason} (b : Begun s v) (hS : Settled s) (hi : findInst i.id s = some i)
    (h : NoGapOn i s) (hr : i.state = .recording) :
    HasStopped i reason s (settle s (enterStopping reason i.id v)) := by
  have found : findInst i.id v = some i := (b.findInst i.id).trans hi
  have gap : NoGapOn i v := fun t ht => by
    rw [tunerRun_of_run b.run]
    exact h t ht
  let x := enterStopping reason i.id v
  have e : Stops i reason v x := enterStopping_stops found gap hr
  have parts : KeepsParts s x := b.parts.trans e.parts
  obtain ⟨count, -, -⟩ := b.time
  obtain ⟨tx, -, notices⟩ := b.link
  have lnk : x.lnk = v.lnk := enterStopping_noticeless found gap hr
  have active (t : Tuner) : (tunerRun t x).active = (tunerRun t s).active := by rw [e.active, tunerRun_of_run b.run]
  have insts : x.lst.insts = changedAt i.id (stopped reason s.clk.count) s := by
    rw [e.moved.lst, modInst_lst_eq, ← count, changedAt, b.lst, changedAt]
  have mem : stopped reason s.clk.count i ∈ x.lst.insts := by
    rw [insts]
    exact List.mem_map.mpr ⟨i, mem_of_findInst hi, if_pos rfl⟩
  have asked : i.id ∈ actionIds x := mem_idsWhere.mpr ⟨_, mem, rfl, rfl⟩
  obtain ⟨link, -⟩ := settleOutputs_running s ⟨_, mem, rfl⟩
  have planner : x.pln = dirtied i.overrun.isSome s.pln := by rw [e.pln, b.pln]
  have settles : settle s x = settleOutputs s x :=
    congrArg (settleOutputs s) (retryStarts_same_waits (active .a) (active .b) parts.claims)
  show HasStopped i reason s (settle s x)
  rw [settles]
  exact {
    insts := by rw [settleOutputs_insts, insts]
    confirm := by rw [settleOutputs_heldDelay, e.stop]
    moment := by
      rw [settleOutputs_heldDue (k := .stopMoment i.id) _ _ nofun]
      exact enterStopping_withdraws found gap hr (by simp)
    cap := by
      rw [settleOutputs_heldDue (k := .overrunCap i.id) _ _ nofun]
      exact enterStopping_withdraws found gap hr (by simp)
    action := by rwa [settleOutputs_actionSet]
    attn := settleOutputs_attn s asked
    rests := fun rests => settleOutputs_same_pln hS (by rw [planner, rests]; rfl) parts.time.2.1
    asks := fun overruns => settleOutputs_asks (by rw [planner, Option.isSome_iff_ne_none.mpr overruns])
    active := fun t => by rw [tunerRun_of_run (settleOutputs_run s x), active]
    cnd := by rw [settleOutputs_cnd, e.moved.cnd, b.cnd]
    tx := by rw [link, lnk, tx]
    notices := by rw [link, lnk, notices]
    others := parts.others s }

/-- Only inner parts of one recording, the requests and the Planner have changed: the outputs stand (R82, R191, R204). -/
theorem settle_inner {f : Inst → Inst} {x : State} (hS : Settled s) (e : x.lst.insts = changedAt i.id f s)
    (inner : ∀ j, (f j).state = j.state ∧ (f j).id = j.id ∧ (f j).window = j.window) (run : x.run = s.run)
    (lnk : x.lnk = s.lnk) (wsv : x.wsv = s.wsv) :
    settle s x = settleOutputs s x ∧ (settleOutputs s x).lnk = s.lnk ∧ (settleOutputs s x).wsv = s.wsv := by
  have kept (j : Inst) : (if j.id = i.id then f j else j).state = j.state ∧
      (if j.id = i.id then f j else j).id = j.id ∧ (if j.id = i.id then f j else j).window = j.window := by
    split
    · exact inner j
    · exact ⟨rfl, rfl, rfl⟩
  obtain ⟨running, planned, action⟩ := summaries_of_map e (fun j => (kept j).1) (fun j => (kept j).2.1)
    (fun j => (kept j).2.2)
  exact ⟨congrArg (settleOutputs s) (retryStarts_same_run s x run),
    settleOutputs_unmoved hS running planned action lnk wsv⟩

end Stopped

/-! ## Stop moments and caps (R151, R153) -/

section Caps

variable {i : Inst} {s : State}

/-- An overrun cap stops what is RECORDING. -/
theorem takeOverrunCap_recording (hi : findInst i.id s = some i) (hr : i.state = .recording) :
    takeOverrunCap i.id s = enterStopping .stopMoment i.id s := by
  rw [takeOverrunCap, hi]
  dsimp only
  rw [hr]

/-- The cap of one in STARTING becomes its fixed stop moment. -/
theorem takeOverrunCap_starting {cap : Nat} (hi : findInst i.id s = some i) (hr : i.state = .starting)
    (ho : i.overrun = some cap) : takeOverrunCap i.id s = setDirty (modInst i.id (fun j => { j with
      overrun := none, stopAt := some (.at cap), stopFixed := true }) s) := by
  rw [takeOverrunCap, hi]
  dsimp only
  rw [hr, ho]

theorem onDue_stops {k : DueKind} {act : State → State} (hS : Settled s) (due : Delivered k s)
    (hi : findInst i.id s = some i) (h : NoGapOn i s) (hr : i.state = .recording)
    (acts : act (withdrawDue k s) = enterStopping .stopMoment i.id (withdrawDue k s)) :
    HasStopped i .stopMoment s (onDue k act s) := by
  rw [onDue_taken (takeDue_delivered due), acts]
  exact settle_stopped (withdrawDue_begun k s) hS hi h hr

end Caps

/-- Settles O28: both events lead to one stop; what they find in STARTING stays there. -/
theorem stopMomentAndCapStop : Obligations.StopMomentAndCapStop := by
  intro s n i t hS _ hi ht hg
  obtain rfl := findInst_id hi
  have gap : NoGapOn i s := fun x hx => by
    obtain rfl := Option.some.inj (ht.symm.trans hx)
    exact hg
  refine ⟨fun c taken hr => ?_, fun due hr => ?_, fun cap due hr ho => ?_⟩
  · have e : ∃ u, exec c s = .next u ∧ HasStopped i .stopMoment s u := by
      obtain ⟨rfl, due⟩ | ⟨rfl, due⟩ := taken
      · exact ⟨_, rfl, onDue_stops hS due hi gap hr rfl⟩
      · exact ⟨_, rfl, onDue_stops hS due hi gap hr (takeOverrunCap_recording hi hr)⟩
    obtain ⟨u, run, e⟩ := e
    exact ⟨u, run, e.insts, e.confirm, e.moment, e.cap, e.action, e.attn, e.rests, e.asks, e.active, e.cnd, e.tx,
      e.notices, e.others⟩
  · have still : enterStopping .stopMoment i.id (withdrawDue (.stopMoment i.id) s) = withdrawDue (.stopMoment i.id) s :=
      enterStopping_stands hi (by rw [hr]; exact nofun)
    refine congrArg Host.Outcome.next ((onDue_taken (takeDue_delivered due)).trans ?_)
    rw [still]
    exact settle_withoutDue (k := .stopMoment i.id) hS nofun
  · let x := takeOverrunCap i.id (withdrawDue (.overrunCap i.id) s)
    have made := takeOverrunCap_starting (s := withdrawDue (.overrunCap i.id) s) hi hr ho
    have run : x.run = s.run := (congrArg State.run made).trans (setDirty_run _)
    have lnk : x.lnk = s.lnk := (congrArg State.lnk made).trans (setDirty_lnk _)
    have wsv : x.wsv = s.wsv := (congrArg State.wsv made).trans (setDirty_wsv _)
    have clk : x.clk = (withdrawDue (.overrunCap i.id) s).clk := (congrArg State.clk made).trans (setDirty_clk _)
    have insts : x.lst.insts = changedAt i.id (fun j => { j with
        overrun := none, stopAt := some (.at cap), stopFixed := true }) s := by
      rw [show x = _ from made, setDirty_lst, modInst_lst_eq]
      rfl
    obtain ⟨settles, link, -⟩ := settle_inner hS insts (fun _ => ⟨rfl, rfl, rfl⟩) run lnk wsv
    have parts : KeepsParts s x :=
      ⟨(congrArg State.gst made).trans (setDirty_gst _), (congrArg State.bkt made).trans (setDirty_bkt _),
        congrArg (fun r => r.claims) run, by rw [clk]; exact ⟨rfl, rfl, rfl⟩, congrArg (fun l => l.held) lnk, wsv⟩
    refine ⟨settleOutputs s x, congrArg Host.Outcome.next ((onDue_taken (takeDue_delivered due)).trans settles), ?_, ?_, ?_,
      ?_, link, parts.others s⟩
    · rw [settleOutputs_insts, insts]
    · exact settleOutputs_asks ((congrArg State.pln made).trans (setDirty_pln _))
    · rw [settleOutputs_run, run]
    · rw [settleOutputs_cnd]
      exact (congrArg State.cnd made).trans (setDirty_cnd _)

end Sys2Proof.Machine

/-! PROOFS. A window start: missed, held, or made on a free tuner, early or late (R142, R143). -/

namespace Sys2Proof.Machine

-- one theorem after another: many at a time would want a thread each
set_option Elab.async false

open Sys2Proof

/-! ## The branches of a window start (R142) -/

section Window

variable {n : Nat} {i : Inst} {w : Window} {t : Tuner} {s : State}

theorem takeWindowStart_missed (hi : findInst n s = some i) (hs : i.state = .planned) (late : heldLimit i ≤ s.clk.count) :
    takeWindowStart n s = missInst .notStarted n s := by
  rw [takeWindowStart, hi]
  exact (if_pos hs).trans (if_pos late)

theorem takeWindowStart_held (hi : findInst n s = some i) (hs : i.state = .planned) (early : s.clk.count < heldLimit i)
    (asleep : s.wsv.host ≠ .awake) :
    takeWindowStart n s = requestDue (.heldLimit n) (heldLimit i) (modInst n waiting s) := by
  have host : ¬ hostAwake s = true := fun h => asleep (beq_iff_eq.mp h)
  rw [takeWindowStart, hi]
  exact (if_pos hs).trans ((if_neg (Nat.not_le.mpr early)).trans (if_neg host))

theorem takeWindowStart_attempt (hi : findInst n s = some i) (hs : i.state = .planned) (hw : i.window = some w)
    (early : s.clk.count < heldLimit i) (awake : s.wsv.host = .awake) :
    takeWindowStart n s = startAttempt false (decide (w.ws < s.clk.count)) n s := by
  have first : winStart i = w.ws := by rw [winStart, hw]; rfl
  rw [takeWindowStart, hi, ← first]
  exact (if_pos hs).trans ((if_neg (Nat.not_le.mpr early)).trans (if_pos (beq_iff_eq.mpr awake)))

/-- An attempt on a free tuner, with no handover, starts there (R143). -/
theorem startAttempt_free {late : Bool} (hi : findInst n s = some i) (ht : i.tuner = some t) (free : freeFor t i s = true)
    (hc : ∀ j ∈ s.lst.insts, j.cutBy ≠ some n) (hy : ∀ c ∈ s.run.claims, c.yieldTo ≠ some n) :
    startAttempt false late n s = startOn t false late n s := by
  rw [startAttempt, hi]
  dsimp only
  rw [ht]
  dsimp only
  rw [if_neg Bool.false_ne_true, handovers_unmarked hc hy]
  exact if_pos free

end Window

/-! ## What waits while tuners only fill (R144) -/

/-- Where no recording has left a tuner and no claim has gone, nothing has changed that a start could wait for. -/
theorem waitChanged_grown {before s : State} (active : ∀ t, ∀ k ∈ (tunerRun t before).active, k ∈ (tunerRun t s).active)
    (claims : ∀ c ∈ before.run.claims, c ∈ s.run.claims) : waitChanged before s = false := by
  simp only [waitChanged, Bool.or_eq_false_iff, Bool.not_eq_false', List.all_eq_true, List.any_eq_true,
    List.contains_iff_mem]
  exact ⟨⟨active .a, active .b⟩, fun c hc => ⟨c, claims c hc, by simp⟩⟩

theorem retryStarts_unchanged {before s : State} (h : waitChanged before s = false) : retryStarts before s = s := by
  unfold retryStarts
  simp only [retryRounds, h, Bool.and_false]
  rfl

theorem retryStarts_grown {before s : State} (active : ∀ t, ∀ k ∈ (tunerRun t before).active, k ∈ (tunerRun t s).active)
    (claims : ∀ c ∈ before.run.claims, c ∈ s.run.claims) : retryStarts before s = s :=
  retryStarts_unchanged (waitChanged_grown active claims)

/-! ## A start at its window start (R143) -/

section Start

variable {t : Tuner} {late : Bool} {i : Inst} {s v : State}

/-- A start that is not late tells nobody. -/
theorem startOn_lnk (hi : findInst i.id s = some i) (early : ¬ (late = true ∧ i.start < s.clk.count)) :
    (startOn t false late i.id s).lnk = s.lnk := by
  obtain ⟨ds, e⟩ := startState_clk (t := t) (resume := false) (i := i) (s := s)
  rw [startOn_eq hi, if_neg early, e]
  cases t <;> rfl

/-- A start from an event that had only begun, late or not. -/
theorem startOn_from (hi : findInst i.id v = some i) : StartsFrom t i
    (if late = true ∧ i.start < v.clk.count then (submit (tunerCond t .deferred .startLate i) v).cnd else v.cnd) v
    (startOn t false late i.id v) :=
  ⟨startOn_starts hi, startOn_other hi⟩

theorem StartsFrom.parts {log : CondLog} {x : State} (e : StartsFrom t i log v x) (q : Quiet v x)
    (c : NoticesOnly v x) : KeepsParts v x := by
  obtain ⟨ns, o, lnk⟩ := c
  exact ⟨e.starts.gst, e.starts.bkt, e.starts.claims, time_of_timeOf q.time, by rw [lnk], e.starts.wsv⟩

/-- A start adds to the active recordings of its tuner (R138). -/
theorem StartsFrom.grows {log : CondLog} {x : State} (e : StartsFrom t i log v x) (y : Tuner) :
    ∀ k ∈ (tunerRun y v).active, k ∈ (tunerRun y x).active := by
  intro k hk
  by_cases same : y = t
  · subst same
    rw [e.starts.run]
    exact List.mem_append_left _ hk
  · have other : y = otherTuner t := by
      cases y
      all_goals cases t
      · exact absurd rfl same
      · rfl
      · rfl
      · exact absurd rfl same
    rw [other, e.other, ← other]
    exact hk

/-- What a start leaves at the end of its event, its log as given. -/
structure HasStartedSince (t : Tuner) (i : Inst) (log : CondLog) (s u : State) : Prop where
  insts : u.lst.insts = changedAt i.id (started t (winEnd i)) s
  started : HasStarted i.id t i.mux (winEnd i) s u
  cnd : u.cnd = log
  pln : u.pln = s.pln
  others : OtherPartsKept s u

/-- A start in an event that had only begun: no other start is retried, for no tuner has come free (R143, R144). -/
theorem settle_started (hS : Settled s) (b : Begun s v) (hi : findInst i.id s = some i) :
    settle s (startOn t false late i.id v) = settleOutputs s (startOn t false late i.id v) ∧
    HasStartedSince t i
      (if late = true ∧ i.start < s.clk.count then (submit (tunerCond t .deferred .startLate i) s).cnd else s.cnd) s
      (settleOutputs s (startOn t false late i.id v)) := by
  obtain ⟨count, -, -⟩ := b.time
  have found : findInst i.id v = some i := (Begun.findInst b i.id).trans hi
  let x := startOn t false late i.id v
  have e := startOn_from (t := t) (late := late) found
  have parts : KeepsParts s x :=
    b.parts.trans (e.parts (startOn_quiet t false late i.id v) (startOn_calm t false late i.id v).notices)
  have runs (y : Tuner) : tunerRun y v = tunerRun y s := tunerRun_of_run b.run y
  have grown (y : Tuner) : ∀ k ∈ (tunerRun y s).active, k ∈ (tunerRun y x).active := fun k hk =>
    e.grows y k (by rwa [runs])
  have settles : settle s x = settleOutputs s x :=
    congrArg (settleOutputs s) (retryStarts_grown grown (fun c hc => by rwa [parts.claims]))
  refine ⟨settles, ?_, e.hasStarted found runs b.link.1 s, ?_, ?_, parts.others s⟩
  · rw [settleOutputs_insts, e.insts, changedAt, b.lst]
    rfl
  · rw [settleOutputs_cnd, e.starts.cnd, count, b.cnd]
    split
    · exact submit_cnd_congr _ b.cnd count
    · rfl
  · exact settleOutputs_same_pln hS ((startOn_pln ..).trans b.pln) parts.time.2.1

/-- At a start that is not late, notices and host stand (R191). -/
theorem settle_started_quietly (b : Begun s v) (hi : findInst i.id s = some i)
    (early : ¬ (late = true ∧ i.start < s.clk.count)) :
    (settleOutputs s (startOn t false late i.id v)).lnk.notices = s.lnk.notices ∧
    (settleOutputs s (startOn t false late i.id v)).wsv = s.wsv := by
  have found : findInst i.id v = some i := (Begun.findInst b i.id).trans hi
  have e := startOn_from (t := t) (late := late) found
  have runs : ∃ j ∈ (startOn t false late i.id v).lst.insts, isRunning j.state = true := by
    refine ⟨started t (winEnd i) i, ?_, rfl⟩
    rw [e.insts]
    exact List.mem_map.mpr ⟨i, mem_of_findInst found, if_pos rfl⟩
  obtain ⟨link, host⟩ := settleOutputs_running s runs
  rw [link, host, startOn_lnk found (by rwa [b.time.1]), startOn_wsv, b.wsv]
  exact ⟨b.link.2.2, rfl⟩

end Start

/-! ## A start that is held (R142) -/

section Held

variable {i : Inst} {s : State}

/-- With the host not AWAKE the start is held until its limit; nothing else changes (R142). -/
theorem settle_held (hS : Settled s) (k : DueKind) :
    HasWaited i.id (heldLimit i) s
      (settle s (requestDue (.heldLimit i.id) (heldLimit i) (modInst i.id waiting (withdrawDue k s)))) := by
  let x := requestDue (.heldLimit i.id) (heldLimit i) (modInst i.id waiting (withdrawDue k s))
  have insts : x.lst.insts = changedAt i.id waiting s := congrArg InstanceList.insts (modInst_lst_eq ..)
  obtain ⟨settles, link, host⟩ := settle_inner (x := x) hS insts (fun _ => ⟨rfl, rfl, rfl⟩) rfl rfl rfl
  have parts : KeepsParts s x := ⟨rfl, rfl, rfl, ⟨rfl, rfl, rfl⟩, rfl, rfl⟩
  show HasWaited i.id (heldLimit i) s (settle s x)
  rw [settles]
  refine ⟨?_, ?_, ?_, ?_, settleOutputs_same_pln hS rfl rfl, link, host, parts.others s⟩
  · rw [settleOutputs_insts, insts]
  · rw [settleOutputs_heldDue (k := .heldLimit i.id) _ _ nofun, heldDue_requestDue_same]
    rfl
  · rw [settleOutputs_run]
    rfl
  · rw [settleOutputs_cnd]
    rfl

end Held

/-- Settles O23, branch by branch of `takeWindowStart`. -/
theorem windowStartStartsHoldsOrMisses : Obligations.WindowStartStartsHoldsOrMisses := by
  intro s n i w t hS hD hN due hi hs hw ht hg
  obtain rfl := findInst_id hi
  have b := withdrawDue_begun (.windowStart i.id) s
  have found : findInst i.id (withdrawDue (.windowStart i.id) s) = some i := hi
  have gap : NoGapOn i s := fun x hx => by
    obtain rfl := Option.some.inj (ht.symm.trans hx)
    exact hg
  have run : exec (.windowStart i.id) s =
      .next (settle s (takeWindowStart i.id (withdrawDue (.windowStart i.id) s))) :=
    congrArg Host.Outcome.next (onDue_taken (takeDue_delivered due))
  rw [← heldLimit_eq hw]
  refine ⟨fun late => ?_, fun early asleep => ?_, fun early awake free hc hy soon => ?_⟩
  · rw [takeWindowStart_missed found hs late] at run
    refine ⟨_, run, ?_⟩
    rw [← missBank_planned hs ht]
    exact settle_missed hS hD hN hi gap _
  · rw [takeWindowStart_held found hs early asleep] at run
    exact ⟨_, run, settle_held hS _⟩
  · have notLate : ¬ (decide (w.ws < s.clk.count) = true ∧ i.start < s.clk.count) := by
      rw [decide_eq_true_eq]
      omega
    obtain ⟨settles, e⟩ := settle_started (t := t) (late := decide (w.ws < s.clk.count)) hS b hi
    obtain ⟨notices, host⟩ := settle_started_quietly (t := t) b hi notLate
    have log := e.cnd
    rw [if_neg notLate] at log
    rw [takeWindowStart_attempt found hs hw early awake, startAttempt_free found ht free hc hy] at run
    rw [← winEnd_eq hw]
    exact ⟨_, run.trans (congrArg Host.Outcome.next settles), e.insts, e.started, notices, log, e.pln, host, e.others⟩

end Sys2Proof.Machine

/-! PROOFS. A STARTED report: the segment it opens, the monitor it arms, and the stop it may lead to (R146, R150). -/

namespace Sys2Proof.Machine

-- one theorem after another: many at a time would want a thread each
set_option Elab.async false

open Sys2Proof

/-! ## The monitor that is armed (R146, R157) -/

section Arming

variable {t : Tuner} {s : State}

/-- Arming changes only the grace end of one tuner and its request. -/
theorem armMonitor_frame (t : Tuner) (s : State) : ∃ ds r, armMonitor t s =
    { s with clk := { s.clk with dues := ds }, run := r } ∧ r.claims = s.run.claims := by
  unfold armMonitor
  split
  · cases t
    · exact ⟨_, _, rfl, rfl⟩
    · exact ⟨_, _, rfl, rfl⟩
  · exact ⟨_, _, rfl, rfl⟩

theorem tunerRun_armMonitor (t x : Tuner) (s : State) :
    (tunerRun x (armMonitor t s)).active = (tunerRun x s).active ∧
      (tunerRun x (armMonitor t s)).mon = (tunerRun x s).mon := by
  unfold armMonitor
  split
  · cases t
    · cases x
      · exact ⟨rfl, rfl⟩
      · exact ⟨rfl, rfl⟩
    · cases x
      · exact ⟨rfl, rfl⟩
      · exact ⟨rfl, rfl⟩
  · exact ⟨rfl, rfl⟩

theorem armMonitor_arms (off : (tunerRun t s).mon = .off) (idle : (tunerRun t s).grace = none) :
    (tunerRun t (armMonitor t s)).grace = some (s.clk.count + 5) ∧
      (heldDue (.graceEnd t) (armMonitor t s)).map (fun d => d.time) = some (s.clk.count + 5) := by
  unfold armMonitor
  rw [if_pos ⟨off, idle⟩]
  refine ⟨?_, ?_⟩
  · cases t
    · rfl
    · rfl
  · rw [heldDue_requestDue_same]
    rfl

theorem armMonitor_running (h : (tunerRun t s).mon ≠ .off) : armMonitor t s = s := if_neg (fun test => h test.1)

end Arming

/-! ## The segment that is opened (R146) -/

/-- The record of a recording whose segment opens at a time (R146). -/
def recordingFrom (n : Nat) (j : Inst) : Inst :=
  { j with
    state := .recording, segments := j.segments ++ [{ start := n, stop := none }]
    entries := j.entries + 1 }

/-- The state in which a recording on a tuner has become RECORDING. -/
def openedState (t : Tuner) (i : Inst) (s : State) : State :=
  armMonitor t (modInst i.id (recordingFrom s.clk.count) (cancelDelay (.startConfirm i.id) s))

section Opening

variable {t : Tuner} {i : Inst} {s v : State}

theorem takeStarted_eq (ht : i.tuner = some t) : takeStarted i s =
    if stopReached i s.clk.count then enterStopping .stopMoment i.id (openedState t i s) else openedState t i s := by
  unfold takeStarted
  rw [ht]
  rfl

theorem stopReached_iff {n : Nat} : stopReached i n = true ↔ ∃ m, i.stopAt = some (.at m) ∧ m ≤ n := by
  unfold stopReached
  cases i.stopAt with
  | none => simp
  | some m => cases m <;> simp

/-- A recording that has become RECORDING in an event, short of its stop and its answer. -/
structure Opened (i : Inst) (s x : State) : Prop where
  insts : x.lst.insts = changedAt i.id (recordingFrom s.clk.count) s
  found : findInst i.id x = some (recordingFrom s.clk.count i)
  parts : KeepsParts s x
  active : ∀ y, (tunerRun y x).active = (tunerRun y s).active
  mon : ∀ y, (tunerRun y x).mon = (tunerRun y s).mon
  confirm : heldDelay (.startConfirm i.id) x = none
  cnd : x.cnd = s.cnd
  pln : x.pln = s.pln
  tx : x.lnk.tx = s.lnk.tx

theorem openedState_opened (b : Begun s v) (hi : findInst i.id s = some i) : Opened i s (openedState t i v) := by
  obtain ⟨count, -, -⟩ := b.time
  let y := modInst i.id (recordingFrom v.clk.count) (cancelDelay (.startConfirm i.id) v)
  obtain ⟨ds, r, e, claims⟩ := armMonitor_frame t y
  have parts : KeepsParts v (openedState t i v) := by
    rw [openedState, e]
    exact ⟨rfl, rfl, claims, ⟨rfl, rfl, rfl⟩, rfl, rfl⟩
  have lst : (openedState t i v).lst = (modInst i.id (recordingFrom s.clk.count) s).lst := by
    rw [openedState, e, ← count]
    exact congrArg (fun l : InstanceList =>
      { l with insts := l.insts.map (fun j : Inst => if j.id == i.id then recordingFrom v.clk.count j else j) }) b.lst
  have runs (x : Tuner) : tunerRun x y = tunerRun x s := tunerRun_of_run (u := y) b.run x
  refine ⟨?_, ?_, b.parts.trans parts, fun x => ?_, fun x => ?_, ?_, ?_, ?_, ?_⟩
  · rw [lst, modInst_lst_eq]
  · rw [findInst_of_lst lst, findInst_modInst_same i.id (recordingFrom s.clk.count) (fun _ => rfl), hi]
    rfl
  · rw [← runs, openedState, (tunerRun_armMonitor t x y).1]
  · rw [← runs, openedState, (tunerRun_armMonitor t x y).2]
  · rw [openedState, e]
    exact heldDelay_cancelDelay_same _ v
  · rw [openedState, e]
    exact b.cnd
  · rw [openedState, e]
    exact b.pln
  · rw [openedState, e]
    exact b.link.1

/-- The answer to a report that has opened a segment. -/
theorem answerReport_eq {tag : Byte} {j : Inst} (h : findInst i.id s = some j) :
    answerReport tag i.id s = withReply (okTo 0x38 tag (.report j.state)) s := by
  rw [answerReport, h]
  rfl

end Opening

/-! ## The report that is taken (R150) -/

section Report

variable {t : Tuner} {i : Inst} {tag : Byte} {p : List Byte} {s : State}

theorem gaveUp_iff : gaveUp i = true ↔ GaveUp i := by
  cases h : i.outcome <;> simp [gaveUp, GaveUp, h, or_assoc]

theorem recReport_started {n : Nat} (hi : findInst n s = some i) (h : ¬ GaveUp i) (hs : i.state = .starting) :
    recReport tag (n, .started) s = answerReport tag n (takeStarted i s) := by
  rw [recReport, if_neg nofun, hi]
  dsimp only
  rw [if_neg (fun e => h (gaveUp_iff.mp e)), hs]

theorem recReport_gaveUp {n : Nat} (hi : findInst n s = some i) (h : GaveUp i) :
    recReport tag (n, .started) s = refuse 0x38 tag .tooLate s := by
  rw [recReport, if_neg nofun, hi]
  exact if_pos (gaveUp_iff.mpr h)

theorem recReport_notStarting {n : Nat} (hi : findInst n s = some i) (h : ¬ GaveUp i) (hs : i.state ≠ .starting) :
    recReport tag (n, .started) s = refuse 0x38 tag .notAllowed s := by
  rw [recReport, if_neg nofun, hi]
  dsimp only
  rw [if_neg (fun e => h (gaveUp_iff.mp e))]
  cases hst : i.state with
  | starting => exact absurd hst hs
  | _ => rfl

/-- A recording with its stop moment ahead goes on RECORDING (R146). -/
theorem settle_recording {x : State} (e : Opened i s x) :
    settle s (answerReport tag i.id x) = settleOutputs s (withReply (okTo 0x38 tag (.report .recording)) x) ∧
      i.id ∉ actionIds x := by
  have y : answerReport tag i.id x = withReply (okTo 0x38 tag (.report .recording)) x := answerReport_eq e.found
  refine ⟨?_, fun asked => ?_⟩
  · rw [y]
    exact congrArg (settleOutputs s) (retryStarts_same_waits (e.active .a) (e.active .b) e.parts.claims)
  · obtain ⟨j, hj, hs, hid⟩ := mem_idsWhere.mp asked
    rw [e.insts] at hj
    obtain ⟨k, -, rfl⟩ := List.mem_map.mp hj
    split at hs
    · exact Bool.false_ne_true hs
    · rename_i other
      rw [if_neg other] at hid
      exact other hid

theorem KeepsParts.withReply {x : State} (h : KeepsParts s x) (r : Reply) : KeepsParts s (withReply r x) :=
  ⟨h.gst, h.bkt, h.claims, h.time, h.held, h.wsv⟩

/-- One with its stop moment past goes on to STOPPING (R146, R148). -/
theorem Opened.stops {x : State} (e : Opened i s x) (gap : NoGapOn i s) :
    Stops (recordingFrom s.clk.count i) .stopMoment x (enterStopping .stopMoment i.id x) :=
  enterStopping_stops e.found (fun y hy => by rw [e.mon]; exact gap y hy) rfl

theorem Opened.stopped_insts {x y : State} (e : Opened i s x)
    (h : Stops (recordingFrom s.clk.count i) .stopMoment x y) :
    y.lst.insts = changedAt i.id (fun j => stopped .stopMoment s.clk.count (recordingFrom s.clk.count j)) s := by
  rw [h.moved.lst, modInst_lst_eq, e.parts.time.1]
  dsimp only
  rw [changedAt, e.insts, changedAt, changedAt, List.map_map]
  refine List.map_congr_left (fun j _ => ?_)
  dsimp only [Function.comp_apply]
  by_cases same : j.id = i.id
  · rw [if_pos same, if_pos same]
    exact if_pos same
  · rw [if_neg same, if_neg same]
    exact if_neg same

end Report

/-- Settles O30: refused by what the report finds, or taken, with the stop moment ahead or past. -/
theorem startedReportRecords : Obligations.StartedReportRecords := by
  intro s tag p n hS _ hT hp
  have b := withFrame_begun 0x38 tag p s
  have run : exec (.recReportStarted tag p) s = .next (settle s (recReport tag (n, .started) (withFrame 0x38 tag p s))) :=
    settledMessage_taken (recReport tag) hT hp
  refine ⟨fun absent => ?_, fun i hi => ⟨fun gone => ?_, fun there hs => ?_, fun t hs ho ht hg => ?_⟩⟩
  · rw [run, recReport, if_neg nofun, Begun.findInst b, absent]
    exact congrArg _ (settle_refused hS rfl _)
  · rw [run, recReport_gaveUp ((Begun.findInst b n).trans hi) gone, settle_refused hS rfl]
  · rw [run, recReport_notStarting ((Begun.findInst b n).trans hi) there hs, settle_refused hS rfl]
  · obtain rfl := findInst_id hi
    have there : ¬ GaveUp i := fun gone => by
      rw [← gaveUp_iff, gaveUp_eq_false ho (by rw [hs]; exact nofun)] at gone
      exact Bool.false_ne_true gone
    let x := openedState t i (withFrame 0x38 tag p s)
    have e : Opened i s x := openedState_opened b hi
    have count : (withFrame 0x38 tag p s).clk.count = s.clk.count := rfl
    rw [recReport_started ((Begun.findInst b i.id).trans hi) there hs, takeStarted_eq ht, count] at run
    refine ⟨fun ahead => ?_, fun m hm past => ?_⟩
    · have early : ¬ stopReached i s.clk.count = true := by
        rw [stopReached_iff]
        rintro ⟨m, hm, le⟩
        obtain opened | ⟨k, hk, lt⟩ := ahead
        · exact nomatch hm.symm.trans opened
        · cases hm.symm.trans hk
          exact absurd le (Nat.not_le.mpr lt)
      rw [if_neg early] at run
      obtain ⟨settles, still⟩ := settle_recording (tag := tag) e
      have same (y : Tuner) : tunerRun y (settleOutputs s (withReply (okTo 0x38 tag (.report .recording)) x)) =
          tunerRun y x := tunerRun_of_run (settleOutputs_run ..) y
      refine ⟨_, run.trans (congrArg _ settles), ?_, ?_, ?_, fun off idle => ⟨?_, ?_, ?_⟩, fun on => ?_, fun y => ?_, ?_, ?_,
        ?_, (e.parts.withReply _).others s⟩
      · rw [settleOutputs_insts]
        exact e.insts
      · rw [settleOutputs_heldDelay]
        exact e.confirm
      · rw [settleOutputs_actionSet]
        exact still
      · rw [same]
        exact (armMonitor_arms (t := t) (s := modInst i.id _ (cancelDelay _ (withFrame 0x38 tag p s))) off idle).1
      · rw [same, e.mon, off]
      · rw [settleOutputs_heldDue (k := .graceEnd t) _ _ nofun]
        exact (armMonitor_arms (t := t) (s := modInst i.id _ (cancelDelay _ (withFrame 0x38 tag p s))) off idle).2
      · rw [settleOutputs_run]
        show x.run = s.run
        rw [show x = _ from armMonitor_running on]
        rfl
      · rw [same, e.active]
      · rw [settleOutputs_tx]
        exact congrArg (· ++ _) e.tx
      · rw [settleOutputs_cnd]
        exact e.cnd
      · exact settleOutputs_same_pln hS e.pln e.parts.time.2.1
    · rw [if_pos (stopReached_iff.mpr ⟨m, hm, past⟩)] at run
      let y := enterStopping .stopMoment i.id x
      have gap : NoGapOn i s := fun z hz => by
        obtain rfl := Option.some.inj (ht.symm.trans hz)
        exact hg
      have f : Stops (recordingFrom s.clk.count i) .stopMoment x y := e.stops gap
      have insts := e.stopped_insts f
      have parts : KeepsParts s y := e.parts.trans f.parts
      have found : findInst i.id y = some (stopped .stopMoment x.clk.count (recordingFrom s.clk.count i)) := by
        rw [findInst_of_lst f.moved.lst]
        refine (findInst_modInst_same i.id (stopped .stopMoment x.clk.count) (fun _ => rfl) _).trans ?_
        rw [e.found]
        rfl
      have active (z : Tuner) : (tunerRun z y).active = (tunerRun z s).active := (f.active z).trans (e.active z)
      have lnk : y.lnk.tx = s.lnk.tx := by
        obtain ⟨ns, o, l⟩ := f.moved.notices
        rw [l]
        exact e.tx
      have answer : answerReport tag i.id y = withReply (okTo 0x38 tag (.report .stopping)) y := answerReport_eq found
      have settles : settle s (answerReport tag i.id y) =
          settleOutputs s (withReply (okTo 0x38 tag (.report .stopping)) y) := by
        rw [answer]
        exact congrArg (settleOutputs s) (retryStarts_same_waits (active .a) (active .b) parts.claims)
      refine ⟨_, run.trans (congrArg _ settles), ?_, ?_, ?_, ?_, (parts.withReply _).others s⟩
      · rw [settleOutputs_insts]
        exact insts
      · rw [settleOutputs_actionSet]
        exact mem_idsWhere.mpr ⟨_, List.mem_of_find?_eq_some found, rfl, rfl⟩
      · rw [settleOutputs_tx]
        exact congrArg (· ++ _) lnk
      · rw [settleOutputs_cnd]
        exact f.moved.cnd.trans e.cnd

end Sys2Proof.Machine

/-! PROOFS. STANDBY: refused, accepted or deferred (R190). -/

namespace Sys2Proof.Machine

-- one theorem after another: many at a time would want a thread each
set_option Elab.async false

open Sys2Proof

/-! ## The end of an event that leaves the list -/

/-- As `settle_wake`, once the retries are done and whatever they and the event have done to the run records and the
claims. -/
theorem settleOutputs_wake {s x : State} (hS : Settled s) (hl : x.lst = s.lst)
    (hd : (heldDue .wakeDue x).map (fun d => d.time) = wakeTarget x) (ha : x.lnk.actionSet = s.lnk.actionSet) :
    settleOutputs s x = beginPass (withAttn x) := by
  have e := settle_wake (before := { s with run := x.run }) (s := x) hS hl rfl hd ha
  rwa [settle, retryStarts_same_run { s with run := x.run } x rfl] at e

/-- The attention output stands with the notices and the action set (R204). -/
theorem withAttn_same {s x : State} (hS : Settled s) (hn : x.lnk.notices = s.lnk.notices)
    (ha : x.lnk.actionSet = s.lnk.actionSet) (ht : x.lnk.attn = s.lnk.attn) : withAttn x = x := by
  obtain ⟨-, -, -, -, attn, -⟩ := hS
  have level : attnOf x.lnk = x.lnk.attn := by rw [ht, attn, attnOf, attnOf, hn, ha]
  rw [withAttn, level]

/-! ## The standby test (R190) -/

section Standby

variable {s : State} {tag : Byte}

theorem standbyTest_iff : standbyTest s = true ↔ StandbyClear s := by
  have idle : runningCount s = 0 ↔ ∀ i ∈ s.lst.insts, isRunning i.state = false := by
    rw [runningCount, List.length_eq_zero_iff, List.filter_eq_nil_iff]
    simp
  rw [standbyTest, Bool.and_eq_true, beq_iff_eq, idle]
  refine and_congr_right (fun _ => ?_)
  cases s.lst.earliest with
  | none => simp
  | some w =>
    simp only [Option.mem_some_iff, forall_eq']
    exact decide_eq_true_iff

theorem standby_refused (h : s.wsv.host ≠ .awake) : standby tag s = refuse 0x02 tag .notAllowed s :=
  if_neg (fun awake => h (beq_iff_eq.mp awake))

theorem standby_accepted (h : s.wsv.host = .awake) (clear : StandbyClear s) :
    standby tag s = answerOk 0x02 tag .empty (acceptStandby s) :=
  (if_pos (beq_iff_eq.mpr h)).trans (if_pos (standbyTest_iff.mpr clear))

theorem standby_deferred (h : s.wsv.host = .awake) (busy : ¬ StandbyClear s) : standby tag s =
    withReply (replyTo 0x02 tag .standbyDeferred false (.standbyDeferred (runningCount s) s.lst.earliest))
      (modWsv (fun w => { w with standbyWanted := true }) s) :=
  (if_pos (beq_iff_eq.mpr h)).trans (if_neg (fun test => busy (standbyTest_iff.mp test)))

/-! ## The three ends of its event -/

/-- A deferred STANDBY: that standby is wanted moves nothing else (R190). -/
theorem settle_wanted (hS : Settled s) (r : Reply) :
    settle s (withReply r (modWsv (fun w => { w with standbyWanted := true }) (withFrame 0x02 tag [] s))) =
      answered 0x02 tag [] r { s with wsv := { s.wsv with standbyWanted := true } } := by
  let x := withReply r (modWsv (fun w => { w with standbyWanted := true }) (withFrame 0x02 tag [] s))
  have whole : answered 0x02 tag [] r { s with wsv := { s.wsv with standbyWanted := true } } = x := rfl
  have wake : (heldDue .wakeDue x).map (fun d => d.time) = wakeTarget x := by
    have same : heldDue .wakeDue x = heldDue .wakeDue s := rfl
    have target : wakeTarget x = wakeTarget s := wakeTarget_of_fields rfl rfl rfl rfl
    obtain ⟨-, -, -, wake, -⟩ := hS
    rw [same, target, wake]
  have stands : withAttn x = x := withAttn_same hS rfl rfl rfl
  have settles : settle s x = beginPass (withAttn x) := settle_wake hS rfl rfl wake rfl
  rw [whole, ← beginPass_settled s x hS rfl rfl]
  rw [stands] at settles
  exact settles

/-- An accepted STANDBY: the claims go, the keepalive ends and the wake due request is made (R155, R184). -/
structure Asleep (tag : Byte) (s u : State) : Prop where
  wsv : u.wsv = { s.wsv with host := .standby, standbyWanted := false }
  claims : u.run.claims = []
  keepalive : heldDelay .keepalive u = none
  wake : (heldDue .wakeDue u).map (fun d => d.time) = s.lst.earliest.map (fun w => w - s.wsv.wakeLead)
  tx : u.lnk.tx = s.lnk.tx ++ [okTo 0x02 tag .empty]
  asks : s.run.claims ≠ [] → PassAsked s u
  rests : s.run.claims = [] → u.pln = s.pln
  lst : u.lst = s.lst
  bkt : u.bkt = s.bkt
  gst : u.gst = s.gst
  cnd : u.cnd = s.cnd
  count : u.clk.count = s.clk.count

theorem settle_asleep (hS : Settled s) :
    Asleep tag s (settle s (answerOk 0x02 tag .empty (acceptStandby (withFrame 0x02 tag [] s)))) := by
  let v := cancelDelay .keepalive
    (modWsv (fun w => { w with host := .standby, standbyWanted := false }) (withFrame 0x02 tag [] s))
  obtain ⟨ds, ps, -, hps, e⟩ := dropClaims_eq v
  let x := withReply (okTo 0x02 tag .empty)
    { v with clk := { v.clk with dues := ds }, run := { v.run with claims := [] }, pln := ps }
  have taken : answerOk 0x02 tag .empty (acceptStandby (withFrame 0x02 tag [] s)) = x :=
    congrArg (withReply (okTo 0x02 tag .empty)) e
  have settles : settle s x = settleOutputs s x := congrArg (settleOutputs s) (retryStarts_asleep rfl)
  have asleep : x.wsv.host = .standby := rfl
  have lst : (settleOutputs s x).lst = s.lst := settleOutputs_same_lst hS rfl
  rw [taken, settles]
  refine ⟨settleOutputs_wsv_unwanted s rfl, ?_, ?_, ?_, ?_, fun claims => settleOutputs_asks ?_, fun none =>
    settleOutputs_same_pln hS ?_ rfl, lst, ?_, ?_, ?_, ?_⟩
  · rw [settleOutputs_run]
    rfl
  · rw [settleOutputs_heldDelay]
    exact heldDelay_cancelDelay_same _ _
  · rw [settleOutputs_wakeDue s asleep, lst]
    rfl
  · rw [settleOutputs_tx]
    rfl
  · have some : (!v.run.claims.isEmpty) = true := by
      rw [Bool.not_eq_true', List.isEmpty_eq_false_iff]
      exact claims
    rw [some] at hps
    exact hps
  · have gone : (!v.run.claims.isEmpty) = false := by
      rw [show v.run.claims = [] from none]
      rfl
    rw [gone] at hps
    exact hps
  · rw [settleOutputs_bkt]
    rfl
  · rw [settleOutputs_gst]
    rfl
  · rw [settleOutputs_cnd]
    rfl
  · rw [settleOutputs_count]
    rfl

end Standby

/-- Settles O40: the host state and the standby test decide between the three ends. -/
theorem standbyAcceptedOrDeferred : Obligations.StandbyAcceptedOrDeferred := by
  intro s tag hS hT
  let v := withFrame 0x02 tag [] s
  have run : exec (.standby tag []) s = .next (settle s (standby tag v)) :=
    settledMessage_taken (fun (_ : Unit) t => standby tag t) hT rfl
  refine ⟨fun asleep => ?_, fun awake clear => ?_, fun awake busy => ?_⟩
  · rw [run, standby_refused (s := v) asleep]
    exact congrArg _ (settle_refused hS rfl _)
  · rw [standby_accepted (s := v) awake clear] at run
    have e := settle_asleep (tag := tag) hS
    exact ⟨_, run, e.wsv, e.claims, e.keepalive, e.wake, e.tx, e.asks, e.rests, e.lst, e.bkt, e.gst, e.cnd, e.count⟩
  · rw [run, standby_deferred (s := v) awake busy]
    exact congrArg _ (settle_wanted hS _)

end Sys2Proof.Machine

/-! PROOFS. HELLO with no work to take up (R155, R187 to R189). -/

namespace Sys2Proof.Machine

-- one theorem after another: many at a time would want a thread each
set_option Elab.async false

open Sys2Proof

/-! ## The delays after the greeting (R182, R187) -/

section Greeting

variable (tag : Byte) (s : State)

theorem startKeepalive_other {k : DelayKind} (h : k ≠ .keepalive) : heldDelay k (startKeepalive s) = heldDelay k s := by
  unfold startKeepalive
  split
  · exact heldDelay_startDelay_other h _ s
  · rfl

theorem startKeepalive_fresh {n : Nat} (h : s.wsv.host = .awake) (hk : s.wsv.keepCode = some n) :
    heldDelay .keepalive (startKeepalive s) = some { kind := .keepalive, left := 5 * 2 ^ n * Config.unitsPerSecond } := by
  rw [startKeepalive, h, hk]
  exact heldDelay_startDelay_same _ _ s

theorem greeting_wakeTimeout : heldDelay .wakeTimeout (greeting tag s) = none := by
  rw [greeting, helloAwake, startKeepalive_other (k := .wakeTimeout) _ nofun, heldDelay_cancelDelay_same]

theorem greeting_resetPulse : heldDelay .resetPulse (greeting tag s) = none := by
  have other : DelayKind.resetPulse ≠ .wakeTimeout := nofun
  rw [greeting, helloAwake, startKeepalive_other (k := .resetPulse) _ nofun, heldDelay_cancelDelay_other other, heldDelay_cancelDelay_same]

theorem greeting_keepalive {n : Nat} (hk : s.wsv.keepCode = some n) : heldDelay .keepalive (greeting tag s) =
    some { kind := .keepalive, left := 5 * 2 ^ n * Config.unitsPerSecond } := startKeepalive_fresh _ rfl hk

theorem greeting_cstate : (greeting tag s).clk.cstate = s.clk.cstate := (time_of_timeOf (startKeepalive_time _)).2.1

end Greeting

/-! ## The work that is not there -/

section Idle

variable {s x : State} {tag : Byte}

/-- A restart of the host while nothing runs drops the claims and turns the monitors OFF (R155, R162). -/
theorem interruptHost_idle (h : ∀ i ∈ s.lst.insts, isRunning i.state = false) :
    interruptHost s = monitorOff .b (monitorOff .a (dropClaims s)) := by
  obtain ⟨ds, ps, -, -, e⟩ := dropClaims_eq s
  have none : idsWhere (fun i => isRunning i.state) (dropClaims s) = [] := by
    refine List.eq_nil_iff_forall_not_mem.mpr (fun k hk => ?_)
    obtain ⟨i, hi, runs, -⟩ := mem_idsWhere.mp hk
    rw [e] at hi
    exact Bool.false_ne_true ((h i hi).symm.trans runs)
  rw [interruptHost, none]
  rfl

/-- The part when a HELLO has been greeted and no work found: the host is AWAKE, the claims have gone, and the log is as
given. -/
structure Greeted (log : CondLog) (s z : State) : Prop where
  lst : z.lst = s.lst
  bkt : z.bkt = s.bkt
  gst : z.gst = s.gst
  claims : z.run.claims = []
  wsv : z.wsv = greetedWsv s.wsv
  cnd : z.cnd = log
  cstate : z.clk.cstate = s.clk.cstate
  tx : z.lnk.tx = s.lnk.tx
  pln : z.pln = dirtied (!s.run.claims.isEmpty) s.pln
  wakeTimeout : heldDelay .wakeTimeout z = none
  resetPulse : heldDelay .resetPulse z = none
  keepalive : ∀ n, s.wsv.keepCode = some n → heldDelay .keepalive z =
    some { kind := .keepalive, left := 5 * 2 ^ n * Config.unitsPerSecond }

/-- The claims go, after the greeting and what was logged (R155). -/
theorem dropClaims_greeted {a : State} (lst : a.lst = s.lst) (bkt : a.bkt = s.bkt) (gst : a.gst = s.gst)
    (run : a.run = s.run) (wsv : a.wsv = greetedWsv s.wsv) (clk : a.clk = (greeting tag s).clk)
    (tx : a.lnk.tx = s.lnk.tx) (pln : a.pln = s.pln) : Greeted a.cnd s (dropClaims a) := by
  obtain ⟨ds, ps, -, hps, e⟩ := dropClaims_eq a
  have delays (k : DelayKind) : heldDelay k (dropClaims a) = heldDelay k (greeting tag s) := by
    rw [e]
    exact heldDelay_of_delays (congrArg (fun c => c.delays) clk) k
  refine ⟨?_, ?_, ?_, ?_, ?_, ?_, ?_, ?_, ?_, (delays _).trans (greeting_wakeTimeout tag s),
    (delays _).trans (greeting_resetPulse tag s), fun n hk => (delays _).trans (greeting_keepalive tag s hk)⟩
  all_goals rw [e]
  case refine_1 => exact lst
  case refine_2 => exact bkt
  case refine_3 => exact gst
  case refine_5 => exact wsv
  case refine_7 => exact (congrArg (fun c => c.cstate) clk).trans (greeting_cstate tag s)
  case refine_8 => exact tx
  case refine_9 => rw [hps, run, pln]

/-- The monitors change nothing of it (R161). -/
theorem Greeted.monitorsRest {log : CondLog} {z u : State} (g : Greeted log s z) (m : MonitorsRest z u) :
    Greeted log s u := by
  refine ⟨?_, ?_, ?_, ?_, ?_, ?_, ?_, ?_, ?_, (m.delays .wakeTimeout nofun).trans g.wakeTimeout,
    (m.delays .resetPulse nofun).trans g.resetPulse,
    fun n hk => (m.delays .keepalive nofun).trans (g.keepalive n hk)⟩
  all_goals rw [m.rest]
  · exact g.lst
  · exact g.bkt
  · exact g.gst
  · exact g.claims
  · exact g.wsv
  · exact g.cnd
  · exact g.cstate
  · exact g.tx
  · exact g.pln

/-- What HELLO finds to log: HOST_RESTARTED when the host was AWAKE (R187). -/
def helloLog (s : State) : CondLog := if s.wsv.host = .awake then (submit (restarted .soft) s).cnd else s.cnd

/-- The part after a HELLO with nothing running and no start held (R155, R187, R188). -/
theorem helloWork_idle (hg : ∀ t, (tunerRun t s).mon ≠ .gap) (still : ∀ i ∈ s.lst.insts, isRunning i.state = false)
    (nobody : NobodyWaits s) :
    Greeted (helloLog s) s (helloWork s.wsv.host (runningCount s) (greeting tag s)) := by
  have idle : runningCount s = 0 := by
    rw [runningCount, List.length_eq_zero_iff, List.filter_eq_nil_iff]
    exact fun i hi => by simp [still i hi]
  have waits {z : State} (g : Greeted (helloLog s) s z) : NobodyWaits z := by
    rw [NobodyWaits, g.lst]
    exact nobody
  by_cases awake : s.wsv.host = .awake
  · let a := submit (restarted .soft) (greeting tag s)
    have lst : a.lst = s.lst := (submit_lst ..).trans (greeting_lst tag s)
    have run : a.run = s.run := (submit_run ..).trans (greeting_run tag s)
    have tx : a.lnk.tx = s.lnk.tx := by
      obtain ⟨ns, o, l⟩ := submit_noticesOnly (restarted .soft) (greeting tag s)
      exact (congrArg (fun l => l.tx) l).trans (greeting_tx tag s)
    have log : a.cnd = helloLog s :=
      (submit_cnd_congr _ (greeting_cnd tag s) (greeting_count tag s)).trans (if_pos awake).symm
    have dropped : Greeted (helloLog s) s (dropClaims a) := by
      rw [← log]
      exact dropClaims_greeted lst ((submit_bkt ..).trans (greeting_bkt tag s)) ((submit_gst ..).trans (greeting_gst tag s))
        run ((submit_wsv ..).trans (greeting_wsv tag s)) (submit_clk ..) tx ((submit_pln ..).trans (greeting_pln tag s))
    have gapless (t : Tuner) : (tunerRun t (dropClaims a)).mon ≠ .gap := by
      obtain ⟨ds, ps, -, -, e⟩ := dropClaims_eq a
      have same : tunerRun t (dropClaims a) = tunerRun t s := by
        rw [e, ← tunerRun_of_run run t]
        cases t <;> rfl
      rw [same]
      exact hg t
    have g := dropped.monitorsRest (monitorsOff gapless).1
    rw [← interruptHost_idle (by rw [lst]; exact still)] at g
    rw [awake, helloWork_awake, idle, if_pos rfl, takeUpWork_nobody (waits g)]
    exact g
  · have g : Greeted (helloLog s) s (dropClaims (greeting tag s)) := by
      have log : (greeting tag s).cnd = helloLog s := (greeting_cnd tag s).trans (if_neg awake).symm
      rw [← log]
      exact dropClaims_greeted (greeting_lst tag s) (greeting_bkt tag s) (greeting_gst tag s) (greeting_run tag s)
        (greeting_wsv tag s) rfl (greeting_tx tag s) (greeting_pln tag s)
    rw [helloWork_asleep awake, takeUpWork_nobody (waits g)]
    exact g

theorem dirtied_generation (b : Bool) (p : Planner) : (dirtied b p).generation = p.generation := by
  unfold dirtied
  repeat' split
  all_goals rfl

/-- The reply carries what was held (R189). -/
theorem Greeted.view {log : CondLog} {z : State} (g : Greeted log s z) (p : HostState) : helloView p z =
    { causes := s.wsv.causes, previous := p, reason := s.wsv.reason, attempts := s.wsv.attempts
      cstate := s.clk.cstate, generation := s.pln.generation, placeable := placeableCount s, running := runningCount s
      terminal := terminalCount s, free := 160 - s.lst.insts.length } := by
  have generation : z.pln.generation = s.pln.generation := by rw [g.pln, dirtied_generation]
  rw [helloView, g.wsv, g.cstate, generation, placeableCount, runningCount, terminalCount, g.lst]
  rfl

/-- In AWAKE no wake is due (R184). -/
theorem settleOutputs_awake (before : State) (h : x.wsv.host = .awake) : heldDue .wakeDue (settleOutputs before x) = none := by
  have target : wakeTarget (handSummaries (placeTerminals x)) = none := by
    rw [wakeTarget, handSummaries_wsv, placeTerminals_wsv, h]
  rw [heldDue_of_clk (settleOutputs_clk before x)]
  exact Option.map_eq_none_iff.mp ((syncWake_heldDue _).trans target)

end Idle

/-- Settles O38: the work is nobody's, whatever the host was. -/
theorem helloMakesTheHostAwake : Obligations.HelloMakesTheHostAwake := by
  intro s tag hS hT hg rest
  have still : ∀ i ∈ s.lst.insts, isRunning i.state = false := fun i hi => (rest i hi).1
  have nobody : NobodyWaits s := fun i hi => by
    refine ⟨fun waits => ?_, (rest i hi).2⟩
    have := still i hi
    rw [waits] at this
    exact Bool.false_ne_true this.symm
  let z := helloWork s.wsv.host (runningCount s) (greeting tag s)
  have g : Greeted (helloLog s) s z := helloWork_idle hg still nobody
  have waits : NobodyWaits z := by
    rw [NobodyWaits, g.lst]
    exact nobody
  have idle : runningCount s = 0 := by
    rw [runningCount, List.length_eq_zero_iff, List.filter_eq_nil_iff]
    exact fun i hi => by simp [still i hi]
  let y := helloAnswered tag s z
  have wsv : y.wsv = afterHello s.wsv := by
    rw [show y.wsv = { z.wsv with reason := .none, attempts := 0 } from rfl, g.wsv]
    rfl
  have delays (k : DelayKind) : heldDelay k (settleOutputs s y) = heldDelay k z := settleOutputs_heldDelay ..
  have log : (settleOutputs s y).cnd = helloLog s := (settleOutputs_cnd ..).trans g.cnd
  refine ⟨_, execHello_taken hT rfl waits, ?_, ?_, (delays _).trans g.wakeTimeout, (delays _).trans g.resetPulse,
    fun n hk => (delays _).trans (g.keepalive n hk), fun asleep => log.trans (if_neg asleep),
    fun awake => log.trans (if_pos awake), ?_, fun claims => settleOutputs_asks ?_,
    fun none => settleOutputs_same_pln hS ?_ g.cstate, settleOutputs_same_lst hS g.lst, ?_, ?_, ?_⟩
  · rw [settleOutputs_wsv_unwanted s (by rw [wsv]; rfl), wsv]
  · rw [settleOutputs_run]
    exact g.claims
  · rw [settleOutputs_tx]
    refine (congrArg (· ++ [okTo 0x01 tag (.hello (helloView s.wsv.host z))]) g.tx).trans ?_
    rw [g.view, idle]
  · refine g.pln.trans ?_
    rw [List.isEmpty_eq_false_iff.mpr claims]
    rfl
  · refine g.pln.trans ?_
    rw [none]
    rfl
  · rw [settleOutputs_bkt]
    exact g.bkt
  · rw [settleOutputs_gst]
    exact g.gst
  · exact settleOutputs_awake s (by rw [wsv]; rfl)

end Sys2Proof.Machine

/-! PROOFS. VIEW_CLAIM and VIEW_RELEASE: the checks, and what a claim that is taken, changed or released leaves (R154,
R155). -/

namespace Sys2Proof.Machine

-- one theorem after another: many at a time would want a thread each
set_option Elab.async false

open Sys2Proof

/-! ## The checks (R154) -/

section Checks

variable {s : State} {tag : Byte} {m : ClaimMsg} {t : Tuner} {n : Nat} {old : Claim}

theorem tunerOf_tunerNum (t : Tuner) : tunerOf (tunerNum t) = some t := by
  cases t
  · rfl
  · rfl

theorem tunerOf_none {k : Nat} (h0 : k ≠ 0) (h1 : k ≠ 1) : tunerOf k = none := by
  match k with
  | 0 => exact absurd rfl h0
  | 1 => exact absurd rfl h1
  | _ + 2 => rfl

theorem claimConflicts_iff {self : Option Nat} {mux : Nat} :
    claimConflicts self t mux s = true ↔ ClaimBlocked self t mux s := by
  simp only [claimConflicts, ClaimBlocked, Bool.or_eq_true, Option.any_eq_true, List.any_eq_true, Bool.and_eq_true,
    bne_iff_ne, beq_iff_eq, and_assoc, Option.mem_def]

theorem viewClaim_badField (h : (m.tuner ≠ 0 ∧ m.tuner ≠ 1) ∨ m.mux = 0) :
    viewClaim tag m s = refuse 0x39 tag .badField s := by
  unfold viewClaim
  split
  · rfl
  · rename_i t ht
    obtain ⟨h0, h1⟩ | hm := h
    · exact nomatch (tunerOf_none h0 h1).symm.trans ht
    · exact if_pos hm

/-- With tuner and multiplex well formed, the host comes next. -/
theorem viewClaim_asleep (ht : m.tuner = tunerNum t) (hm : m.mux ≠ 0) (h : s.wsv.host ≠ .awake) :
    viewClaim tag m s = refuse 0x39 tag .notAllowed s := by
  have asleep : (!hostAwake s) = true := by
    rw [Bool.not_eq_true', ← Bool.not_eq_true]
    exact fun awake => h (beq_iff_eq.mp awake)
  rw [viewClaim, ht, tunerOf_tunerNum]
  exact (if_neg hm).trans (if_pos asleep)

theorem viewClaim_awake (ht : m.tuner = tunerNum t) (hm : m.mux ≠ 0) (h : s.wsv.host = .awake) : viewClaim tag m s =
    match m.claim with
    | none => if claimConflicts none t m.mux s then refuse 0x39 tag .notAllowed s else newClaim tag t m s
    | some n =>
      match s.run.claims.find? (fun c => c.id == n) with
      | none => refuse 0x39 tag .notFound s
      | some old =>
        if claimConflicts (some n) t m.mux s then refuse 0x39 tag .notAllowed s
        else changeClaim tag n old t m s := by
  have awake : ¬ (!hostAwake s) = true := by
    rw [hostAwake, h]
    exact Bool.false_ne_true
  rw [viewClaim, ht, tunerOf_tunerNum]
  exact (if_neg hm).trans (if_neg awake)

theorem viewClaim_new (ht : m.tuner = tunerNum t) (hm : m.mux ≠ 0) (h : s.wsv.host = .awake) (hc : m.claim = none)
    (free : ¬ ClaimBlocked none t m.mux s) : viewClaim tag m s = newClaim tag t m s := by
  rw [viewClaim_awake ht hm h, hc]
  exact if_neg (fun e => free (claimConflicts_iff.mp e))

theorem viewClaim_new_blocked (ht : m.tuner = tunerNum t) (hm : m.mux ≠ 0) (h : s.wsv.host = .awake) (hc : m.claim = none)
    (blocked : ClaimBlocked none t m.mux s) : viewClaim tag m s = refuse 0x39 tag .notAllowed s := by
  rw [viewClaim_awake ht hm h, hc]
  exact if_pos (claimConflicts_iff.mpr blocked)

theorem viewClaim_absent (ht : m.tuner = tunerNum t) (hm : m.mux ≠ 0) (h : s.wsv.host = .awake) (hc : m.claim = some n)
    (absent : ∀ c ∈ s.run.claims, c.id ≠ n) : viewClaim tag m s = refuse 0x39 tag .notFound s := by
  have none : s.run.claims.find? (fun c => c.id == n) = none :=
    List.find?_eq_none.mpr (fun c hk => by simpa using absent c hk)
  rw [viewClaim_awake ht hm h, hc]
  dsimp only
  rw [none]

theorem viewClaim_change (ht : m.tuner = tunerNum t) (hm : m.mux ≠ 0) (h : s.wsv.host = .awake) (hc : m.claim = some n)
    (found : s.run.claims.find? (fun c => c.id == n) = some old) (free : ¬ ClaimBlocked (some n) t m.mux s) :
    viewClaim tag m s = changeClaim tag n old t m s := by
  rw [viewClaim_awake ht hm h, hc]
  dsimp only
  rw [found]
  exact if_neg (fun e => free (claimConflicts_iff.mp e))

theorem viewClaim_change_blocked (ht : m.tuner = tunerNum t) (hm : m.mux ≠ 0) (h : s.wsv.host = .awake)
    (hc : m.claim = some n) (found : s.run.claims.find? (fun c => c.id == n) = some old)
    (blocked : ClaimBlocked (some n) t m.mux s) : viewClaim tag m s = refuse 0x39 tag .notAllowed s := by
  rw [viewClaim_awake ht hm h, hc]
  dsimp only
  rw [found]
  exact if_pos (claimConflicts_iff.mpr blocked)

/-! ## The claim ids (R154) -/

theorem claims_all_ne : s.run.claims.all (fun c => c.id != n) = true ↔ ∀ c ∈ s.run.claims, c.id ≠ n := by
  simp only [List.all_eq_true, bne_iff_ne]

theorem claims_held (h : ∃ c ∈ s.run.claims, c.id = n) : s.run.claims.all (fun c => c.id != n) = false := by
  obtain ⟨c, hc, rfl⟩ := h
  rw [← Bool.not_eq_true]
  exact fun none => claims_all_ne.mp none c hc rfl

theorem freeClaim_full (h1 : ∃ c ∈ s.run.claims, c.id = 1) (h2 : ∃ c ∈ s.run.claims, c.id = 2) : freeClaim s = none := by
  simp only [freeClaim, List.find?_cons, claims_held h1, claims_held h2, List.find?_nil]

theorem freeClaim_lowest (h : n = 1 ∧ (∀ c ∈ s.run.claims, c.id ≠ 1) ∨
    n = 2 ∧ (∃ c ∈ s.run.claims, c.id = 1) ∧ ∀ c ∈ s.run.claims, c.id ≠ 2) : freeClaim s = some n := by
  obtain ⟨rfl, h1⟩ | ⟨rfl, h1, h2⟩ := h
  · simp only [freeClaim, List.find?_cons, claims_all_ne.mpr h1]
  · simp only [freeClaim, List.find?_cons, claims_held h1, claims_all_ne.mpr h2]

end Checks

/-! ## The end of an event that has changed the claims (R94, R204) -/

section Asked

variable {s y : State} {kind tag : Byte} {p : List Byte}

theorem nobodyWaits_of_lst {u : State} (h : u.lst = s.lst) (hN : NobodyWaits s) : NobodyWaits u := by
  rw [NobodyWaits, h]
  exact hN

/-- With no start to retry, and the list, the host and the notices as they were, a dirty flag asks for a pass and no
more. -/
theorem settle_asked (hS : Settled s) (retried : retryStarts s (setDirty y) = setDirty y) (lst : y.lst = s.lst)
    (wsv : y.wsv = s.wsv) (due : heldDue .wakeDue y = heldDue .wakeDue s) (notices : y.lnk.notices = s.lnk.notices)
    (action : y.lnk.actionSet = s.lnk.actionSet) (attn : y.lnk.attn = s.lnk.attn) :
    settle s (setDirty y) = askPass y := by
  have wake : (heldDue .wakeDue (setDirty y)).map (fun d => d.time) = wakeTarget (setDirty y) := by
    have same : heldDue .wakeDue (setDirty y) = heldDue .wakeDue s := due
    have target : wakeTarget (setDirty y) = wakeTarget s :=
      wakeTarget_of_fields (congrArg (fun l => l.earliest) lst) (congrArg (fun w => w.host) wsv)
        (congrArg (fun w => w.silentFloor) wsv) (congrArg (fun w => w.wakeLead) wsv)
    obtain ⟨-, -, -, wake, -⟩ := hS
    rw [same, target, wake]
  have stands : withAttn (setDirty y) = setDirty y := withAttn_same hS notices action attn
  rw [settle, retried, settleOutputs_wake (x := setDirty y) hS lst wake action, stands, beginPass_setDirty]

/-- A claim has been taken: no start can wait for it (R144, R154). -/
theorem settle_claimed (hS : Settled s) (r : Reply) {cs : List Claim} (kept : ∀ c ∈ s.run.claims, c ∈ cs) :
    settle s (setDirty (answered kind tag p r (withClaims cs s))) = askPass (answered kind tag p r (withClaims cs s)) := by
  refine settle_asked hS (retryStarts_grown (fun t k hk => ?_) kept) rfl rfl rfl rfl rfl rfl
  cases t
  · exact hk
  · exact hk

/-- A claim has been changed or released, with its yield warning: nobody waits (R144, R155). -/
theorem settle_unclaimed (hS : Settled s) (hN : NobodyWaits s) (r : Reply) (cs : List Claim) (n : Nat) :
    settle s (setDirty (answered kind tag p r (withoutDue (.yieldWarning n) (withClaims cs s)))) =
      askPass (answered kind tag p r (withoutDue (.yieldWarning n) (withClaims cs s))) := by
  have other : DueKind.wakeDue ≠ .yieldWarning n := nofun
  let y := answered kind tag p r (withoutDue (.yieldWarning n) (withClaims cs s))
  have nobody : NobodyWaits (setDirty y) := nobodyWaits_of_lst (s := s) rfl hN
  exact settle_asked hS (retryStarts_nobody nobody s) rfl rfl (heldDue_withdrawDue_other other s) rfl rfl rfl

end Asked

/-! ## A claim that is changed or released -/

section Changed

variable {s : State} {tag : Byte} {p : List Byte} {m : ClaimMsg} {t : Tuner} {n : Nat} {old : Claim}

/-- The claim as a change leaves it (R154). -/
abbrev changedClaim (t : Tuner) (m : ClaimMsg) (c : Claim) : Claim :=
  { c with tuner := t, mux := m.mux, priority := min 7 m.priority, yieldTo := none }

theorem changeClaim_same (h : old.tuner = t ∧ old.mux = m.mux ∧ old.priority = min 7 m.priority) :
    changeClaim tag n old t m s =
      withReply (replyTo 0x39 tag .ok (decide (7 < m.priority)) (.claim n t)) s := by
  obtain ⟨tuner, mux, priority⟩ := h
  have same : (t != old.tuner || m.mux != old.mux || min 7 m.priority != old.priority) = false := by
    simp [tuner, mux, priority]
  rw [changeClaim, same]
  rfl

theorem changeClaim_differs (h : ¬ (old.tuner = t ∧ old.mux = m.mux ∧ old.priority = min 7 m.priority)) :
    changeClaim tag n old t m (withFrame 0x39 tag p s) = setDirty (answered 0x39 tag p
      (replyTo 0x39 tag .ok (decide (7 < m.priority)) (.claim n t))
      (withoutDue (.yieldWarning n)
        (withClaims (s.run.claims.map (fun c => if c.id = n then changedClaim t m c else c)) s))) := by
  have differs : (t != old.tuner || m.mux != old.mux || min 7 m.priority != old.priority) = true := by
    simp only [Bool.or_eq_true, bne_iff_ne, ne_eq, or_assoc]
    by_contra none
    simp only [not_or, not_not] at none
    obtain ⟨tuner, mux, priority⟩ := none
    exact h ⟨tuner.symm, mux.symm, priority.symm⟩
  have chosen : (s.run.claims.map (fun c => if c.id == n then changedClaim t m c else c)) =
      s.run.claims.map (fun c => if c.id = n then changedClaim t m c else c) :=
    List.map_congr_left (fun c _ => by simp only [beq_iff_eq])
  rw [changeClaim, differs, ← chosen]
  rfl

theorem viewRelease_absent (h : ∀ c ∈ s.run.claims, c.id ≠ n) : viewRelease tag n s = refuse 0x3A tag .notFound s := by
  refine if_neg (fun held => ?_)
  obtain ⟨c, hc, same⟩ := List.any_eq_true.mp held
  exact h c hc (beq_iff_eq.mp same)

theorem viewRelease_held (h : ∃ c ∈ s.run.claims, c.id = n) : viewRelease tag n (withFrame 0x3A tag p s) =
    setDirty (answered 0x3A tag p (okTo 0x3A tag .empty)
      (withoutDue (.yieldWarning n) (withClaims (s.run.claims.filter (fun c => c.id != n)) s))) := by
  obtain ⟨c, hc, same⟩ := h
  exact if_pos (List.any_eq_true.mpr ⟨c, hc, by simp [same]⟩)

end Changed

/-- Settles O32, check by check. -/
theorem claimsTakenChangedReleased : Obligations.ClaimsTakenChangedReleased := by
  have runs {s : State} (tag : Byte) {p : List Byte} {m : ClaimMsg} (hT : Takes p s) (hp : parseAll pClaim p = .ok m) :
      (.next (settle s (onMessage 0x39 tag pClaim p (viewClaim tag) s)) : Host.Outcome State Fault Refusal) =
        .next (settle s (viewClaim tag m (withFrame 0x39 tag p s))) := settledMessage_taken (viewClaim tag) hT hp
  refine ⟨fun s tag p m hS hT hp bad => ?_, fun s tag p m t hS hT hp hc ht hm => ?_,
    fun s tag p m t n hS hN hT hp hc ht hm => ?_, fun s tag p n hS hN hT hp => ?_⟩
  · have run := runs tag hT hp
    rw [viewClaim_badField bad, settle_refused hS rfl] at run
    exact ⟨fun _ => run, fun _ => run⟩
  · let v := withFrame 0x39 tag p s
    have run : exec (.viewClaimNew tag p) s = .next (settle s (viewClaim tag m v)) := runs tag hT hp
    rw [run]
    refine ⟨fun asleep => ?_, fun awake blocked => ?_, fun awake free h1 h2 => ?_, fun n awake free lowest => ?_⟩
    · rw [viewClaim_asleep (s := v) ht hm asleep, settle_refused hS rfl]
    · rw [viewClaim_new_blocked (s := v) ht hm awake hc blocked, settle_refused hS rfl]
    · have full : freeClaim v = none := freeClaim_full (s := v) h1 h2
      rw [viewClaim_new (s := v) ht hm awake hc free, newClaim, full]
      exact congrArg _ (settle_refused hS rfl _)
    · have lowest : freeClaim v = some n := freeClaim_lowest (s := v) lowest
      rw [viewClaim_new (s := v) ht hm awake hc free, newClaim, lowest]
      exact congrArg _ (settle_claimed hS _ (fun c hk => (mem_insertBy ..).mpr (.inr hk)))
  · let v := withFrame 0x39 tag p s
    have run : exec (.viewClaimChange tag p) s = .next (settle s (viewClaim tag m v)) := runs tag hT hp
    rw [run]
    refine ⟨fun asleep => ?_, fun awake absent => ?_, fun old awake found => ⟨fun blocked => ?_, fun free => ?_⟩⟩
    · rw [viewClaim_asleep (s := v) ht hm asleep, settle_refused hS rfl]
    · rw [viewClaim_absent (s := v) ht hm awake hc absent, settle_refused hS rfl]
    · rw [viewClaim_change_blocked (s := v) ht hm awake hc found blocked, settle_refused hS rfl]
    · rw [viewClaim_change (s := v) ht hm awake hc found free]
      refine ⟨fun same => ?_, fun differs => ?_⟩
      · rw [changeClaim_same same]
        exact congrArg _ (settle_answered hS 0x39 tag p _)
      · rw [changeClaim_differs differs]
        exact congrArg _ (settle_unclaimed hS hN _ _ n)
  · have run : exec (.viewRelease tag p) s = .next (settle s (viewRelease tag n (withFrame 0x3A tag p s))) :=
      settledMessage_taken (viewRelease tag) hT hp
    rw [run]
    refine ⟨fun absent => ?_, fun held => ?_⟩
    · rw [viewRelease_absent (s := withFrame 0x3A tag p s) absent, settle_refused hS rfl]
    · rw [viewRelease_held held, settle_unclaimed hS hN]

end Sys2Proof.Machine

/-! PROOFS. Overruns: the core end at which one begins, and the running status that ends it (R28, R152, R153). -/

namespace Sys2Proof.Machine

-- one theorem after another: many at a time would want a thread each
set_option Elab.async false

open Sys2Proof

/-! ## An event that only alters inner parts of a recording and asks for a pass -/

section Alters

variable {f : Inst → Inst} {i : Inst} {s x : State}

/-- What such an event leaves at its end. -/
structure HasAltered (n : Nat) (f : Inst → Inst) (s x : State) : Prop where
  settles : settle s x = settleOutputs s x
  insts : (settleOutputs s x).lst.insts = changedAt n f s
  asks : PassAsked s (settleOutputs s x)
  run : (settleOutputs s x).run = s.run

theorem settle_altered (insts : x.lst.insts = changedAt i.id f s) (run : x.run = s.run)
    (pln : x.pln = dirtied true s.pln) : HasAltered i.id f s x where
  settles := congrArg (settleOutputs s) (retryStarts_same_run s x run)
  insts := by rw [settleOutputs_insts, insts]
  asks := settleOutputs_asks pln
  run := by rw [settleOutputs_run, run]

end Alters

/-! ## An overrun begins (R152) -/

section Begins

variable {i : Inst} {s : State}

theorem takeCoreEnd_running (hi : findInst i.id s = some i) (hs : i.state = .starting ∨ i.state = .recording) :
    takeCoreEnd i.id s = if entersOverrun i s then enterOverrun i s else s := by
  rw [takeCoreEnd, hi]
  obtain hs | hs := hs
  · simp only [hs]
  · simp only [hs]

theorem entersOverrun_of {b : Booking} {k : EventKey} {r : GuideRec} (hb : findBooking i.booking s = some b)
    (follows : b.follow = true) (limit : 0 < s.run.overrunLimit) (ho : i.origin = .event k)
    (hr : recOf k s.gst.recs = some r) (status : r.status = .running ∨ r.status = .pausing) :
    entersOverrun i s = true := by
  simp [entersOverrun, hb, follows, limit, ho, hr, status]

/-- One of the three tests fails: no overrun (R152). -/
theorem entersOverrun_not (h : (∀ b, findBooking i.booking s = some b → b.follow = false) ∨ s.run.overrunLimit = 0 ∨
    (∀ k r, i.origin = .event k → recOf k s.gst.recs = some r → r.status ≠ .running ∧ r.status ≠ .pausing)) :
    entersOverrun i s = false := by
  obtain follow | limit | status := h
  · have none : (findBooking i.booking s).any (fun b => b.follow) = false := by
      cases hb : findBooking i.booking s with
      | none => rfl
      | some b => exact follow b hb
    rw [entersOverrun, none]
    rfl
  · rw [entersOverrun, limit]
    exact Bool.and_eq_false_imp.mpr (fun h => absurd h (by simp))
  · rw [entersOverrun]
    refine Bool.and_eq_false_imp.mpr (fun _ => ?_)
    cases ho : i.origin with
    | day d => rfl
    | event k =>
      cases hr : recOf k s.gst.recs with
      | none => simp [hr]
      | some r => simp [hr, status k r ho hr]

/-- The record of a recording that enters overrun (R152). -/
def overrunning (cap : Nat) (j : Inst) : Inst := { j with overrun := some cap, stopAt := some .opened, stopFixed := false }

theorem enterOverrun_stopMoment : heldDue (.stopMoment i.id) (enterOverrun i s) = none := by
  have other : DueKind.stopMoment i.id ≠ .overrunCap i.id := nofun
  rw [enterOverrun, heldDue_of_clk (setDirty_clk _), heldDue_requestDue_other other, heldDue_withdrawDue_same]

theorem enterOverrun_cap : (heldDue (.overrunCap i.id) (enterOverrun i s)).map (fun d => d.time) =
    some (min 4294967295 (i.start + i.dur + s.run.overrunLimit)) := by
  rw [enterOverrun, heldDue_of_clk (setDirty_clk _), heldDue_requestDue_same]
  rfl

end Begins

/-! ## An overrun ends (R28, R153) -/

section Ends

variable {n cap : Nat} {i : Inst} {k : EventKey} {st : RunStatus} {r : GuideRec} {tag : Byte} {s : State}

/-- The record of a recording whose overrun ends with a fixed stop moment (R153). -/
def stopFixedAt (stop : Nat) (j : Inst) : Inst := { j with overrun := none, stopAt := some (.at stop), stopFixed := true }

theorem fixOverrun_ahead (hi : findInst i.id s = some i) (ho : i.overrun = some cap)
    (ahead : s.clk.count < min (s.clk.count + i.postPad) cap) : fixOverrun i.id s =
      setDirty (requestDue (.stopMoment i.id) (min (s.clk.count + i.postPad) cap) (withdrawDue (.overrunCap i.id)
        (modInst i.id (stopFixedAt (min (s.clk.count + i.postPad) cap)) s))) := by
  rw [fixOverrun, hi]
  dsimp only
  rw [ho]
  exact if_neg (Nat.not_le.mpr ahead)

/-- A status that ends overruns is handed to the one recording that overruns by the event (R28). -/
theorem handStatus_one (hd : DistinctIds s) (hi : findInst i.id s = some i) (hs : i.state = .recording)
    (hk : i.origin = .event k) (ho : i.overrun ≠ none) (only : ∀ j ∈ s.lst.insts, j.id ≠ i.id → j.overrun = none)
    (h1 : st ≠ .running) (h2 : st ≠ .pausing) : handStatus k (some st) s = fixOverrun i.id s := by
  have one : idsWhere (fun j => j.origin == .event k && j.overrun.isSome &&
      (j.state == .starting || j.state == .recording)) s = [i.id] := by
    refine eq_singleton_of_nodup (idsWhere_nodup hd _) (fun m => ?_)
    rw [mem_idsWhere]
    constructor
    · rintro ⟨j, hj, fits, rfl⟩
      by_contra differ
      simp [only j hj differ] at fits
    · rintro rfl
      refine ⟨i, mem_of_findInst hi, ?_, rfl⟩
      simp [hk, hs, Option.isSome_iff_ne_none.mpr ho]
  have live : ¬ (some st = some RunStatus.running ∨ some st = some RunStatus.pausing) := by
    rw [Option.some.injEq, Option.some.injEq]
    exact not_or.mpr ⟨h1, h2⟩
  rw [handStatus, if_neg live, one]
  rfl

/-- A status that changes is handed on, and the reply carries the one before (R28, R31). -/
theorem eventStatus_handed (hr : recOf k s.gst.recs = some r) (changes : r.status ≠ st) :
    eventStatus tag (k, runStatusNum st) s = withReply (okTo 0x1A tag (.runStatus r.status))
      (handStatus k (some st)
        (setRecs (s.gst.recs.map (fun x => if x.key = k then { x with status := st } else x)) s)) := by
  simp only [eventStatus, runStatusOf_num, hr, if_neg changes, beq_iff_eq]
  rfl

end Ends

/-- Settles O27: the core end by the three tests of R152, the status by its one recording in overrun. -/
theorem overrunBeginsAndEnds : Obligations.OverrunBeginsAndEnds := by
  refine ⟨fun s n i hS _ due hi hs => ⟨fun b k r hb follows limit ho hr status => ?_, fun fails => ?_⟩,
    fun s n i tag p k st r cap hS hd hT hp hr changes h1 h2 hi hs hk ho only ahead => ?_⟩
  · obtain rfl := findInst_id hi
    let v := withdrawDue (.coreEnd i.id) s
    let x := enterOverrun i v
    have acts : takeCoreEnd i.id v = x := (takeCoreEnd_running (s := v) hi hs).trans
      (if_pos (entersOverrun_of (s := v) hb follows limit ho hr status))
    have insts : x.lst.insts = changedAt i.id
        (overrunning (min 4294967295 (i.start + i.dur + s.run.overrunLimit))) s :=
      congrArg InstanceList.insts (modInst_lst_eq ..)
    have e := settle_altered (x := x) insts rfl (setDirty_pln _)
    obtain ⟨-, link, -⟩ := settle_inner (x := x) hS insts (fun _ => ⟨rfl, rfl, rfl⟩) rfl rfl rfl
    have parts : KeepsParts s x := ⟨rfl, rfl, rfl, ⟨rfl, rfl, rfl⟩, rfl, rfl⟩
    refine ⟨settleOutputs s x, congrArg Host.Outcome.next ((onDue_taken (takeDue_delivered due)).trans ?_), e.insts, ?_, ?_,
      e.asks, e.run, ?_, link, parts.others s⟩
    · rw [acts]
      exact e.settles
    · rw [settleOutputs_heldDue (k := .stopMoment i.id) _ _ nofun]
      exact enterOverrun_stopMoment
    · rw [settleOutputs_heldDue (k := .overrunCap i.id) _ _ nofun]
      exact enterOverrun_cap
    · rw [settleOutputs_cnd]
      rfl
  · obtain rfl := findInst_id hi
    let v := withdrawDue (.coreEnd i.id) s
    have acts : takeCoreEnd i.id v = v := by
      rw [takeCoreEnd_running (s := v) hi hs, entersOverrun_not (s := v) fails]
      rfl
    refine congrArg Host.Outcome.next ((onDue_taken (takeDue_delivered due)).trans ?_)
    rw [acts]
    exact settle_withoutDue (k := .coreEnd i.id) hS nofun
  · obtain rfl := findInst_id hi
    let v := setRecs (s.gst.recs.map (fun x => if x.key = k then { x with status := st } else x))
      (withFrame 0x1A tag p s)
    let stop := min (s.clk.count + i.postPad) cap
    let x := withReply (okTo 0x1A tag (.runStatus r.status)) (fixOverrun i.id v)
    have fixed : fixOverrun i.id v = setDirty (requestDue (.stopMoment i.id) stop (withdrawDue (.overrunCap i.id)
        (modInst i.id (stopFixedAt stop) v))) := fixOverrun_ahead (s := v) hi ho ahead
    have acts : eventStatus tag (k, runStatusNum st) (withFrame 0x1A tag p s) = x := by
      rw [eventStatus_handed (s := withFrame 0x1A tag p s) hr changes]
      exact congrArg _ (handStatus_one (s := v) hd hi hs hk (by rw [ho]; exact nofun) only h1 h2)
    have insts : x.lst.insts = changedAt i.id (stopFixedAt stop) s :=
      (congrArg (fun u => u.lst.insts) fixed).trans (congrArg InstanceList.insts (modInst_lst_eq ..))
    have run : x.run = s.run := (congrArg State.run fixed).trans (setDirty_run _)
    have e := settle_altered (x := x) insts run ((congrArg State.pln fixed).trans (setDirty_pln _))
    refine ⟨settleOutputs s x, (execEventStatus_taken hT hp).trans (congrArg _ ?_), e.insts, ?_, ?_, e.asks, e.run, ?_, ?_,
      ?_, ?_⟩
    · rw [acts]
      exact e.settles
    · rw [settleOutputs_heldDue (k := .stopMoment i.id) _ _ nofun]
      refine (congrArg (fun u => (heldDue (.stopMoment i.id) u).map (fun d => d.time)) fixed).trans ?_
      rw [heldDue_of_clk (setDirty_clk _), heldDue_requestDue_same]
      rfl
    · rw [settleOutputs_heldDue (k := .overrunCap i.id) _ _ nofun]
      have other : DueKind.overrunCap i.id ≠ .stopMoment i.id := nofun
      refine (congrArg (heldDue (.overrunCap i.id)) fixed).trans ?_
      rw [heldDue_of_clk (setDirty_clk _), heldDue_requestDue_other other, heldDue_withdrawDue_same]
    · rw [settleOutputs_cnd]
      exact (congrArg State.cnd fixed).trans (setDirty_cnd _)
    · rw [settleOutputs_bkt]
      exact (congrArg State.bkt fixed).trans (setDirty_bkt _)
    · rw [settleOutputs_gst]
      exact congrArg (fun u => u.gst.recs) fixed
    · rw [settleOutputs_tx]
      exact congrArg (fun u => u.lnk.tx ++ _) fixed

end Sys2Proof.Machine

/-! PROOFS. Late starts, the handovers a plan has arranged, and the start that a tuner's last stop lets go (R143,
R144). -/

namespace Sys2Proof.Machine

-- one theorem after another: many at a time would want a thread each
set_option Elab.async false

open Sys2Proof

/-! ## The attempt at a window start (R142, R143) -/

section Attempt

variable {n : Nat} {i : Inst} {w : Window} {t : Tuner} {late : Bool} {s : State}

/-- A window start that leads to an attempt. -/
theorem execWindowStart_attempts (a : Attempts n i w t s) : exec (.windowStart n) s = .next (settle s
    (startAttempt false (decide (w.ws < s.clk.count)) n (withdrawDue (.windowStart n) s))) := by
  obtain ⟨-, -, -, due, hi, planned, -, hw, -, -, early, awake, -⟩ := a
  rw [← heldLimit_eq hw] at early
  refine congrArg Host.Outcome.next ((onDue_taken (takeDue_delivered due)).trans (congrArg (settle s) ?_))
  exact takeWindowStart_attempt (s := withdrawDue (.windowStart n) s) hi planned hw early awake

/-- An attempt judges the tuner once its handovers have been made (R143). -/
theorem startAttempt_handed (hi : findInst n s = some i) (ht : i.tuner = some t) : startAttempt false late n s =
    if freeFor t i (handovers t n s) then startOn t false late n (handovers t n s)
    else blockedStart t false late i (handovers t n s) := by
  rw [startAttempt, hi]
  dsimp only
  rw [ht]
  rfl

end Attempt

/-! ## The handovers that a plan has arranged (R143) -/

section Handovers

variable {n : Nat} {i j : Inst} {t : Tuner} {s : State}

/-- One recording whose cut mark names the one that starts is cut, and nothing else handed over (R143). -/
theorem handovers_cut (hd : DistinctIds s) (hj : findInst j.id s = some j) (hr : j.state = .recording)
    (ht : j.tuner = some t) (mark : j.cutBy = some n) (only : ∀ x ∈ s.lst.insts, x.cutBy = some n → x.id = j.id)
    (hy : ∀ c ∈ s.run.claims, c.yieldTo ≠ some n) (gap : NoGapOn j s) : handovers t n s = cutOverrun t j s := by
  have mem : ∀ x, x ∈ (recordingOn t s).filter (fun x => x.cutBy == some n) ↔ x = j := by
    intro x
    rw [recordingOn, List.mem_filter, mem_sortBy, List.mem_filter]
    constructor
    · rintro ⟨⟨hx, -⟩, marked⟩
      exact mem_eq_of_findInst hd hj hx (only x hx (beq_iff_eq.mp marked))
    · rintro rfl
      exact ⟨⟨mem_of_findInst hj, by simp [hr, ht]⟩, by simp [mark]⟩
  have nodup : ((recordingOn t s).filter (fun x => x.cutBy == some n)).Nodup :=
    ((((sortBy_perm _ _).nodup_iff).mpr ((List.Nodup.of_map _ hd).filter _))).filter _
  have one : (recordingOn t s).filter (fun x => x.cutBy == some n) = [j] :=
    List.perm_singleton.mp ((List.perm_ext_iff_of_nodup nodup (List.nodup_singleton j)).mpr (by simpa using mem))
  have claims : (cutOverrun t j s).run.claims = s.run.claims := by
    rw [cutOverrun, submit_run, (enterStopping_stops hj gap hr).moved.claims]
  have none : (cutOverrun t j s).run.claims.filter (fun c => c.tuner == t && c.yieldTo == some n) = [] := by
    rw [claims]
    exact List.filter_eq_nil_iff.mpr (fun c hc => by simp [hy c hc])
  rw [handovers, one, List.foldl_cons, List.foldl_nil, none, List.foldl_nil]

/-- With the tuner's one recording cut, every obstacle is STOPPING (R144). -/
theorem allStopping_cut (hj : findInst j.id s = some j) (hr : j.state = .recording) (gap : NoGapOn j s)
    (active : (tunerRun t s).active = [j.id]) (claims : ∀ c ∈ s.run.claims, c.tuner = t → c.mux = i.mux) :
    AllStopping t i (cutOverrun t j s) := by
  have e := enterStopping_stops (reason := .overrunCut) hj gap hr
  have run : (tunerRun t (cutOverrun t j s)).active = [j.id] := by
    rw [cutOverrun, tunerRun_of_run (submit_run _ _), e.active, active]
  have found : findInst j.id (cutOverrun t j s) = some (stopped .overrunCut s.clk.count j) := by
    rw [cutOverrun, findInst_of_lst (submit_lst _ _), findInst_of_lst e.moved.lst,
      findInst_modInst_same j.id (stopped .overrunCut s.clk.count) (fun _ => rfl), hj]
    rfl
  refine ⟨fun k hk => ?_, List.filter_eq_nil_iff.mpr (fun c hc => ?_)⟩
  · obtain ⟨mem, same⟩ := mem_obstacles hk
    rw [run, List.mem_singleton] at mem
    rw [mem, found] at same
    rw [← Option.some.inj same]
    rfl
  · rw [cutOverrun, submit_run, e.moved.claims] at hc
    have shared := claims c hc
    by_cases here : c.tuner = t
    · simp [here, shared here]
    · simp [here]

/-- One claim, with a yield mark that names the recording, is revoked (R143, R156). -/
theorem handovers_revoke {c : Claim} (claims : s.run.claims = [c]) (ht : c.tuner = t) (mark : c.yieldTo = some n)
    (hc : ∀ j ∈ s.lst.insts, j.cutBy ≠ some n) : handovers t n s = revokeClaim c.id n s := by
  have cuts : (recordingOn t s).filter (fun j => j.cutBy == some n) = [] :=
    List.filter_eq_nil_iff.mpr (fun j hj => by simpa using hc j (mem_recordingOn hj))
  have yields : s.run.claims.filter (fun c => c.tuner == t && c.yieldTo == some n) = [c] := by
    rw [claims]
    exact List.filter_cons_of_pos (by simp [ht, mark])
  rw [handovers, cuts, List.foldl_nil, yields, List.foldl_cons, List.foldl_nil]

/-- The only claim gone, the tuner is as free as without claims. -/
theorem freeFor_revoked_only {c : Claim} (claims : s.run.claims = [c]) (free : freeFor t i (withoutClaims s) = true) :
    freeFor t i (revokeClaim c.id n s) = true := by
  have active (x : Tuner) : tunerRun x (withoutClaims s) = tunerRun x s := by
    cases x
    · rfl
    · rfl
  have shown : activeOn t (revokeClaim c.id n s) = activeOn t (withoutClaims s) := by
    rw [activeOn, activeOn, revokeClaim_tunerRun, active]
    exact List.filterMap_congr (fun k _ => findInst_of_lst (revokeClaim_lst ..) k)
  have gone : (revokeClaim c.id n s).run.claims = [] := by
    rw [revokeClaim_claims, claims]
    exact List.filter_cons_of_neg (by simp)
  rw [freeFor, active] at free
  rw [freeFor, shown, revokeClaim_tunerRun, gone]
  exact free

end Handovers

/-! ## The retry of a start that waited (R144) -/

section Retry

variable {n : Nat} {i : Inst} {before s : State}

/-- One start waits: a round of retries attempts it, late. -/
theorem retryWaiting_held (hd : DistinctIds s) (hi : findInst n s = some i) (hs : i.state = .planned ∧ i.startHeld = true)
    (ho : OnlyWaits n s) : retryWaiting s = startAttempt false true n s := by
  have none : interruptedIds s = [] := interruptedIds_none (fun j hj => by
    by_cases same : j.id = n
    · rw [mem_eq_of_findInst hd hi hj same, hs.1]
      exact nofun
    · exact (ho j hj same).1)
  have one : heldStarts s = [n] := eq_singleton_of_nodup (heldStarts_nodup hd) (fun k => by
    rw [mem_heldStarts]
    constructor
    · rintro ⟨j, hj, hp, rfl⟩
      by_contra other
      exact (ho j hj other).2 hp
    · rintro rfl
      exact ⟨i, mem_of_findInst hi, hs, findInst_id hi⟩)
  unfold retryWaiting
  rw [none]
  dsimp only [List.foldl_nil]
  rw [one, List.foldl_cons, List.foldl_nil, retryHeld, hi]
  exact if_pos hs

/-- One round is enough when it changes nothing that a start could wait for. -/
theorem retryStarts_once (awake : hostAwake s = true) (changed : waitChanged before s = true)
    (rests : waitChanged s (retryWaiting s) = false) : retryStarts before s = retryWaiting s := by
  unfold retryStarts
  rw [retryRounds, awake, changed, Bool.and_self, if_pos rfl, retryRounds, rests, Bool.and_false]
  rfl

/-- A recording that has left a tuner changes what starts wait for (R144). -/
theorem waitChanged_left {t : Tuner} {k : Nat} (was : k ∈ (tunerRun t before).active) (left : k ∉ (tunerRun t s).active) :
    waitChanged before s = true := by
  rw [← Bool.not_eq_false]
  intro same
  simp only [waitChanged, Bool.or_eq_false_iff, Bool.not_eq_false', List.all_eq_true, List.contains_iff_mem] at same
  obtain ⟨⟨a, b⟩, -⟩ := same
  cases t
  · exact left (a k was)
  · exact left (b k was)

end Retry

/-! ## The stop that lets a start go (R144, R149) -/

section LetsGo

variable {n : Nat} {i j : Inst} {t : Tuner} {rs : List Reply} {s x : State}

theorem EndedSince.distinctIds {fin : InstState} {c : Cause} {r : Option Nat} (e : EndedSince i fin c r rs s x)
    (hd : DistinctIds s) : DistinctIds x := by
  have ids : x.lst.insts.map (fun j => j.id) = s.lst.insts.map (fun j => j.id) := by
    rw [e.insts, ← modInst_ids i.id (finished fin c r s.clk.count) (fun _ => rfl) s, modInst_lst_eq]
  rwa [DistinctIds, ids]

/-- The others stand as they stood. -/
theorem EndedSince.findInst_other {fin : InstState} {c : Cause} {r : Option Nat} (e : EndedSince i fin c r rs s x)
    (differ : n ≠ i.id) : findInst n x = findInst n s := by
  have lst : findInst n x = findInst n (modInst i.id (finished fin c r s.clk.count) s) := by
    rw [findInst, findInst, e.insts, modInst_lst_eq]
  rw [lst]
  exact findInst_modInst_other differ (finished fin c r s.clk.count) (fun _ => rfl) s

/-- The recording that held the tuner has ended, and nothing but the start of this one waits. -/
structure LetsGo (n : Nat) (i j : Inst) (t : Tuner) (rs : List Reply) (s x : State) : Prop where
  ended : EndedSince j .done .reportedStop none rs s x
  distinct : DistinctIds s
  awake : s.wsv.host = .awake
  active : (tunerRun t s).active = [j.id]
  found : findInst n s = some i
  planned : i.state = .planned
  held : i.startHeld = true
  tuner : i.tuner = some t
  differ : n ≠ j.id
  only : ∀ k ∈ s.lst.insts, k.id ≠ n → k.state ≠ .interrupted ∧ ¬ (k.state = .planned ∧ k.startHeld = true)
  cuts : ∀ k ∈ s.lst.insts, k.cutBy ≠ some n
  claims : ∀ c ∈ s.run.claims, c.yieldTo ≠ some n ∧ (c.tuner = t → c.mux = i.mux)

theorem LetsGo.idle (g : LetsGo n i j t rs s x) : (tunerRun t x).active = [] := by
  rw [g.ended.gone.active, g.active]
  exact List.filter_cons_of_neg (by simp)

theorem LetsGo.still (g : LetsGo n i j t rs s x) : findInst n x = some i :=
  (g.ended.findInst_other g.differ).trans g.found

theorem LetsGo.free (g : LetsGo n i j t rs s x) : freeFor t i x = true := by
  have shared : x.run.claims.all (fun c => c.tuner != t || c.mux == i.mux) = true := by
    rw [g.ended.claims, List.all_eq_true]
    intro c hc
    by_cases here : c.tuner = t
    · simp [(g.claims c hc).2 here]
    · simp [here]
  rw [freeFor, activeOn, g.idle, shared]
  rfl

theorem LetsGo.onlyWaits (g : LetsGo n i j t rs s x) : OnlyWaits n x := by
  intro k hk differ
  obtain ⟨y, -, -, rfl⟩ | ⟨hk, -⟩ := g.ended.mem hk
  · exact ⟨nofun, fun waits => nomatch waits.1⟩
  · exact g.only k hk differ

/-- The start that waited is attempted, with no handover, on the tuner that has come free. -/
theorem LetsGo.retries (g : LetsGo n i j t rs s x) : retryWaiting x = startOn t false true n x := by
  rw [retryWaiting_held (g.ended.distinctIds g.distinct) g.still ⟨g.planned, g.held⟩ g.onlyWaits]
  refine startAttempt_free g.still g.tuner g.free (fun k hk => ?_) (fun c hc => ?_)
  · obtain ⟨y, hy, -, rfl⟩ | ⟨hk, -⟩ := g.ended.mem hk
    · exact g.cuts y hy
    · exact g.cuts k hk
  · rw [g.ended.claims] at hc
    exact (g.claims c hc).1

/-- The log of a start that is late once its core start has passed (R143). -/
theorem LetsGo.starts (g : LetsGo n i j t rs s x) : StartsFrom t i
    (if i.start < x.clk.count then submit (tunerCond t .deferred .startLate i) x else x).cnd x
    (startOn t false true n x) := by
  obtain rfl := findInst_id g.found
  have e := startOn_from (t := t) (late := true) g.still
  simp only [true_and] at e
  rw [apply_ite State.cnd]
  exact e

/-- At the end of the event the start has been made (R144). -/
theorem LetsGo.settles (g : LetsGo n i j t rs s x) : settle s x = settleOutputs s (startOn t false true n x) := by
  have awake : hostAwake x = true := by
    rw [hostAwake, g.ended.wsv, g.awake]
    rfl
  have left : waitChanged s x = true := waitChanged_left (t := t) (k := j.id) (by rw [g.active]; exact List.mem_singleton_self _)
    (by rw [g.idle]; exact List.not_mem_nil)
  have claims : ∀ c ∈ x.run.claims, c ∈ (startOn t false true n x).run.claims := by
    rw [g.starts.starts.claims]
    exact fun c hc => hc
  have rests : waitChanged x (retryWaiting x) = false := by
    rw [g.retries]
    exact waitChanged_grown g.starts.grows claims
  rw [settle, retryStarts_once awake left rests, g.retries]

theorem LetsGo.insts (g : LetsGo n i j t rs s x) : (startOn t false true n x).lst.insts =
    s.lst.insts.map (fun k => if k.id = j.id then finished .done .reportedStop none s.clk.count k
      else if k.id = n then started t (winEnd i) k else k) := by
  obtain rfl := findInst_id g.found
  rw [g.starts.insts, changedAt, g.ended.insts, changedAt, List.map_map]
  refine List.map_congr_left (fun k _ => ?_)
  dsimp only [Function.comp_apply]
  by_cases same : k.id = j.id
  · have other : ¬ (finished .done .reportedStop none s.clk.count k).id = i.id := fun e => g.differ (e.symm.trans same)
    rw [if_pos same, if_neg other, if_pos same]
  · rw [if_neg same, if_neg same]

end LetsGo

/-- A STOPPED report for a STOPPING recording (R149). -/
theorem recReport_stopping {n : Nat} {i : Inst} {tag : Byte} {s : State} (hs : i.state = .stopping)
    (hi : findInst n s = some i) :
    recReport tag (n, .stopped) s = answerReport tag n (endStopping .reportedStop i s) := by
  have live : gaveUp i = false := by simp [gaveUp, hs, isTerminal]
  rw [recReport, if_neg nofun, hi]
  dsimp only
  rw [live, if_neg Bool.false_ne_true, hs]

/-- Settles O25: the four events, each through the start or the wait it leads to. -/
theorem lateStartsHandoversAndRetries : Obligations.LateStartsHandoversAndRetries := by
  refine ⟨fun s n i w t a free hc hy late1 late2 => ?_, fun s n i w t j a hj hr ht mark mux only active claims => ?_,
    fun s n i w t c a claims ht mark free hc soon => ?_,
    fun s tag p n i w t j hS hd hT hp awake hj hs ho ht active other hg hi planned held hw hti only cuts claims => ?_⟩
  · have run := execWindowStart_attempts a
    obtain ⟨hS, -, -, -, hi, -, -, hw, ht, -, -, -, -⟩ := a
    obtain rfl := findInst_id hi
    rw [startAttempt_free (s := withdrawDue (.windowStart i.id) s) hi ht free hc hy] at run
    obtain ⟨settles, e⟩ := settle_started (t := t) (late := decide (w.ws < s.clk.count)) hS
      (withdrawDue_begun (.windowStart i.id) s) hi
    have log := e.cnd
    rw [if_pos ⟨decide_eq_true late1, late2⟩] at log
    rw [← winEnd_eq hw]
    exact ⟨_, run.trans (congrArg Host.Outcome.next settles), e.insts, e.started, log, e.pln, e.others⟩
  · have run := execWindowStart_attempts a
    obtain ⟨-, hd, -, -, hi, planned, -, hw, hti, hg, -, -, -⟩ := a
    obtain rfl := findInst_id hi
    let v := withdrawDue (.windowStart i.id) s
    have gap : NoGapOn j v := fun x _ => hg x
    have differ : j.id ≠ i.id := by
      intro same
      rw [same, hi] at hj
      rw [← Option.some.inj hj, planned] at hr
      exact nomatch hr
    have busy : freeFor t i (cutOverrun t j v) = false :=
      freeFor_cut (s := v) hj gap hr mux (by rw [show (tunerRun t v).active = [j.id] from active]; exact List.mem_singleton_self _)
    have stopping : AllStopping t i (cutOverrun t j v) :=
      allStopping_cut (s := v) hj hr gap active (fun c hk => (claims c hk).2)
    rw [startAttempt_handed (s := v) hi hti,
      handovers_cut (s := v) hd hj hr ht mark only (fun c hk => (claims c hk).1) gap, busy, if_neg Bool.false_ne_true,
      blockedStart_stopping stopping] at run
    obtain ⟨insts, confirm, limit, stands, log, -, tx, others⟩ := settle_cut hi hj differ gap hr rfl
    rw [← heldLimit_eq hw]
    exact ⟨_, run, insts, confirm, limit, stands, log, tx, others⟩
  · have run := execWindowStart_attempts a
    obtain ⟨-, -, -, -, hi, -, -, hw, hti, -, -, -, hN⟩ := a
    obtain rfl := findInst_id hi
    let v := withdrawDue (.windowStart i.id) s
    have early : ¬ (decide (w.ws < s.clk.count) = true ∧ i.start < s.clk.count) := by
      rw [decide_eq_true_eq]
      omega
    rw [startAttempt_handed (s := v) hi hti, handovers_revoke (s := v) claims ht mark hc,
      freeFor_revoked_only (s := v) claims free, if_pos rfl] at run
    obtain ⟨insts, starts, left, rest⟩ := settle_revoked (t := t) hN hi early c rfl
    have gone : s.run.claims.filter (fun x => x.id != c.id) = [] := by
      rw [claims]
      exact List.filter_cons_of_neg (by simp)
    rw [← winEnd_eq hw]
    exact ⟨_, run, insts, starts, left.trans gone, rest⟩
  · have b := withFrame_begun 0x38 tag p s
    let x := answerReport tag j.id (endStopping .reportedStop j (withFrame 0x38 tag p s))
    have fin : stoppingFinal j = .done := if_neg ho
    have e : EndedSince j .done .reportedStop none [okTo 0x38 tag (.report .done)] s x := by
      have f := (endStopping_since (c := .reportedStop) b hj ht (hg t) (PutsOut.refl _)).reported hj tag
      rwa [fin, stoppingCause, if_neg ho] at f
    have differ : n ≠ j.id := by
      rintro rfl
      rw [hj] at hi
      rw [← Option.some.inj hi, hs] at planned
      exact nomatch planned
    have g : LetsGo n i j t [okTo 0x38 tag (.report .done)] s x :=
      ⟨e, hd, awake, active, hi, planned, held, hti, differ, only, cuts, claims⟩
    have acts : recReport tag (j.id, .stopped) (withFrame 0x38 tag p s) = x := recReport_stopping hs ((Begun.findInst b j.id).trans hj)
    have run : exec (.recReportStopped tag p) s = .next (settleOutputs s (startOn t false true n x)) := by
      refine (settledMessage_taken (recReport tag) hT hp).trans (congrArg Host.Outcome.next ?_)
      rw [acts]
      exact g.settles
    obtain rfl := findInst_id hi
    have log : x.cnd = s.cnd := (endStopping_cnd (c := .reportedStop) b hj ht (hg t)).1
    have stop : stopOf false i = w.we := winEnd_eq hw
    have y := g.starts
    refine ⟨_, run, ?_, ?_, ?_, ?_, ?_, ?_, ?_, ?_, ?_, ?_⟩
    · rw [settleOutputs_insts, g.insts, winEnd_eq hw]
    · rw [tunerRun_of_run (settleOutputs_run ..), y.starts.run, g.idle]
      rfl
    · rw [tunerRun_of_run (settleOutputs_run ..), y.starts.run]
    · rw [settleOutputs_heldDelay, y.starts.confirm]
    · rw [settleOutputs_heldDue (k := .stopMoment i.id) _ _ nofun, y.starts.stop, stop]
    · rw [settleOutputs_heldDue (k := .heldLimit i.id) _ _ nofun, y.starts.limit]
    · rw [settleOutputs_cnd, y.starts.cnd, e.time.1]
      split
      · exact submit_cnd_congr _ log e.time.1
      · exact log
    · rw [settleOutputs_tx, y.starts.tx, e.tx]
    · rw [settleOutputs_run, y.starts.claims, e.claims]
    · rw [settleOutputs_gst, y.starts.gst, e.gst]

end Sys2Proof.Machine

/-! PROOFS. The closing of a gap: the charges, the gap counter, and the condition that names who was charged (R159, R172,
R173). -/

namespace Sys2Proof.Machine

-- one theorem after another: many at a time would want a thread each
set_option Elab.async false

open Sys2Proof

/-! ## What is submitted looks at the log, the link and the count alone (R167, R202) -/

/-- Two states of one log, one link and one count. -/
structure SameLog (s u : State) : Prop where
  cnd : s.cnd = u.cnd
  lnk : s.lnk = u.lnk
  count : s.clk.count = u.clk.count

theorem SameLog.trans {s u v : State} (h : SameLog s u) (g : SameLog u v) : SameLog s v :=
  ⟨h.cnd.trans g.cnd, h.lnk.trans g.lnk, h.count.trans g.count⟩

theorem SameLog.postNotice {s u : State} (h : SameLog s u) (b : NoticeBody) :
    (postNotice b s).lnk = (postNotice b u).lnk := by
  simp only [Machine.postNotice, postNoticeAt, modLnk, now, h.lnk, h.count]

theorem SameLog.submit {s u : State} (h : SameLog s u) (c : Condition) : SameLog (submit c s) (submit c u) := by
  refine ⟨submit_cnd_congr c h.cnd h.count, ?_, ?_⟩
  · have log := h.cnd
    obtain ⟨masked, e⟩ | ⟨masked, -, off, on⟩ := submit_cases c s
    · obtain ⟨-, e'⟩ | ⟨unmasked, -⟩ := submit_cases c u
      · rw [e, e', h.lnk]
      · rw [log, unmasked] at masked
        exact absurd masked Bool.false_ne_true
    · obtain ⟨masked', -⟩ | ⟨-, -, off', on'⟩ := submit_cases c u
      · rw [log, masked'] at masked
        exact absurd masked.symm Bool.false_ne_true
      · cases enabled : hasClass (bankAt c.bank u.cnd).enable c.cls with
        | false => rw [off (by rw [log, enabled]), off' enabled, h.lnk]
        | true => rw [on (by rw [log, enabled]), on' enabled, h.postNotice]
  · rw [submit_clk, submit_clk, h.count]

/-! ## The gap counter (R172, R173) -/

section Counter

variable {t : Tuner} {s u : State}

/-- The counter advances as R172 and R173 state. -/
theorem advanceGap_eq (t : Tuner) (s : State) : advanceGap t s = gapAdvanced t s := by
  rw [advanceGap, gapAdvanced]
  by_cases h : (gapAt t s.cnd).count < 65535 ∧ (gapAt t s.cnd).count + 1 = (gapAt t s.cnd).threshold ∧
      (gapAt t s.cnd).armed = true
  · obtain ⟨room, reached, armed⟩ := h
    have next : min 65535 ((gapAt t s.cnd).count + 1) = (gapAt t s.cnd).count + 1 := by omega
    rw [if_pos ⟨by omega, by omega, by omega, armed⟩, if_pos ⟨room, reached, armed⟩, postNotice_withNotice, next]
    rfl
  · have below : ¬ ((gapAt t s.cnd).threshold ≠ 0 ∧
        (gapAt t s.cnd).count < min 65535 ((gapAt t s.cnd).count + 1) ∧
        min 65535 ((gapAt t s.cnd).count + 1) = (gapAt t s.cnd).threshold ∧ (gapAt t s.cnd).armed = true) := by
      rintro ⟨-, moves, reached, armed⟩
      exact h ⟨by omega, by omega, armed⟩
    rw [if_neg h, if_neg below]
    rfl

theorem SameLog.advanced (h : SameLog s u) (t : Tuner) : SameLog (gapAdvanced t s) (gapAdvanced t u) := by
  have counted (f : GapCounter → GapCounter) : SameLog (withGap t f s) (withGap t f u) :=
    ⟨by rw [withGap, withGap, h.cnd], h.lnk, h.count⟩
  unfold gapAdvanced
  dsimp only
  rw [h.cnd]
  split
  · rw [← postNotice_withNotice, ← postNotice_withNotice]
    exact ⟨by rw [postNotice_cnd, postNotice_cnd, (counted _).cnd], (counted _).postNotice _,
      by rw [postNotice_clk, postNotice_clk, (counted _).count]⟩
  · exact counted _

/-- Whatever is posted, the counter has gone up by one, unless it stood at its end (R172). -/
theorem gapAdvanced_count (t : Tuner) (s : State) :
    (gapAt t (gapAdvanced t s).cnd).count = min 65535 ((gapAt t s.cnd).count + 1) := by
  unfold gapAdvanced
  dsimp only
  split
  · rename_i h
    rw [← postNotice_withNotice, postNotice_cnd, withGap, gapAt_setGap_same]
    dsimp only
    omega
  · rw [withGap, gapAt_setGap_same]

theorem submit_gapAt (c : Condition) (t : Tuner) (s : State) : gapAt t (submit c s).cnd = gapAt t s.cnd := by
  obtain ⟨-, e⟩ | ⟨-, e, -⟩ := submit_cases c s
  · rw [e]
  · rw [e, gapAt_setBank]

theorem gapAdvanced_noticesOnly (t : Tuner) (s : State) : NoticesOnly s (gapAdvanced t s) := by
  rw [← advanceGap_eq]
  exact (advanceGap_calm t s).notices

end Counter

/-! ## The charges (R159) -/

section Charges

variable {t : Tuner} {upTo d : Nat} {k : Nat} {i : Inst} {s : State}

/-- A recording with a larger sum of gap tenths (R164). -/
def chargedBy (n : Nat) (j : Inst) : Inst := { j with gapTenths := min (10 * j.dur) (j.gapTenths + n) }

theorem gapCharged_none (h : gapShare d upTo i = 0) : gapCharged d upTo i = i := if_pos h

theorem gapCharged_some (h : gapShare d upTo i ≠ 0) : gapCharged d upTo i = chargedBy (gapShare d upTo i) i := if_neg h

theorem uncharged_gapCharged (d upTo : Nat) (j : Inst) : uncharged (gapCharged d upTo j) = uncharged j := by
  unfold gapCharged
  split
  · rfl
  · rfl

/-- The note that a recording has been charged for the gap of its tuner. -/
def noted (k : Nat) (r : TunerRun) : TunerRun := { r with charged := r.charged.filter (fun j => j != k) ++ [k] }

/-- A recording is charged its share, and is noted when that is not 0 (R159). -/
theorem chargeGap_found (hi : findInst k s = some i) (hd : (tunerRun t s).drop = some d) : chargeGap t upTo k s =
    if gapShare d upTo i = 0 then s else modTuner t (noted k) (modInst k (chargedBy (gapShare d upTo i)) s) := by
  unfold chargeGap gapShare openStart
  rw [hi, hd]
  dsimp only
  cases i.segments.find? (fun g => g.stop.isNone) with
  | none => rfl
  | some g =>
    dsimp only [Option.map_some]
    rw [max_assoc]
    rfl

/-- What any number of charges can change. -/
theorem chargeGap_frame (t : Tuner) (upTo k : Nat) (s : State) : ∃ f, (∀ i, uncharged (f i) = uncharged i) ∧
    (chargeGap t upTo k s).lst = { s.lst with insts := s.lst.insts.map f } := by
  have still : s.lst = { s.lst with insts := s.lst.insts.map (fun i => i) } := by rw [List.map_id']
  cases hi : findInst k s with
  | none =>
    refine ⟨fun i => i, fun _ => rfl, ?_⟩
    rw [chargeGap, hi]
    exact still
  | some i =>
    cases hd : (tunerRun t s).drop with
    | none =>
      refine ⟨fun i => i, fun _ => rfl, ?_⟩
      rw [chargeGap, hi, hd]
      exact still
    | some d =>
      rw [chargeGap_found hi hd]
      split
      · exact ⟨fun i => i, fun _ => rfl, still⟩
      · refine ⟨fun j => if j.id = k then chargedBy (gapShare d upTo i) j else j, fun j => ?_, ?_⟩
        · dsimp only
          split
          · rfl
          · rfl
        · rw [modTuner_lst, modInst_lst_eq]
          rfl

theorem chargeGaps_frame (t : Tuner) (upTo : Nat) (is : List Inst) (s : State) : ∃ f, (∀ i, uncharged (f i) = uncharged i) ∧
    (is.foldl (fun u i => chargeGap t upTo i.id u) s).lst = { s.lst with insts := s.lst.insts.map f } := by
  induction is generalizing s with
  | nil => exact ⟨fun i => i, fun _ => rfl, by rw [List.map_id']; rfl⟩
  | cons i is ih =>
    obtain ⟨f, hf, e⟩ := chargeGap_frame t upTo i.id s
    obtain ⟨g, hg, e'⟩ := ih (chargeGap t upTo i.id s)
    refine ⟨fun j => g (f j), fun j => (hg _).trans (hf j), ?_⟩
    rw [List.foldl_cons, e', e, List.map_map]
    rfl

/-- What charging these recordings for a gap from a drop time leaves: each has its share, and those with one are noted. -/
structure Charges (t : Tuner) (d upTo : Nat) (is : List Inst) (s u : State) : Prop where
  insts : u.lst.insts = s.lst.insts.map (fun j => if j.id ∈ is.map (fun i => i.id) then gapCharged d upTo j else j)
  noted : ∀ n, n ∈ (tunerRun t u).charged ↔
    n ∈ (tunerRun t s).charged ∨ ∃ i ∈ is, i.id = n ∧ gapShare d upTo i ≠ 0

/-- One charge (R159). -/
theorem chargeGap_charges (hD : DistinctIds s) (hi : findInst i.id s = some i) (hd : (tunerRun t s).drop = some d) :
    Charges t d upTo [i] s (chargeGap t upTo i.id s) := by
  have among (j : Inst) : j.id ∈ [i].map (fun i => i.id) ↔ j.id = i.id := by simp
  have alone (j : Inst) (hj : j ∈ s.lst.insts) (same : j.id = i.id) : j = i := mem_eq_of_findInst hD hi hj same
  rw [chargeGap_found hi hd]
  by_cases none : gapShare d upTo i = 0
  · rw [if_pos none]
    refine ⟨?_, fun n => ?_⟩
    · refine (List.map_id' _).symm.trans (List.map_congr_left (fun j hj => ?_))
      split
      · rename_i same
        rw [alone j hj ((among j).mp same), gapCharged_none none]
      · rfl
    · simp [none]
  · rw [if_neg none]
    refine ⟨?_, fun n => ?_⟩
    · rw [modTuner_lst, modInst_lst_eq]
      refine List.map_congr_left (fun j hj => ?_)
      by_cases same : j.id = i.id
      · rw [if_pos same, if_pos ((among j).mpr same), alone j hj same, gapCharged_some none]
      · rw [if_neg same, if_neg (fun e => same ((among j).mp e))]
    · have run : (tunerRun t (modTuner t (Machine.noted i.id) (modInst i.id (chargedBy (gapShare d upTo i)) s))).charged =
          (tunerRun t s).charged.filter (fun j => j != i.id) ++ [i.id] := by
        cases t
        · rfl
        · rfl
      rw [run, List.mem_append, List.mem_filter, List.mem_singleton]
      simp only [List.mem_singleton, exists_eq_left, bne_iff_ne]
      by_cases same : n = i.id
      · simp [same, none]
      · simp [same, Ne.symm same]

theorem chargeGap_drop (t : Tuner) (upTo k : Nat) (s : State) :
    (tunerRun t (chargeGap t upTo k s)).drop = (tunerRun t s).drop := by
  obtain ⟨cs, e⟩ := chargeGap_run t upTo k s
  rw [tunerRun_of_run e]
  cases t
  · rfl
  · rfl

/-- The charges one after another, each of another recording (R159). -/
theorem chargeGaps_charges {is : List Inst} (hD : DistinctIds s) (hd : (tunerRun t s).drop = some d)
    (nodup : (is.map (fun i => i.id)).Nodup) (found : ∀ i ∈ is, findInst i.id s = some i) :
    Charges t d upTo is s (is.foldl (fun u i => chargeGap t upTo i.id u) s) := by
  induction is generalizing s with
  | nil => exact ⟨(List.map_id' _).symm.trans (List.map_congr_left (fun j _ => rfl)), fun n => by simp⟩
  | cons i is ih =>
    obtain ⟨first, nodup⟩ := List.nodup_cons.mp nodup
    let v := chargeGap t upTo i.id s
    have one : Charges t d upTo [i] s v := chargeGap_charges hD (found i List.mem_cons_self) hd
    have first : i.id ∉ is.map (fun i => i.id) := first
    have ids (j : Inst) : (gapCharged d upTo j).id = j.id := by
      show (uncharged (gapCharged d upTo j)).id = (uncharged j).id
      rw [uncharged_gapCharged]
    have step : v.lst.insts = s.lst.insts.map (fun j => if j.id = i.id then gapCharged d upTo j else j) := by
      rw [one.insts]
      simp only [List.map_cons, List.map_nil, List.mem_singleton]
    have same : v.lst.insts = (modInst i.id (gapCharged d upTo) s).lst.insts := by
      rw [step, modInst_lst_eq]
      rfl
    have rest : Charges t d upTo is v (is.foldl (fun u i => chargeGap t upTo i.id u) v) := by
      refine ih ?_ ((chargeGap_drop ..).trans hd) nodup (fun j hj => ?_)
      · rw [DistinctIds, same, modInst_ids i.id (gapCharged d upTo) ids]
        exact hD
      · have differ : j.id ≠ i.id := by
          intro same
          rw [← same] at first
          exact first (List.mem_map_of_mem (f := fun i => i.id) hj)
        rw [findInst, same]
        exact (findInst_modInst_other differ (gapCharged d upTo) ids s).trans (found j (List.mem_cons_of_mem i hj))
    refine ⟨?_, fun n => ?_⟩
    · rw [List.foldl_cons, rest.insts, step, List.map_map]
      refine List.map_congr_left (fun j _ => ?_)
      dsimp only [Function.comp_apply]
      by_cases here : j.id = i.id
      · have later : ¬ (gapCharged d upTo j).id ∈ is.map (fun i => i.id) := by
          rw [ids, here]
          exact first
        have among : j.id ∈ (i :: is).map (fun i => i.id) := by
          rw [here]
          exact List.mem_cons_self
        rw [if_pos here, if_neg later, if_pos among]
      · have among : j.id ∈ (i :: is).map (fun i => i.id) ↔ j.id ∈ is.map (fun i => i.id) := by simp [here]
        rw [if_neg here]
        simp only [among]
    · rw [List.foldl_cons, rest.noted, one.noted, or_assoc]
      simp only [List.mem_cons, List.not_mem_nil, or_false, exists_eq_left, exists_eq_or_imp]

end Charges

/-! ## The whole closing (R159, R172) -/

section Closing

variable {t : Tuner} {d : Nat} {s : State}

/-- A pick from a list is of the list, and fails on the empty one alone. -/
theorem freePickOf_mem {key n : Nat} {ks : List Nat} (h : freePickOf key ks = some n) : n ∈ ks := by
  match ks with
  | [] => exact nomatch h
  | [x] =>
    obtain rfl := Option.some.inj h
    exact List.mem_singleton_self _
  | x :: y :: zs =>
    have short : Config.freePick key % (zs.length + 2) < (x :: y :: zs).length := Nat.mod_lt _ (Nat.succ_pos _)
    have at_place : (x :: y :: zs).getD (Config.freePick key % (zs.length + 2)) x = n := Option.some.inj h
    rw [← at_place, List.getD_eq_getElem _ _ short]
    exact List.getElem_mem short

theorem freePickOf_none {key : Nat} {ks : List Nat} (h : freePickOf key ks = none) : ks = [] := by
  match ks with
  | [] => rfl
  | [_] => exact nomatch h
  | _ :: _ :: _ => exact nomatch h

theorem mem_recordingOn_iff {i : Inst} : i ∈ recordingOn t s ↔ i ∈ s.lst.insts ∧ RecordingOn t i := by
  rw [recordingOn, mem_sortBy, List.mem_filter]
  simp [RecordingOn]

theorem recordingOn_nodup (hD : DistinctIds s) : ((recordingOn t s).map (fun i => i.id)).Nodup :=
  (((sortBy_perm _ _).map _).nodup_iff).mpr (hD.sublist (List.filter_sublist.map _))

/-- The recordings of a state from which those of a tuner have been charged (R159). -/
def gapClosed (t : Tuner) (f : Inst → Inst) (s : State) : State :=
  { s with
    lst := { s.lst with insts := s.lst.insts.map f }
    run := (withTuner t (fun r => { r with drop := none, charged := [] }) s).run
    clk := { s.clk with dues := duesWithout (.abandon t) s }
    free := s.free + 1 }

/-- A gap is closed: the charges, the counter, and then the condition that names one that was charged. -/
theorem closeGap_eq (t : Tuner) (s : State) : ∃ f named, (∀ i, uncharged (f i) = uncharged i) ∧
    closeGap t s = submit (signalGap t named) (gapAdvanced t (gapClosed t f s)) ∧
    (∀ d, (tunerRun t s).drop = some d → DistinctIds s →
      s.lst.insts.map f = s.lst.insts.map (fun i => if RecordingOn t i then gapCharged d (monTime s) i else i) ∧
      NamesCharged t d (monTime s) s named) := by
  let x := (recordingOn t s).foldl (fun u i => chargeGap t (monTime s) i.id u) s
  obtain ⟨f, hf, lst⟩ := chargeGaps_frame t (monTime s) (recordingOn t s) s
  obtain ⟨cs, run⟩ := chargeGaps_run t (monTime s) (recordingOn t s) s
  have rest : x = { s with lst := x.lst, run := x.run } := by
    have clk : x.clk = s.clk := foldl_keeps State.clk _ (fun u i => chargeGap_clk ..) _ s
    have gst : x.gst = s.gst := foldl_keeps State.gst _ (fun u i => chargeGap_gst ..) _ s
    have bkt : x.bkt = s.bkt := foldl_keeps State.bkt _ (fun u i => chargeGap_bkt ..) _ s
    have pln : x.pln = s.pln := foldl_keeps State.pln _ (fun u i => chargeGap_pln ..) _ s
    have cnd : x.cnd = s.cnd := foldl_keeps State.cnd _ (fun u i => chargeGap_cnd ..) _ s
    have wsv : x.wsv = s.wsv := foldl_keeps State.wsv _ (fun u i => chargeGap_wsv ..) _ s
    have lnk : x.lnk = s.lnk := foldl_keeps State.lnk _ (fun u i => chargeGap_lnk ..) _ s
    have free : x.free = s.free := foldl_keeps State.free _ (fun u i => chargeGap_free ..) _ s
    have pending : x.pending = s.pending := foldl_keeps State.pending _ (fun u i => chargeGap_pending ..) _ s
    rw [← clk, ← gst, ← bkt, ← pln, ← cnd, ← wsv, ← lnk, ← free, ← pending]
  refine ⟨f, freePickOf x.free (tunerRun t x).charged, hf, ?_, fun d hd hD => ?_⟩
  · have made : withdrawDue (.abandon t) (modTuner t (fun r => { r with drop := none, charged := [] }) (bumpFree x)) =
        gapClosed t f s := by
      rw [rest, show x.lst = _ from lst, show x.run = _ from run]
      cases t
      · rfl
      · rfl
    rw [← advanceGap_eq, ← made]
    rfl
  · have charges : Charges t d (monTime s) (recordingOn t s) s x :=
      chargeGaps_charges hD hd (recordingOn_nodup hD) (fun i hi => findInst_of_mem hD (mem_recordingOn_iff.mp hi).1)
    have among (i : Inst) (hi : i ∈ s.lst.insts) : i.id ∈ (recordingOn t s).map (fun i => i.id) ↔ RecordingOn t i := by
      rw [List.mem_map]
      constructor
      · rintro ⟨j, hj, same⟩
        obtain ⟨held, on⟩ := mem_recordingOn_iff.mp hj
        rwa [← mem_eq_of_findInst hD (findInst_of_mem hD hi) held same]
      · exact fun on => ⟨i, mem_recordingOn_iff.mpr ⟨hi, on⟩, rfl⟩
    have charged (n : Nat) : n ∈ (tunerRun t x).charged ↔ n ∈ (tunerRun t s).charged ∨
        ∃ i ∈ s.lst.insts, i.id = n ∧ RecordingOn t i ∧ gapShare d (monTime s) i ≠ 0 := by
      rw [charges.noted]
      refine or_congr_right (exists_congr (fun i => ?_))
      rw [mem_recordingOn_iff]
      tauto
    refine ⟨?_, fun n named => (charged n).mp (freePickOf_mem named), fun none n => ?_⟩
    · have mapped : x.lst.insts = s.lst.insts.map f := congrArg InstanceList.insts lst
      rw [← mapped, charges.insts]
      exact List.map_congr_left (fun i hi => if_congr (among i hi) rfl rfl)
    · refine fun hn => ?_
      have held := (charged n).mpr hn
      rw [freePickOf_none none] at held
      exact List.not_mem_nil held

end Closing

end Sys2Proof.Machine

/-! PROOFS. The lock monitor: its grace end and its ticks, with the closing of a gap (R157 to R159). -/

namespace Sys2Proof.Machine

-- one theorem after another: many at a time would want a thread each
set_option Elab.async false

open Sys2Proof

/-! ## The end of an event whose summaries come out the same (R82, R191, R204) -/

section Outputs

variable {s x : State}

/-- With as many recordings running and the same earliest planned window start, standby is not retested. -/
theorem settleOutputs_unchanged (hS : Settled s) (running : runningCount x = runningCount s)
    (planned : earliestPlanned x = earliestPlanned s) :
    (settleOutputs s x).lnk =
      { x.lnk with actionSet := actionIds x, attn := !x.lnk.notices.isEmpty || !(actionIds x).isEmpty } ∧
    (settleOutputs s x).wsv = x.wsv := by
  obtain ⟨earliest, -⟩ := hS
  have unchanged : (runningCount s != runningCount (handSummaries (placeTerminals x)) ||
      s.lst.earliest != (handSummaries (placeTerminals x)).lst.earliest) = false := by
    have count : runningCount (handSummaries (placeTerminals x)) = runningCount x := rfl
    have first : (handSummaries (placeTerminals x)).lst.earliest = earliestPlanned x := rfl
    rw [count, first, running, planned, earliest, bne_self_eq_false, bne_self_eq_false]
    rfl
  have quiet (u : State) : retestStandby false u = u := if_neg (fun h => Bool.false_ne_true h.1)
  unfold settleOutputs
  dsimp only
  rw [unchanged, quiet, beginPass_lnk, beginPass_wsv, setAttention_wsv, setAttention, modLnk_lnk, syncWake_lnk, syncWake_wsv]
  exact ⟨rfl, rfl⟩

/-- Nothing that the end of an event looks at has changed: it settles nothing. -/
theorem settle_still (hS : Settled s) (lst : x.lst = s.lst) (active : ∀ t, (tunerRun t x).active = (tunerRun t s).active)
    (claims : x.run.claims = s.run.claims) (wsv : x.wsv = s.wsv) (due : heldDue .wakeDue x = heldDue .wakeDue s)
    (lnk : x.lnk = s.lnk) (pln : x.pln = s.pln) (cstate : x.clk.cstate = s.clk.cstate) : settle s x = x := by
  have target : wakeTarget x = wakeTarget s :=
    wakeTarget_of_fields (congrArg (fun l => l.earliest) lst) (congrArg (fun w => w.host) wsv)
      (congrArg (fun w => w.silentFloor) wsv) (congrArg (fun w => w.wakeLead) wsv)
  have wake : (heldDue .wakeDue x).map (fun d => d.time) = wakeTarget x := by
    obtain ⟨-, -, -, wake, -⟩ := hS
    rw [due, target, wake]
  have stands : withAttn x = x := withAttn_same hS (by rw [lnk]) (by rw [lnk]) (by rw [lnk])
  rw [settle, retryStarts_same_waits (active .a) (active .b) claims, settleOutputs_wake hS lst wake (by rw [lnk]), stands]
  exact beginPass_settled s x hS pln cstate

end Outputs

/-! ## An event that touches one monitor alone -/

theorem otherTuner_ne (t : Tuner) : otherTuner t ≠ t := by
  cases t
  · exact nofun
  · exact nofun

theorem eq_or_eq_otherTuner (y t : Tuner) : y = t ∨ y = otherTuner t := by
  cases y
  all_goals cases t
  · exact .inl rfl
  · exact .inr rfl
  · exact .inr rfl
  · exact .inl rfl

/-- Beside delays, requests and the time within the second, only the monitor of one tuner has changed. -/
structure OnlyMonitor (t : Tuner) (s x : State) : Prop where
  lst : x.lst = s.lst
  lnk : x.lnk = s.lnk
  pln : x.pln = s.pln
  cnd : x.cnd = s.cnd
  bkt : x.bkt = s.bkt
  gst : x.gst = s.gst
  wsv : x.wsv = s.wsv
  claims : x.run.claims = s.run.claims
  other : tunerRun (otherTuner t) x = tunerRun (otherTuner t) s
  active : (tunerRun t x).active = (tunerRun t s).active
  time : x.clk.count = s.clk.count ∧ x.clk.cstate = s.clk.cstate
  wake : heldDue .wakeDue x = heldDue .wakeDue s

section Monitor

variable {t : Tuner} {s v x : State}

theorem OnlyMonitor.refl (t : Tuner) (s : State) : OnlyMonitor t s s :=
  ⟨rfl, rfl, rfl, rfl, rfl, rfl, rfl, rfl, rfl, rfl, ⟨rfl, rfl⟩, rfl⟩

theorem OnlyMonitor.trans (h : OnlyMonitor t s v) (g : OnlyMonitor t v x) : OnlyMonitor t s x := by
  obtain ⟨count, cstate⟩ := h.time
  obtain ⟨count', cstate'⟩ := g.time
  exact ⟨g.lst.trans h.lst, g.lnk.trans h.lnk, g.pln.trans h.pln, g.cnd.trans h.cnd, g.bkt.trans h.bkt,
    g.gst.trans h.gst, g.wsv.trans h.wsv, g.claims.trans h.claims, g.other.trans h.other, g.active.trans h.active,
    ⟨count'.trans count, cstate'.trans cstate⟩, g.wake.trans h.wake⟩

theorem modTuner_only (t : Tuner) (f : TunerRun → TunerRun) (hf : ∀ r, (f r).active = r.active) (s : State) :
    OnlyMonitor t s (modTuner t f s) := by
  refine ⟨modTuner_lst .., modTuner_lnk .., modTuner_pln .., modTuner_cnd .., modTuner_bkt .., modTuner_gst ..,
    modTuner_wsv .., modTuner_claims .., tunerRun_modTuner_other (otherTuner_ne t) f s, ?_, ?_, ?_⟩
  · rw [tunerRun_modTuner_same, hf]
  · rw [modTuner_clk]
    exact ⟨rfl, rfl⟩
  · exact heldDue_of_clk (modTuner_clk ..) _

theorem startDelay_only (t : Tuner) (k : DelayKind) (n : Nat) (s : State) : OnlyMonitor t s (startDelay k n s) :=
  ⟨rfl, rfl, rfl, rfl, rfl, rfl, rfl, rfl, rfl, rfl, ⟨rfl, rfl⟩, rfl⟩

theorem requestDue_only (t : Tuner) {k : DueKind} (h : k ≠ .wakeDue) (n : Nat) (s : State) :
    OnlyMonitor t s (requestDue k n s) :=
  ⟨rfl, rfl, rfl, rfl, rfl, rfl, rfl, rfl, rfl, rfl, ⟨rfl, rfl⟩, heldDue_requestDue_other h.symm n s⟩

theorem withdrawDue_only (t : Tuner) {k : DueKind} (h : k ≠ .wakeDue) (s : State) : OnlyMonitor t s (withdrawDue k s) :=
  ⟨rfl, rfl, rfl, rfl, rfl, rfl, rfl, rfl, rfl, rfl, ⟨rfl, rfl⟩, heldDue_withdrawDue_other h.symm s⟩

theorem OnlyMonitor.settles (h : OnlyMonitor t s x) (hS : Settled s) : settle s x = x := by
  refine settle_still hS h.lst (fun y => ?_) h.claims h.wsv h.wake h.lnk h.pln h.time.2
  obtain rfl | rfl := eq_or_eq_otherTuner y t
  · exact h.active
  · rw [h.other]

end Monitor

/-! ## The grace end (R157) -/

section Grace

variable {t : Tuner} {s : State}

theorem recordingOn_isEmpty : (recordingOn t s).isEmpty = true ↔ ∀ i ∈ s.lst.insts, ¬ RecordingOn t i := by
  rw [List.isEmpty_iff, List.eq_nil_iff_forall_not_mem]
  simp only [mem_recordingOn_iff, not_and]

theorem takeGraceEnd_watching (h : ∃ i ∈ s.lst.insts, RecordingOn t i) : takeGraceEnd t s =
    startDelay (.lockTick t) Config.tickUnits (modTuner t (fun r => { r with mon := .watching, grace := none }) s) := by
  obtain ⟨i, hi, on⟩ := h
  exact if_neg (fun empty => recordingOn_isEmpty.mp empty i hi on)

theorem takeGraceEnd_off (h : ∀ i ∈ s.lst.insts, ¬ RecordingOn t i) :
    takeGraceEnd t s = modTuner t (fun r => { r with grace := none }) s := if_pos (recordingOn_isEmpty.mpr h)

end Grace

/-! ## The ticks that close no gap (R158) -/

section Ticks

variable {t : Tuner} {locked : Bool} {s : State}

theorem restartTick_only (t : Tuner) (s : State) : OnlyMonitor t s (restartTick t s) := by
  unfold restartTick
  split
  · exact .refl t s
  · exact startDelay_only t _ _ s

theorem restartTick_run (t : Tuner) (s : State) : (restartTick t s).run = s.run := by
  unfold restartTick
  split
  · rfl
  · rfl

theorem restartTick_delay (h : (tunerRun t s).mon ≠ .off) : heldDelay (.lockTick t) (restartTick t s) =
    some { kind := .lockTick t, left := Config.tickUnits } := by
  rw [restartTick, if_neg h]
  exact heldDelay_startDelay_same _ _ s

theorem restartTick_dues (t : Tuner) (s : State) (k : DueKind) : heldDue k (restartTick t s) = heldDue k s := by
  unfold restartTick
  split
  · rfl
  · rfl

theorem declareGap_only (t : Tuner) (n : Nat) (s : State) : OnlyMonitor t s (declareGap t n s) :=
  (modTuner_only t _ (by exact fun _ => rfl) s).trans (requestDue_only t (k := .abandon t) nofun _ _)

/-- A tick that closes no gap touches the monitor alone. -/
theorem monitorTick_only (h : ¬ ((tunerRun t s).mon = .gap ∧ locked = true)) :
    OnlyMonitor t s (monitorTick t locked s) := by
  unfold monitorTick
  split
  · exact .refl t s
  · exact .refl t s
  · exact modTuner_only t _ (by exact fun _ => rfl) s
  · exact modTuner_only t _ (by exact fun _ => rfl) s
  · split
    · exact declareGap_only t _ s
    · exact modTuner_only t _ (by exact fun _ => rfl) s
  · exact .refl t s
  · rename_i gap
    exact absurd ⟨gap, rfl⟩ h

theorem monitorTick_watching (h : (tunerRun t s).mon = .watching) : monitorTick t true s = s := by
  unfold monitorTick
  rw [h]

theorem monitorTick_drops (h : (tunerRun t s).mon = .watching) : monitorTick t false s =
    modTuner t (fun r => { r with mon := .dropping, drop := some (monTime s), tol := s.run.gapTol }) s := by
  unfold monitorTick
  rw [h]

theorem monitorTick_recovers (h : (tunerRun t s).mon = .dropping) : monitorTick t true s =
    modTuner t (fun r => { r with mon := .watching, drop := none }) s := by
  unfold monitorTick
  rw [h]

theorem monitorTick_tolerates (h : (tunerRun t s).mon = .dropping) (tol : 2 ≤ (tunerRun t s).tol) :
    monitorTick t false s = modTuner t (fun r => { r with tol := r.tol - 1 }) s := by
  unfold monitorTick
  rw [h]
  exact if_neg (by omega)

theorem monitorTick_declares {n : Nat} (h : (tunerRun t s).mon = .dropping) (tol : (tunerRun t s).tol ≤ 1)
    (drop : (tunerRun t s).drop = some n) : monitorTick t false s = declareGap t n s := by
  unfold monitorTick
  rw [h, drop]
  exact if_pos tol

theorem monitorTick_gap (h : (tunerRun t s).mon = .gap) : monitorTick t false s = s := by
  unfold monitorTick
  rw [h]

theorem monitorTick_closes (h : (tunerRun t s).mon = .gap) : monitorTick t true s =
    modTuner t (fun r => { r with mon := .watching }) (closeGap t s) := by
  unfold monitorTick
  rw [h]

/-- Only an OFF monitor is OFF after a tick. -/
theorem monitorTick_on (h : (tunerRun t s).mon ≠ .off) : (tunerRun t (monitorTick t locked s)).mon ≠ .off := by
  unfold monitorTick
  split
  · rename_i off
    exact absurd off h
  · exact h
  · rw [tunerRun_modTuner_same]
    exact nofun
  · rw [tunerRun_modTuner_same]
    exact nofun
  · split
    · have run : tunerRun t (declareGap t ((tunerRun t s).drop.getD (monTime s)) s) =
          { tunerRun t s with mon := .gap, tol := 0 } := tunerRun_modTuner_same t _ s
      rw [run]
      exact nofun
    · rw [tunerRun_modTuner_same]
      exact h
  · exact h
  · rw [tunerRun_modTuner_same]
    exact nofun

end Ticks

/-! ## The tick that closes a gap (R159) -/

section Closing

variable {t : Tuner} {f : Inst → Inst} {named : Option Nat} {s z : State}

/-- What the closing of a gap leaves. -/
structure GapClosed (t : Tuner) (f : Inst → Inst) (named : Option Nat) (s z : State) : Prop where
  kept : ∀ i, uncharged (f i) = uncharged i
  lst : z.lst = { s.lst with insts := s.lst.insts.map f }
  run : z.run = (modTuner t (fun r => { r with drop := none, charged := [] }) s).run
  gst : z.gst = s.gst
  bkt : z.bkt = s.bkt
  pln : z.pln = s.pln
  wsv : z.wsv = s.wsv
  clk : z.clk = { s.clk with dues := duesWithout (.abandon t) s }
  log : SameLog z (submit (signalGap t named) (gapAdvanced t s))

theorem closeGap_closed (t : Tuner) (s : State) : ∃ f named, GapClosed t f named s (closeGap t s) ∧
    (∀ d, (tunerRun t s).drop = some d → DistinctIds s →
      s.lst.insts.map f = s.lst.insts.map (fun i => if RecordingOn t i then gapCharged d (monTime s) i else i) ∧
      NamesCharged t d (monTime s) s named) := by
  obtain ⟨f, named, kept, e, strong⟩ := closeGap_eq t s
  let y := gapClosed t f s
  have same : SameLog y s := ⟨rfl, rfl, rfl⟩
  refine ⟨f, named, ?_, strong⟩
  rw [e]
  refine ⟨kept, ?_, ?_, ?_, ?_, ?_, ?_, ?_, (same.advanced t).submit _⟩
  · rw [submit_lst, ← advanceGap_eq, advanceGap_lst]
    rfl
  · rw [submit_run, ← advanceGap_eq, advanceGap_run]
    cases t
    · rfl
    · rfl
  · rw [submit_gst, ← advanceGap_eq, advanceGap_gst]
    rfl
  · rw [submit_bkt, ← advanceGap_eq, advanceGap_bkt]
    rfl
  · rw [submit_pln, ← advanceGap_eq, advanceGap_pln]
    rfl
  · rw [submit_wsv, ← advanceGap_eq, advanceGap_wsv]
    rfl
  · rw [submit_clk, ← advanceGap_eq, advanceGap_clk]
    rfl

theorem GapClosed.tuner (g : GapClosed t f named s z) :
    tunerRun t z = { tunerRun t s with drop := none, charged := [] } := by
  rw [tunerRun_of_run g.run, tunerRun_modTuner_same]

theorem GapClosed.other (g : GapClosed t f named s z) : tunerRun (otherTuner t) z = tunerRun (otherTuner t) s := by
  rw [tunerRun_of_run g.run, tunerRun_modTuner_other (otherTuner_ne t)]

/-- A charge writes neither id, nor state, nor tuner, nor window. -/
theorem inner_of_uncharged {i j : Inst} (h : uncharged j = uncharged i) :
    j.id = i.id ∧ j.state = i.state ∧ j.tuner = i.tuner ∧ j.window = i.window := by
  refine ⟨?_, ?_, ?_, ?_⟩
  · show (uncharged j).id = (uncharged i).id
    rw [h]
  · show (uncharged j).state = (uncharged i).state
    rw [h]
  · show (uncharged j).tuner = (uncharged i).tuner
    rw [h]
  · show (uncharged j).window = (uncharged i).window
    rw [h]

theorem namesCharged_congr {d n : Nat} {u : State} (charged : (tunerRun t u).charged = (tunerRun t s).charged)
    (lst : u.lst = s.lst) (h : NamesCharged t d n u named) : NamesCharged t d n s named := by
  unfold NamesCharged at h ⊢
  rw [charged, lst] at h
  exact h

end Closing

/-! ## The two events -/

/-- The state in which a tick samples the lock input. -/
def sampled (t : Tuner) (locked : Bool) (v : State) : State := modTuner t (fun r => { r with lockPin := locked }) v

section Events

variable {t : Tuner} {locked : Bool} {d : DelayReq} {s : State}

/-- The state in which the tick delay has been taken. -/
def ticked (t : Tuner) (d : DelayReq) (s : State) : State :=
  cancelDelay (.lockTick t) (modClk (fun c =>
    { c with sub := c.sub + d.left, delays := c.delays.map (fun x => { x with left := x.left - d.left }) }) s)

theorem execLockMonitorTick_taken (hd : heldDelay (.lockTick t) s = some d)
    (within : s.clk.sub + d.left < Config.unitsPerSecond) : exec (.lockMonitorTick t locked) s =
      .next (settle s (restartTick t (monitorTick t locked (sampled t locked (ticked t d s))))) :=
  congrArg Host.Outcome.next (onDelay_taken (takeDelay_within hd within))

theorem ticked_only (t : Tuner) (d : DelayReq) (s : State) : OnlyMonitor t s (ticked t d s) :=
  ⟨rfl, rfl, rfl, rfl, rfl, rfl, rfl, rfl, rfl, rfl, ⟨rfl, rfl⟩, rfl⟩

theorem sampled_only (t : Tuner) (locked : Bool) (s : State) : OnlyMonitor t s (sampled t locked s) :=
  modTuner_only t _ (by exact fun _ => rfl) s

theorem sampled_tuner (t : Tuner) (locked : Bool) (s : State) :
    tunerRun t (sampled t locked s) = { tunerRun t s with lockPin := locked } := tunerRun_modTuner_same t _ s

theorem sampled_clk (t : Tuner) (locked : Bool) (s : State) : (sampled t locked s).clk = s.clk := modTuner_clk t _ s

theorem sampled_gapTol (t : Tuner) (locked : Bool) (s : State) : (sampled t locked s).run.gapTol = s.run.gapTol :=
  modTuner_gapTol t _ s

theorem sampled_abandonLimit (t : Tuner) (locked : Bool) (s : State) :
    (sampled t locked s).run.abandonLimit = s.run.abandonLimit := modTuner_abandonLimit t _ s

end Events

end Sys2Proof.Machine

/-! PROOFS. What the lock monitor does at the grace end and at a tick (R157 to R159). -/

namespace Sys2Proof.Machine

-- one theorem after another: many at a time would want a thread each
set_option Elab.async false

open Sys2Proof

/-! ## The outputs of an event that closes a gap -/

/-- Charges move no recording between the states: the counts stay, so of the Link Port the attention output alone follows
the notices. -/
theorem settleOutputs_charged {t : Tuner} {f : Inst → Inst} {named : Option Nat} {s x : State} (hS : Settled s)
    (kept : ∀ i, uncharged (f i) = uncharged i) (insts : x.lst.insts = s.lst.insts.map f)
    (lnk : x.lnk = (submit (signalGap t named) (gapAdvanced t s)).lnk) :
    (settleOutputs s x).lnk = (withAttn (submit (signalGap t named) (gapAdvanced t s))).lnk ∧
    (settleOutputs s x).wsv = x.wsv := by
  have inner (i : Inst) := inner_of_uncharged (kept i)
  obtain ⟨running, planned, actions⟩ :=
    summaries_of_map insts (fun i => (inner i).2.1) (fun i => (inner i).1) (fun i => (inner i).2.2.2)
  obtain ⟨e, wsv⟩ := settleOutputs_unchanged hS running planned
  refine ⟨?_, wsv⟩
  obtain ⟨ns, o, grown⟩ := (gapAdvanced_noticesOnly t s).trans (submit_noticesOnly (signalGap t named) _)
  obtain ⟨-, set, -⟩ := hS
  have stands : (submit (signalGap t named) (gapAdvanced t s)).lnk.actionSet = actionIds x := by
    rw [grown, actions, ← set]
  rw [e, lnk, withAttn, attnOf, stands, ← stands]

/-! ## The grace end -/

section Grace

variable {t : Tuner} {s : State}

theorem withTuner_eq (t : Tuner) (f : TunerRun → TunerRun) (s : State) : withTuner t f s = modTuner t f s := by
  cases t
  · rfl
  · rfl

theorem execLockGraceEnd_delivered (due : Delivered (.graceEnd t) s) :
    exec (.lockGraceEnd t) s = .next (settle s (takeGraceEnd t (withdrawDue (.graceEnd t) s))) :=
  congrArg Host.Outcome.next (onDue_taken (takeDue_delivered due))

theorem lockGraceEnd_acts (hS : Settled s) (due : Delivered (.graceEnd t) s) :
    ((∃ i ∈ s.lst.insts, RecordingOn t i) → ∃ u, exec (.lockGraceEnd t) s = .next u ∧
      u.run = (withTuner t (fun r => { r with mon := .watching, grace := none }) s).run ∧
      heldDelay (.lockTick t) u = some { kind := .lockTick t, left := Config.tickUnits } ∧
      u = { s with run := u.run, clk := { s.clk with dues := duesWithout (.graceEnd t) s, delays := u.clk.delays } }) ∧
    ((∀ i ∈ s.lst.insts, ¬ RecordingOn t i) →
      exec (.lockGraceEnd t) s = .next (withoutDue (.graceEnd t) (withTuner t (fun r => { r with grace := none }) s))) := by
  let v := withdrawDue (.graceEnd t) s
  have begun : OnlyMonitor t s v := withdrawDue_only t (k := .graceEnd t) nofun s
  have taken : exec (.lockGraceEnd t) s = .next (settle s (takeGraceEnd t v)) := execLockGraceEnd_delivered due
  rw [taken]
  refine ⟨fun watched => ?_, fun idle => ?_⟩
  · have turned := begun.trans (modTuner_only t (fun r => { r with mon := .watching, grace := none }) (fun _ => rfl) _)
    rw [takeGraceEnd_watching (s := v) watched, (turned.trans (startDelay_only t _ _ _)).settles hS]
    refine ⟨_, rfl, ?_, heldDelay_startDelay_same _ _ _, ?_⟩
    · cases t
      · rfl
      · rfl
    · cases t
      · rfl
      · rfl
  · have turned := begun.trans (modTuner_only t (fun r => { r with grace := none }) (fun _ => rfl) _)
    rw [takeGraceEnd_off (s := v) idle, turned.settles hS, withTuner_eq]
    cases t
    · rfl
    · rfl

end Grace

/-! ## The ticks -/

section Ticks

variable {t : Tuner} {locked : Bool} {d : DelayReq} {s v : State}

/-- The state at which a tick acts: the delay is taken and the lock input is sampled. -/
structure AtTick (t : Tuner) (locked : Bool) (d : DelayReq) (s v : State) : Prop where
  only : OnlyMonitor t s v
  tuner : tunerRun t v = { tunerRun t s with lockPin := locked }
  time : monTime v = 10 * s.clk.count + 10 * (s.clk.sub + d.left) / Config.unitsPerSecond
  tolerance : v.run.gapTol = s.run.gapTol
  limit : v.run.abandonLimit = s.run.abandonLimit

theorem sampled_atTick (t : Tuner) (locked : Bool) (d : DelayReq) (s : State) :
    AtTick t locked d s (sampled t locked (ticked t d s)) where
  only := (ticked_only t d s).trans (sampled_only t locked _)
  tuner := sampled_tuner t locked _
  time := by
    rw [monTime, sampled_clk]
    rfl
  tolerance := sampled_gapTol t locked _
  limit := sampled_abandonLimit t locked _

theorem AtTick.mon (h : AtTick t locked d s v) : (tunerRun t v).mon = (tunerRun t s).mon := by rw [h.tuner]

theorem tunerRun_restartTick (x t : Tuner) (s : State) : tunerRun x (restartTick t s) = tunerRun x s :=
  tunerRun_of_run (restartTick_run t s) x

theorem tunerRun_declareGap (t : Tuner) (n : Nat) (s : State) :
    tunerRun t (declareGap t n s) = { tunerRun t s with mon := .gap, tol := 0 } := tunerRun_modTuner_same t _ s

theorem heldDue_declareGap (t : Tuner) (n : Nat) (s : State) :
    (heldDue (.abandon t) (declareGap t n s)).map (fun x => x.time) = some (n / 10 + s.run.abandonLimit) := by
  rw [declareGap, heldDue_requestDue_same]
  rfl

/-- A tick that closes no gap leaves the events that stand to `monitorTick`, and settles nothing (R158). -/
theorem lockMonitorTick_open (hS : Settled s) (hd : heldDelay (.lockTick t) s = some d)
    (within : s.clk.sub + d.left < Config.unitsPerSecond) (still : ¬ ((tunerRun t s).mon = .gap ∧ locked = true)) :
    ∃ v, AtTick t locked d s v ∧ OnlyMonitor t s (restartTick t (monitorTick t locked v)) ∧
      exec (.lockMonitorTick t locked) s = .next (restartTick t (monitorTick t locked v)) := by
  let v := sampled t locked (ticked t d s)
  have h : AtTick t locked d s v := sampled_atTick t locked d s
  have still : ¬ ((tunerRun t v).mon = .gap ∧ locked = true) := by rwa [h.tuner]
  have only := (h.only.trans (monitorTick_only still)).trans (restartTick_only t _)
  refine ⟨v, h, only, ?_⟩
  rw [execLockMonitorTick_taken hd within, only.settles hS]

/-- What a tick that closes a gap leaves before the outputs settle. -/
structure ClosingTick (t : Tuner) (f : Inst → Inst) (named : Option Nat) (s x : State) : Prop where
  kept : ∀ i, uncharged (f i) = uncharged i
  insts : x.lst.insts = s.lst.insts.map f
  tuner : tunerRun t x = { tunerRun t s with lockPin := true, mon := .watching, drop := none, charged := [] }
  other : tunerRun (otherTuner t) x = tunerRun (otherTuner t) s
  claims : x.run.claims = s.run.claims
  delay : heldDelay (.lockTick t) x = some { kind := .lockTick t, left := Config.tickUnits }
  abandon : heldDue (.abandon t) x = none
  time : x.clk.count = s.clk.count ∧ x.clk.cstate = s.clk.cstate
  log : SameLog x (submit (signalGap t named) (gapAdvanced t s))
  pln : x.pln = s.pln
  bkt : x.bkt = s.bkt
  gst : x.gst = s.gst
  wsv : x.wsv = s.wsv

theorem GapClosed.closingTick {f : Inst → Inst} {named : Option Nat} {z : State} (g : GapClosed t f named v z)
    (h : AtTick t true d s v) : ClosingTick t f named s
      (startDelay (.lockTick t) Config.tickUnits (modTuner t (fun r => { r with mon := .watching }) z)) := by
  let y := modTuner t (fun r => { r with mon := .watching }) z
  have clk : y.clk = (withdrawDue (.abandon t) v).clk := (modTuner_clk ..).trans g.clk
  have time : y.clk.count = s.clk.count ∧ y.clk.cstate = s.clk.cstate := by
    rw [clk]
    exact h.only.time
  have same : SameLog v s := ⟨h.only.cnd, h.only.lnk, h.only.time.1⟩
  have log := g.log.trans ((same.advanced t).submit _)
  refine ⟨g.kept, ?_, ?_, ?_, ?_, heldDelay_startDelay_same .., ?_, time, ⟨?_, ?_, ?_⟩, ?_, ?_, ?_, ?_⟩
  · show y.lst.insts = _
    rw [modTuner_lst, g.lst, h.only.lst]
  · show tunerRun t y = _
    rw [tunerRun_modTuner_same, g.tuner, h.tuner]
  · show tunerRun _ y = _
    rw [tunerRun_modTuner_other (otherTuner_ne t), g.other, h.only.other]
  · show y.run.claims = _
    rw [modTuner_claims, g.run, modTuner_claims, h.only.claims]
  · exact (heldDue_of_clk clk _).trans (heldDue_withdrawDue_same _ v)
  · exact (modTuner_cnd ..).trans log.cnd
  · exact (modTuner_lnk ..).trans log.lnk
  · refine Eq.trans ?_ log.count
    exact congrArg (fun c => c.count) (modTuner_clk t _ z)
  · exact (modTuner_pln ..).trans (g.pln.trans h.only.pln)
  · exact (modTuner_bkt ..).trans (g.bkt.trans h.only.bkt)
  · exact (modTuner_gst ..).trans (g.gst.trans h.only.gst)
  · exact (modTuner_wsv ..).trans (g.wsv.trans h.only.wsv)

/-- A tick that closes a gap (R159). -/
theorem lockMonitorTick_closes (hd : heldDelay (.lockTick t) s = some d)
    (within : s.clk.sub + d.left < Config.unitsPerSecond) (gap : (tunerRun t s).mon = .gap) :
    ∃ f named x, ClosingTick t f named s x ∧ exec (.lockMonitorTick t true) s = .next (settleOutputs s x) ∧
      (∀ n, (tunerRun t s).drop = some n → DistinctIds s →
        let time := 10 * s.clk.count + 10 * (s.clk.sub + d.left) / Config.unitsPerSecond
        s.lst.insts.map f = s.lst.insts.map (fun i => if RecordingOn t i then gapCharged n time i else i) ∧
        NamesCharged t n time s named) := by
  let v := sampled t true (ticked t d s)
  have h : AtTick t true d s v := sampled_atTick t true d s
  obtain ⟨f, named, g, charges⟩ := closeGap_closed t v
  let watching := modTuner t (fun r => { r with mon := .watching }) (closeGap t v)
  let x := startDelay (.lockTick t) Config.tickUnits watching
  have c : ClosingTick t f named s x := g.closingTick h
  refine ⟨f, named, x, c, ?_, fun n drop distinct => ?_⟩
  · have on : (tunerRun t watching).mon ≠ .off := by
      rw [tunerRun_modTuner_same]
      exact nofun
    have acts : restartTick t (monitorTick t true v) = x := by
      rw [monitorTick_closes (h.mon.trans gap)]
      exact if_neg on
    have active (y : Tuner) : (tunerRun y x).active = (tunerRun y s).active := by
      obtain rfl | rfl := eq_or_eq_otherTuner y t
      · rw [c.tuner]
      · rw [c.other]
    rw [execLockMonitorTick_taken hd within, acts, settle, retryStarts_same_waits (active .a) (active .b) c.claims]
  · obtain ⟨charged, names⟩ := charges n (by rwa [h.tuner]) (by rwa [DistinctIds, h.only.lst])
    rw [h.only.lst, h.time] at charged
    rw [h.time] at names
    exact ⟨charged, namesCharged_congr (by rw [h.tuner]) h.only.lst names⟩

/-- What the monitor of a tuner is after a tick that has changed it so. -/
theorem AtTick.tunerRun_modTuner {g : TunerRun → TunerRun} (h : AtTick t locked d s v)
    (e : monitorTick t locked v = modTuner t g v) :
    tunerRun t (restartTick t (monitorTick t locked v)) = g { tunerRun t s with lockPin := locked } := by
  rw [tunerRun_restartTick, e, tunerRun_modTuner_same, h.tuner]

theorem AtTick.tunerRun_stands (h : AtTick t locked d s v) (e : monitorTick t locked v = v) :
    tunerRun t (restartTick t (monitorTick t locked v)) = { tunerRun t s with lockPin := locked } := by
  rw [tunerRun_restartTick, e, h.tuner]

/-- The tick delay runs anew (R157). -/
theorem AtTick.tickDelay (h : AtTick t locked d s v) (on : (tunerRun t s).mon ≠ .off) :
    heldDelay (.lockTick t) (restartTick t (monitorTick t locked v)) =
      some { kind := .lockTick t, left := Config.tickUnits } := by
  rw [← h.mon] at on
  exact restartTick_delay (monitorTick_on on)

/-- A drop that outlasts the tolerance is a gap, and its abandonment is due from the drop on (R158, R160). -/
theorem AtTick.declares {n : Nat} (h : AtTick t false d s v) (mon : (tunerRun t s).mon = .dropping)
    (tol : (tunerRun t s).tol ≤ 1) (drop : (tunerRun t s).drop = some n) :
    tunerRun t (restartTick t (monitorTick t false v)) =
      { tunerRun t s with lockPin := false, mon := .gap, tol := 0 } ∧
    (heldDue (.abandon t) (restartTick t (monitorTick t false v))).map (fun x => x.time) =
      some (n / 10 + s.run.abandonLimit) := by
  have e : monitorTick t false v = declareGap t n v :=
    monitorTick_declares (h.mon.trans mon) (by rwa [h.tuner]) (by rwa [h.tuner])
  refine ⟨?_, ?_⟩
  · rw [tunerRun_restartTick, e, tunerRun_declareGap, h.tuner]
  · rw [restartTick_dues, e, heldDue_declareGap, h.limit]

end Ticks

/-- Settles O33: the state at the tick is the one before it but for the delay and the sampled input; each branch of the tick
writes the monitor alone, except the closing of a gap, whose charges and notices are those of `closeGap`. -/
theorem lockMonitorWatches : Obligations.LockMonitorWatches := by
  unfold Obligations.LockMonitorWatches
  refine ⟨fun s t hS due => lockGraceEnd_acts hS due, fun s t low d hS hd within => ?_⟩
  intro r time
  by_cases closing : r.mon = .gap ∧ low = false
  case neg =>
    have still : ¬ (r.mon = .gap ∧ (!low) = true) := by simpa using closing
    obtain ⟨v, h, only, taken⟩ := lockMonitorTick_open hS hd within still
    refine ⟨_, taken, ?_, ?_, ?_, ?_, ?_, ?_, fun gap high => absurd ⟨gap, high⟩ closing, h.tickDelay, only.other,
      only.pln, only.bkt, only.gst, only.wsv, congrArg (fun l => l.tx) only.lnk, only.time.1, by rw [only.lst],
      fun _ gap high => absurd ⟨gap, high⟩ closing, fun _ => ⟨only.lst, only.lnk⟩⟩
    · rintro mon rfl
      exact ⟨h.tunerRun_stands (monitorTick_watching (h.mon.trans mon)), only.cnd⟩
    · rintro mon rfl
      refine ⟨(h.tunerRun_modTuner (monitorTick_drops (h.mon.trans mon))).trans ?_, only.cnd⟩
      rw [h.time, h.tolerance]
      rfl
    · rintro mon rfl
      exact ⟨h.tunerRun_modTuner (monitorTick_recovers (h.mon.trans mon)), only.cnd⟩
    · rintro mon rfl tol
      exact ⟨h.tunerRun_modTuner (monitorTick_tolerates (h.mon.trans mon) (by rwa [h.tuner])), only.cnd⟩
    · rintro n mon rfl tol drop
      obtain ⟨run, due⟩ := h.declares mon tol drop
      exact ⟨run, only.cnd, due⟩
    · rintro mon rfl
      exact ⟨h.tunerRun_stands (monitorTick_gap (h.mon.trans mon)), only.cnd⟩
  case pos =>
    obtain ⟨gap, rfl⟩ := closing
    obtain ⟨f, named, x, c, taken, charges⟩ := lockMonitorTick_closes hd within gap
    have run (y : Tuner) : tunerRun y (settleOutputs s x) = tunerRun y x := tunerRun_of_run (settleOutputs_run ..) y
    have cnd : (settleOutputs s x).cnd = (submit (signalGap t named) (gapAdvanced t s)).cnd :=
      (settleOutputs_cnd ..).trans c.log.cnd
    have insts : (settleOutputs s x).lst.insts = s.lst.insts.map f := (settleOutputs_insts ..).trans c.insts
    obtain ⟨lnk, wsv⟩ := settleOutputs_charged hS c.kept c.insts c.log.lnk
    obtain ⟨count, cstate⟩ := c.time
    refine ⟨_, taken, fun mon => absurd (gap.symm.trans mon) nofun, nofun, fun mon => absurd (gap.symm.trans mon) nofun,
      nofun, nofun, nofun, fun _ _ => ⟨(run t).trans c.tuner, ?_, ?_⟩, fun _ => (settleOutputs_heldDelay ..).trans c.delay,
      (run _).trans c.other, settleOutputs_same_pln hS c.pln cstate, (settleOutputs_bkt ..).trans c.bkt,
      (settleOutputs_gst ..).trans c.gst, wsv.trans c.wsv, ?_, (settleOutputs_count ..).trans count, ?_,
      fun n _ _ drop distinct => ?_, fun still => absurd ⟨gap, rfl⟩ still⟩
    · exact (settleOutputs_heldDue s x (k := .abandon t) nofun).trans c.abandon
    · rw [cnd, submit_gapAt, gapAdvanced_count]
    · obtain ⟨ns, o, e⟩ := (gapAdvanced_noticesOnly t s).trans (submit_noticesOnly (signalGap t named) _)
      rw [settleOutputs_tx, c.log.lnk, e]
    · rw [insts, List.map_map]
      exact List.map_congr_left (fun i _ => c.kept i)
    · obtain ⟨charged, names⟩ := charges n drop distinct
      exact ⟨insts.trans charged, named, names, cnd, lnk⟩

end Sys2Proof.Machine

/-! PROOFS. The abandonment of a tuner in GAP (R160): the gap is closed, and every recording of the tuner is stopped. -/

namespace Sys2Proof.Machine

-- one theorem after another: many at a time would want a thread each
set_option Elab.async false

open Sys2Proof

/-! ## A stop turns no monitor but that of its own tuner (R161) -/

section OtherTuner

variable {t : Tuner} {i : Inst} {reason : StopReason} {k : Nat} {s : State}

theorem monitorCheckOf_other (on : i.tuner = some t) (gap : (tunerRun t s).mon ≠ .gap) :
    tunerRun (otherTuner t) (monitorCheckOf i s) = tunerRun (otherTuner t) s := by
  unfold monitorCheckOf
  rw [on]
  dsimp only
  unfold monitorCheck
  split
  · rfl
  · split
    · rfl
    · exact tunerRun_monitorOff_other gap (otherTuner_ne t)

theorem enterStopping_other (hi : findInst k s = some i) (on : RecordingOn t i) (gap : (tunerRun t s).mon ≠ .gap) :
    tunerRun (otherTuner t) (enterStopping reason k s) = tunerRun (otherTuner t) s := by
  obtain ⟨hr, ht⟩ := on
  have noGap : NoGapOn i s := fun y hy => by
    obtain rfl := Option.some.inj (ht.symm.trans hy)
    exact gap
  rw [enterStopping_eq hi noGap hr, tunerRun_of_run (setDirtyIf_run _ _)]
  exact monitorCheckOf_other (s := stoppingState i reason s) ht gap

end OtherTuner

/-! ## Every recording of the tuner is stopped (R148, R160) -/

/-- One step of the sweep. -/
structure AbandonStep (t : Tuner) (n k : Nat) (s v : State) : Prop where
  move : MoveStep (stopped .abandoned n) (fun _ => false) (fun _ => true) k s v
  lnk : v.lnk = s.lnk
  bkt : v.bkt = s.bkt
  pln : ∃ b, v.pln = dirtied b s.pln
  other : tunerRun (otherTuner t) v = tunerRun (otherTuner t) s

/-- The sweep has these recordings of the tuner before it, and its gap is closed. -/
structure Abandons (t : Tuner) (n : Nat) (ks : List Nat) (s : State) : Prop where
  nodup : ks.Nodup
  distinct : DistinctIds s
  noGap : (tunerRun t s).mon ≠ .gap
  count : s.clk.count = n
  ahead : ∀ k ∈ ks, ∃ i, findInst k s = some i ∧ RecordingOn t i

section Sweep

variable {t : Tuner} {n k : Nat} {ks : List Nat} {s v u : State}

theorem Abandons.step (h : Abandons t n (k :: ks) s) :
    AbandonStep t n k s (enterStopping .abandoned k s) ∧ Abandons t n ks (enterStopping .abandoned k s) := by
  obtain ⟨i, hi, on⟩ := h.ahead k List.mem_cons_self
  obtain ⟨first, nodup⟩ := List.nodup_cons.mp h.nodup
  have noGap : NoGapOn i s := fun y hy => by
    obtain rfl := Option.some.inj (on.2.symm.trans hy)
    exact h.noGap
  let v := enterStopping .abandoned k s
  have e : Stops i .abandoned s v := enterStopping_stops hi noGap on.1
  obtain rfl := findInst_id hi
  have moved : Moved i.id (stopped .abandoned n) s v := by
    rw [← h.count]
    exact e.moved
  refine ⟨⟨e.moveStep moved rfl, enterStopping_noticeless hi noGap on.1, e.bkt, ⟨_, e.pln⟩,
    enterStopping_other hi on h.noGap⟩, ?_⟩
  refine ⟨nodup, ?_, ?_, (time_of_timeOf moved.time).1.trans h.count, fun j hj => ?_⟩
  · rw [DistinctIds, moved.lst, modInst_ids i.id (stopped .abandoned n) (fun _ => rfl)]
    exact h.distinct
  · obtain same | off := moved.mon t
    · rw [same]
      exact h.noGap
    · rw [off]
      exact nofun
  · have differ : j ≠ i.id := fun same => first (same ▸ hj)
    rw [findInst_of_lst moved.lst, findInst_modInst_other differ (stopped .abandoned n) (fun _ => rfl)]
    exact h.ahead j (List.mem_cons_of_mem _ hj)

/-- What the steps leave together. -/
theorem Chain.abandoned (c : Chain (AbandonStep t n) ks s u) : u.lnk = s.lnk ∧ u.bkt = s.bkt ∧
    (∃ b, u.pln = dirtied b s.pln) ∧ tunerRun (otherTuner t) u = tunerRun (otherTuner t) s := by
  induction c with
  | nil s => exact ⟨rfl, rfl, ⟨false, rfl⟩, rfl⟩
  | cons step _ ih =>
    obtain ⟨lnk, bkt, ⟨c, pln⟩, other⟩ := ih
    obtain ⟨b, before⟩ := step.pln
    exact ⟨lnk.trans step.lnk, bkt.trans step.bkt, ⟨b || c, by rw [pln, before, dirtied_dirtied]⟩,
      other.trans step.other⟩

theorem abandons_recordingOn (hD : DistinctIds s) (gap : (tunerRun t s).mon ≠ .gap) :
    Abandons t s.clk.count ((recordingOn t s).map (fun i => i.id)) s := by
  refine ⟨recordingOn_nodup hD, hD, gap, rfl, fun k hk => ?_⟩
  obtain ⟨i, hi, rfl⟩ := List.mem_map.mp hk
  obtain ⟨mem, on⟩ := mem_recordingOn_iff.mp hi
  exact ⟨i, findInst_of_mem hD mem, on⟩

/-- What the sweep over a tuner's recordings leaves. -/
structure AllStopped (t : Tuner) (s u : State) : Prop where
  insts : u.lst.insts = s.lst.insts.map (fun i => if RecordingOn t i then stopped .abandoned s.clk.count i else i)
  stop : ∀ i ∈ s.lst.insts, RecordingOn t i →
    heldDelay (.stopConfirm i.id) u = some { kind := .stopConfirm i.id, left := 30 * Config.unitsPerSecond }
  parts : KeepsParts s u
  lnk : u.lnk = s.lnk
  cnd : u.cnd = s.cnd
  pln : ∃ b, u.pln = dirtied b s.pln
  other : tunerRun (otherTuner t) u = tunerRun (otherTuner t) s
  active : ∀ y, (tunerRun y u).active = (tunerRun y s).active
  noGap : (tunerRun t u).mon ≠ .gap

theorem allStopped_recordingOn (hD : DistinctIds s) (gap : (tunerRun t s).mon ≠ .gap) :
    AllStopped t s ((recordingOn t s).foldl (fun u i => enterStopping .abandoned i.id u) s) := by
  let ks := (recordingOn t s).map (fun i => i.id)
  let u := ks.foldl (fun u k => enterStopping .abandoned k u) s
  have start : Abandons t s.clk.count ks s := abandons_recordingOn hD gap
  have c : Chain (AbandonStep t s.clk.count) ks s u := foldl_chain (fun _ _ _ h => h.step) start
  have m : MovedAll (stopped .abandoned s.clk.count) (fun _ => false) (fun _ => true) ks s u :=
    Chain.movedAll (by exact fun _ => rfl) (c.mono (fun _ _ _ h => h.move)) start.nodup
  obtain ⟨lnk, bkt, pln, other⟩ := c.abandoned
  have among (i : Inst) (hi : i ∈ s.lst.insts) : i.id ∈ ks ↔ RecordingOn t i := by
    refine ⟨fun h => ?_, fun h => List.mem_map_of_mem (mem_recordingOn_iff.mpr ⟨hi, h⟩)⟩
    obtain ⟨j, found, on⟩ := start.ahead i.id h
    rwa [mem_eq_of_findInst hD found hi rfl]
  have all : AllStopped t s u := by
    refine ⟨?_, fun i hi on => m.stop i.id ((among i hi).mpr on) rfl,
      ⟨m.gst, bkt, m.claims, time_of_timeOf m.time, by rw [lnk], m.wsv⟩, lnk, m.cnd, pln, other, fun y => ?_, ?_⟩
    · rw [m.lst]
      exact List.map_congr_left (fun i hi => if_congr (among i hi) rfl rfl)
    · rw [m.active]
      simp
    · obtain same | off := m.mon t
      · rw [same]
        exact gap
      · rw [off]
        exact nofun
  rwa [show u = _ from List.foldl_map] at all

end Sweep

/-! ## The outputs of the event -/

section Outputs

variable {t : Tuner} {n : Nat} {f : Inst → Inst} {s x : State}

/-- A recording after the abandonment of its tuner. -/
def afterAbandon (t : Tuner) (n : Nat) (f : Inst → Inst) (i : Inst) : Inst :=
  if RecordingOn t i then stopped .abandoned n (f i) else f i

theorem uncharged_afterAbandon (kept : ∀ i, uncharged (f i) = uncharged i) (i : Inst) :
    uncharged (afterAbandon t n f i) = uncharged (if RecordingOn t i then stopped .abandoned n i else i) := by
  unfold afterAbandon
  split
  · show stopped .abandoned n (uncharged (f i)) = stopped .abandoned n (uncharged i)
    rw [kept]
  · exact kept i

/-- Who runs still runs, and who is planned stands: the summaries stay (R82). -/
theorem summaries_afterAbandon (kept : ∀ i, uncharged (f i) = uncharged i)
    (e : x.lst.insts = s.lst.insts.map (afterAbandon t n f)) :
    runningCount x = runningCount s ∧ earliestPlanned x = earliestPlanned s := by
  have keeps (i : Inst) : isRunning (afterAbandon t n f i).state = isRunning i.state ∧
      ((afterAbandon t n f i).state == .planned) = (i.state == .planned) ∧
      (i.state = .planned → (afterAbandon t n f i).window = i.window) := by
    obtain ⟨-, state, -, window⟩ := inner_of_uncharged (kept i)
    unfold afterAbandon
    split
    · rename_i on
      rw [on.1]
      exact ⟨rfl, rfl, nofun⟩
    · rw [state]
      exact ⟨rfl, rfl, fun _ => window⟩
  refine ⟨?_, ?_⟩
  · rw [runningCount, e, List.filter_map, List.length_map]
    exact congrArg List.length (List.filter_congr (fun i _ => (keeps i).1))
  · have starts : (plannedInsts x).map winStart = (plannedInsts s).map winStart := by
      rw [plannedInsts, e, List.filter_map, List.map_map]
      have same : s.lst.insts.filter ((fun i => i.state == .planned) ∘ afterAbandon t n f) = plannedInsts s :=
        List.filter_congr (fun i _ => (keeps i).2.1)
      rw [same]
      refine List.map_congr_left (fun i hi => ?_)
      have planned : i.state = .planned := eq_of_beq (List.mem_filter.mp hi).2
      exact congrArg (fun w : Option Window => (w.map (fun w => w.ws)).getD 0) ((keeps i).2.2 planned)
    have minima (y : State) : earliestPlanned y = ((plannedInsts y).map winStart).foldl minOpt none := List.foldl_map.symm
    rw [minima, minima, starts]

end Outputs

/-! ## The abandonment -/

section Abandon

variable {t : Tuner} {s : State}

/-- What an abandonment leaves before the outputs settle. -/
structure Abandoned (t : Tuner) (f : Inst → Inst) (named : Option Nat) (s x : State) : Prop where
  kept : ∀ i, uncharged (f i) = uncharged i
  insts : x.lst.insts = s.lst.insts.map (afterAbandon t s.clk.count f)
  off : (tunerRun t x).mon = .off ∧ (tunerRun t x).tol = 0 ∧ (tunerRun t x).drop = none ∧ (tunerRun t x).grace = none
  active : (tunerRun t x).active = (tunerRun t s).active
  other : tunerRun (otherTuner t) x = tunerRun (otherTuner t) s
  tick : heldDelay (.lockTick t) x = none
  stop : ∀ i ∈ s.lst.insts, RecordingOn t i →
    heldDelay (.stopConfirm i.id) x = some { kind := .stopConfirm i.id, left := 30 * Config.unitsPerSecond }
  parts : KeepsParts s x
  pln : x.pln = dirtied true s.pln
  cnd : x.cnd = (submit (lockAbandoned t) (submit (signalGap t named) (gapAdvanced t s))).cnd
  lnk : x.lnk = (submit (lockAbandoned t) (submit (signalGap t named) (gapAdvanced t s))).lnk

theorem execLockAbandon_delivered (due : Delivered (.abandon t) s) :
    exec (.lockAbandon t) s = .next (settle s (takeAbandon t (withdrawDue (.abandon t) s))) :=
  congrArg Host.Outcome.next (onDue_taken (takeDue_delivered due))

theorem MonitorsRest.parts {u : State} (h : MonitorsRest s u) : KeepsParts s u := by
  refine ⟨?_, ?_, ?_, ?_, ?_, ?_⟩
  all_goals rw [h.rest]
  exact ⟨rfl, rfl, rfl⟩

theorem setDirty_parts (s : State) : KeepsParts s (setDirty s) := ⟨rfl, rfl, rfl, ⟨rfl, rfl, rfl⟩, rfl, rfl⟩

/-- The gap of a tuner has been closed, and LOCK_ABANDONED is submitted: what is still to be done is to stop. -/
structure Told (t : Tuner) (f : Inst → Inst) (named : Option Nat) (s z : State) : Prop where
  kept : ∀ i, uncharged (f i) = uncharged i
  insts : z.lst.insts = s.lst.insts.map f
  tuner : tunerRun t z = { tunerRun t s with mon := .watching, drop := none, charged := [] }
  other : tunerRun (otherTuner t) z = tunerRun (otherTuner t) s
  parts : KeepsParts s z
  pln : z.pln = s.pln
  log : SameLog z (submit (lockAbandoned t) (submit (signalGap t named) (gapAdvanced t s)))

theorem GapClosed.told {f : Inst → Inst} {named : Option Nat} {c : State}
    (g : GapClosed t f named (withdrawDue (.abandon t) s) c) :
    Told t f named s (submit (lockAbandoned t) (modTuner t (fun r => { r with mon := .watching }) c)) := by
  let v := withdrawDue (.abandon t) s
  let y := modTuner t (fun r => { r with mon := .watching }) c
  have runs (x : Tuner) : tunerRun x (submit (lockAbandoned t) y) = tunerRun x y := tunerRun_of_run (submit_run ..) x
  have clk : (submit (lockAbandoned t) y).clk = { s.clk with dues := duesWithout (.abandon t) v } := by
    rw [submit_clk, modTuner_clk, g.clk]
    rfl
  have same : SameLog v s := ⟨rfl, rfl, rfl⟩
  have turned : SameLog y c := ⟨modTuner_cnd .., modTuner_lnk .., congrArg (fun c => c.count) (modTuner_clk t _ c)⟩
  have log := (turned.trans (g.log.trans ((same.advanced t).submit _))).submit (lockAbandoned t)
  obtain ⟨ns, o, grown⟩ := ((gapAdvanced_noticesOnly t s).trans (submit_noticesOnly (signalGap t named) _)).trans
    (submit_noticesOnly (lockAbandoned t) _)
  refine ⟨g.kept, ?_, ?_, ?_, ⟨?_, ?_, ?_, ?_, ?_, ?_⟩, ?_, log⟩
  · rw [submit_lst, modTuner_lst, g.lst]
    rfl
  · rw [runs, tunerRun_modTuner_same, g.tuner]
    rfl
  · rw [runs, tunerRun_modTuner_other (otherTuner_ne t), g.other]
    rfl
  · rw [submit_gst, modTuner_gst, g.gst]
    rfl
  · rw [submit_bkt, modTuner_bkt, g.bkt]
    rfl
  · rw [submit_run, modTuner_claims, g.run, modTuner_claims]
    rfl
  · rw [clk]
    exact ⟨rfl, rfl, rfl⟩
  · rw [log.lnk, grown]
  · rw [submit_wsv, modTuner_wsv, g.wsv]
    rfl
  · rw [submit_pln, modTuner_pln, g.pln]
    rfl

/-- A charged recording is on the tuner when it was. -/
theorem recordingOn_of_kept {f : Inst → Inst} (kept : ∀ i, uncharged (f i) = uncharged i) (i : Inst) :
    RecordingOn t (f i) ↔ RecordingOn t i := by
  obtain ⟨-, state, tuner, -⟩ := inner_of_uncharged (kept i)
  rw [RecordingOn, RecordingOn, state, tuner]

theorem Told.abandoned {f : Inst → Inst} {named : Option Nat} {z : State} (h : Told t f named s z) (hD : DistinctIds s) :
    Abandoned t f named s
      (setDirty (monitorOff t ((recordingOn t z).foldl (fun u i => enterStopping .abandoned i.id u) z))) := by
  let w := (recordingOn t z).foldl (fun u i => enterStopping .abandoned i.id u) z
  have ids (i : Inst) : (f i).id = i.id := (inner_of_uncharged (h.kept i)).1
  have distinct : DistinctIds z := by
    rw [DistinctIds, h.insts, List.map_map]
    exact (congrArg List.Nodup (List.map_congr_left (fun i _ => ids i))).mpr hD
  have watching : (tunerRun t z).mon ≠ .gap := by
    rw [h.tuner]
    exact nofun
  have all : AllStopped t z w := allStopped_recordingOn distinct watching
  have off : MonitorsRest w (monitorOff t w) := monitorOff_rest all.noGap
  have count : z.clk.count = s.clk.count := h.parts.time.1
  have run : tunerRun t (setDirty (monitorOff t w)) =
      { tunerRun t w with mon := .off, tol := 0, drop := none, grace := none, charged := [] } :=
    tunerRun_monitorOff_same all.noGap
  obtain ⟨b, pln⟩ := all.pln
  refine ⟨h.kept, ?_, ?_, ?_, ?_, ?_, fun i hi on => ?_, ?_, ?_, ?_, ?_⟩
  · rw [setDirty_lst, off.rest]
    show w.lst.insts = _
    rw [all.insts, h.insts, List.map_map, count]
    refine List.map_congr_left (fun i _ => ?_)
    exact if_congr (recordingOn_of_kept h.kept i) rfl rfl
  · rw [run]
    exact ⟨rfl, rfl, rfl, rfl⟩
  · rw [run]
    show (tunerRun t w).active = _
    rw [all.active, h.tuner]
  · have run : tunerRun (otherTuner t) (setDirty (monitorOff t w)) = _ :=
      tunerRun_monitorOff_other all.noGap (otherTuner_ne t)
    rw [run, all.other, h.other]
  · rw [monitorOff_noGap all.noGap]
    exact heldDelay_cancelDelay_same (.lockTick t) _
  · have mem : f i ∈ z.lst.insts := by
      rw [h.insts]
      exact List.mem_map_of_mem hi
    have stop := all.stop (f i) mem ((recordingOn_of_kept h.kept i).mpr on)
    rw [ids] at stop
    exact (off.delays (.stopConfirm i.id) nofun).trans stop
  · exact (h.parts.trans all.parts).trans (off.parts.trans (setDirty_parts _))
  · rw [setDirty_pln, off.rest]
    show dirtied true w.pln = _
    rw [pln, dirtied_dirtied, h.pln, Bool.or_true]
  · rw [setDirty_cnd, off.rest]
    exact all.cnd.trans h.log.cnd
  · rw [setDirty_lnk, off.rest]
    exact all.lnk.trans h.log.lnk

end Abandon

/-- Settles O34: the gap is closed and told of, then a sweep stops each recording of the tuner, and the monitor turns OFF. -/
theorem lockAbandonStopsTheTuner : Obligations.LockAbandonStopsTheTuner := by
  unfold Obligations.LockAbandonStopsTheTuner
  intro s t hS hD due
  refine ⟨fun gap => ?_, fun closed => ?_⟩
  · let v := withdrawDue (.abandon t) s
    obtain ⟨f, named, g, charges⟩ := closeGap_closed t v
    let x := takeAbandon t v
    have a : Abandoned t f named s x := by
      rw [show x = _ from if_pos gap]
      exact g.told.abandoned hD
    have active (y : Tuner) : (tunerRun y x).active = (tunerRun y s).active := by
      obtain rfl | rfl := eq_or_eq_otherTuner y t
      · exact a.active
      · rw [a.other]
    have settled : settle s x = settleOutputs s x := by
      rw [settle, retryStarts_same_waits (active .a) (active .b) a.parts.claims]
    have run (y : Tuner) : tunerRun y (settleOutputs s x) = tunerRun y x := tunerRun_of_run (settleOutputs_run ..) y
    have insts := (settleOutputs_insts s x).trans a.insts
    have cnd := (settleOutputs_cnd s x).trans a.cnd
    obtain ⟨running, planned⟩ := summaries_afterAbandon a.kept a.insts
    obtain ⟨lnk, -⟩ := settleOutputs_unchanged hS running planned
    obtain ⟨off, tol, drop, grace⟩ := a.off
    refine ⟨settleOutputs s x, ?_, ?_, ?_, ?_, ?_, ?_, ?_, ?_, (run _).trans a.other, ?_, settleOutputs_asks a.pln, ?_,
      a.parts.others s, fun i hi on => (settleOutputs_heldDelay ..).trans (a.stop i hi on), fun d hd => ?_⟩
    · rw [execLockAbandon_delivered due, settled]
    · rw [insts, List.map_map]
      exact List.map_congr_left (fun i _ => uncharged_afterAbandon a.kept i)
    · rw [run, off]
    · rw [run, tol]
    · rw [run, drop]
    · rw [run, grace]
    · rw [run, a.active]
    · exact (settleOutputs_heldDelay ..).trans a.tick
    · rw [cnd, submit_gapAt, submit_gapAt, gapAdvanced_count]
    · obtain ⟨ns, o, e⟩ := ((gapAdvanced_noticesOnly t s).trans (submit_noticesOnly (signalGap t named) _)).trans
        (submit_noticesOnly (lockAbandoned t) _)
      rw [settleOutputs_tx, a.lnk, e]
    · obtain ⟨charged, names⟩ := charges d hd hD
      refine ⟨?_, named, names, cnd, ?_, ?_⟩
      · rw [insts]
        refine List.map_congr_left (fun i hi => ?_)
        have charge := List.map_inj_left.mp charged i hi
        rw [afterAbandon, charge]
        split
        · rfl
        · rfl
      · rw [lnk, ← a.lnk]
      · rw [lnk, ← a.lnk]
  · have stands : takeAbandon t (withdrawDue (.abandon t) s) = withoutDue (.abandon t) s := if_neg closed
    rw [execLockAbandon_delivered due, stands, settle_withoutDue (k := .abandon t) hS nofun]

end Sys2Proof.Machine
